-- ==== Sys2Proof/Word.lean ====
section
/-!
DEFINITION. The word types of the PF8 (R9, R10): bytes, 32-bit registers, 64-bit scalars and addresses, 64 B lines, 256 B flits.
-/
namespace Sys2Proof

/-- One byte. -/
abbrev Byte := BitVec 8
/-- A register, a slot or a key (R15, R98). -/
abbrev W32 := BitVec 32
/-- A scalar register or a global address (R65, R260). -/
abbrev W64 := BitVec 64
/-- A 64 B line, byte i at bits [8i+7:8i] (R9, R10). -/
abbrev Line := BitVec 512
/-- A vector register (R65). -/
abbrev VReg := BitVec 2048

end Sys2Proof
end

