-- ==== Sys2Proof/Syntax.lean ====
section
/-!
DEFINITION. The commands of the PF8: one constructor of Instr per row of spec/opcode_table.json.
The table gives no operands. Each constructor carries what the spec's rule for the row names: the unit that acts, the
value written, the request, reply, flit or descriptor that arrives, or the quantity that a physical event measures.
-/
namespace Sys2Proof

/-- Compute dies CD0-CD7, and the store dies beneath them (R2). -/
abbrev DieN := Fin 8
/-- Hub ports P0-P31 (R2). -/
abbrev PortN := Fin 32
/-- Stacks MS0-MS11 and their controllers (R2). -/
abbrev StackN := Fin 12
/-- I/O dies IO0, IO1 (R2). -/
abbrev IoN := Fin 2
/-- Submission rings and completion rings (R331, R351). -/
abbrev RingN := Fin 256
/-- Tile groups (R76). -/
abbrev GroupN := Fin 1024
/-- Plait groups (R117). -/
abbrev PlaitN := Fin 4096
/-- Rim channels (R122). -/
abbrev ChanN := Fin 64
/-- Laser indexes (R230). -/
abbrev LaserN := Fin 324
/-- Rings of the fabric (R239). -/
abbrev HeatN := Fin 19008
/-- Granules of the region table (R263). -/
abbrev GranuleN := Fin 2097152
/-- Planes PL0-PL8 (R187). -/
abbrev PlaneN := Fin 9
/-- Entries of the die identity table (R29). -/
abbrev DieIdx := Fin 33
/-- Fibre pairs of one I/O die (R360). -/
abbrev FibreN := Fin 16

/-- A tile site: its die and its site number (R73). -/
structure TileId where
  die : DieN
  site : Fin 288
deriving DecidableEq, Repr

/-- The four slots of a bundle (R98). -/
inductive SlotPos where
  | s | v | m | x
deriving DecidableEq, Repr

/-- The uncorrectable error that the error codes find as a slot reads its bundle, its registers, its accumulator or the
scratchpad (R69, R159). -/
inductive Ecc where
  | none
  | bundle           -- uncorrectable, in the instruction store
  | register         -- uncorrectable, in a register file
  | accumulator      -- uncorrectable, in an accumulator
  | spad             -- uncorrectable, in a scratchpad word read by the slot, or by the mover for an X slot
deriving DecidableEq, Repr

/-- Which slot of which bundle issues (R98, R99). `fresh` marks the first slot of a new bundle; `stall` is the number of
cycles the bundle stalled before it issued (R100, R104, R123, R155), an input because the model keeps no pipeline;
`slotFull` of them were for a mover or signal slot (R67). `bank` counts the port-A cycles lost by the bundle or, behind its
read-ahead buffer, by the matrix engine (R155). `corrected` single-bit errors were corrected in the bundle, the register files
and the accumulators as the slot read them, whether or not its guard holds, and `spadCorrected` in the scratchpad words that it
reads (R69, R159). `ecc` is the uncorrectable error found; in a transfer of an X slot `spadWord` names the bad 64 B word,
counted from the first. -/
structure SlotHdr where
  tile : TileId
  fresh : Bool
  stall : Nat
  slotFull : Nat
  bank : Nat
  corrected : Nat
  spadCorrected : Nat
  ecc : Ecc
  spadWord : Fin 64
  neg : Bool
  pred : Fin 8
deriving DecidableEq, Repr

/-- The fields of a request (R192, R273). `data` is its lines; `zeros` is the number formed by its bits marked zero. -/
structure Req where
  srcNode : BitVec 16
  srcUnit : BitVec 16
  inc : Byte
  seq : BitVec 24
  opc : BitVec 16
  retry : Bool
  remote : Bool
  nflits : Nat
  key : W32
  ga : W64
  replyPort : PortN
  lines : Nat
  rack : Option (BitVec 24)
  operand : W64
  compare : W64
  deadline : Nat
  zeros : Nat
  data : List Line
deriving DecidableEq, Repr

/-- The tag of a message of another node, with its DEADLINE in system time (R277, R379). -/
structure NodeTag where
  node : BitVec 16
  unit : BitVec 16
  inc : Byte
  seq : BitVec 24
  deadline : Nat
deriving DecidableEq, Repr

/-- The fields of a reply (R274). A line `none` is a marked line, which leaves its destination unchanged (R287). -/
structure Reply where
  srcNode : BitVec 16
  srcUnit : BitVec 16
  inc : Byte
  seq : BitVec 24
  opc : BitVec 16
  status : Byte
  saturated : Bool
  ledgerHit : Bool
  detail : W32
  value : W64
  data : List (Option Line)
deriving DecidableEq, Repr

/-- A fabric flit, 256 B, byte i at bits [8i+7:8i] (R192). -/
abbrev Flit := BitVec 2048

/-- A Withy flit (R363) with its payload. -/
structure WithyFlit where
  destNode : BitVec 16
  srcNode : BitVec 16
  srcUnit : BitVec 16
  seq : BitVec 24
  inc : Byte
  kind : BitVec 3
  tc : BitVec 2
  epoch : Bool
  hops : BitVec 2
  destPort : PortN
  reply : Bool
  payload : BitVec 1920
deriving DecidableEq, Repr

/-- One scratchpad segment of a lap image (R124). -/
structure Segment where
  offset : BitVec 14
  length : BitVec 15
  r : Bool
  w : Bool
  mv : Bool
deriving DecidableEq, Repr

/-- A lap image as the loader receives it (R124): the fields of its header, and the body. -/
structure LapImage where
  magic : W32
  version : BitVec 16
  heat : Byte
  bound : W32
  bundles : BitVec 16
  entry : BitVec 16
  tag : W64
  segs : List Segment
  digest : BitVec 256
  body : List (BitVec 128)
deriving DecidableEq, Repr

/-- A course-list entry, 32 B (R79). -/
structure CourseEntry where
  imageGa : W64
  arg : W64
  rpt : BitVec 16
  last : Bool
  keySlot : Fin 8
  zeros : Nat
deriving DecidableEq, Repr

/-- What bring-up finds in the phase that ends (R431, R33, R74, R433, R442, R445). -/
structure PhaseReport where
  unreadable : List DieIdx      -- identity unreadable within 1 ms (R33)
  failedSites : List TileId     -- sites that fail self-test (R74)
  failedDies : List DieN        -- compute dies that fail self-test (R433)
  failedStacks : List StackN    -- controllers that fail self-test (R431 phase 9)
  noPair : Bool                 -- no pair from an I/O hub trains (R433)
  mastersFailed : Bool          -- both generators fail their self-check (R433)
  sealIntact : Bool             -- the loop test of phase 2 (R439)
  rngOk : List Bool             -- the random sources of IO0 and IO1 (R451)
  storeBad : List IoN           -- sealed-store copies that fail their digests (R445)
  lostPlanes : List PlaneN      -- planes lost before phase 9 (R202)
  maskedLanes : List (Nat × PlaneN)  -- lanes still masked at the end of phase 8, by pair 32 s + d (R431)
  ms : Nat                      -- duration of the phase in ms (R434)
deriving DecidableEq, Repr

/-- Quantities of the calibration engine (R248). -/
inductive CalQty where
  | monitor | grid | eta | kff | modSlope | driver | rxGain | rxOffset | tempSensor | voltSensor | leg
deriving DecidableEq, Repr

/-- Why a unit was reset, isolated or declared lost, as the event tables code it. -/
inductive Cause where
  | register | selfCheck | clock | regulator | dieReset
deriving DecidableEq, Repr

/-- How a host transaction ended (R328): with the lines that a read returned, or with an error. -/
inductive HostResult where
  | ok (data : List Line)
  | unsupported
  | aborted
  | poisoned
deriving DecidableEq, Repr

/-- The ports of a mesh router (R70). -/
inductive MeshDir where
  | north | south | east | west | tile
deriving DecidableEq, Repr

/-- The regions of the memory and I/O class (R54, R57). -/
inductive MemRegion where
  | stack (k : StackN) | hub (p : PortN) | io (n : IoN)
deriving DecidableEq, Repr

/-- The decisions of an identity window (R245). -/
inductive IdentityResult where
  | correct | wrong (colour : Fin 33) | ambiguous | parkedTone
deriving DecidableEq, Repr

/-- What a slot read from the medium shows (R300, R307). -/
inductive SlotRead where
  | good (corrected : Nat)      -- decoded with this many bits corrected
  | uncorrectable
  | pathFault (line : Fin 64)   -- a line check fails and the three results differ (step 4)
  | wrongContent                -- a line check fails and the three results agree (step 4)
  | repeated (n : Fin 4) (signal : Fin 17) (r : SlotRead)  -- the transfer fails its CRC n times, traced to a signal, with this result (R295)
deriving DecidableEq, Repr

/-- What the codes find as lines of a slice or of a system area, or words of a scratchpad at port B, are read (R159, R167):
words in which a single-bit error is corrected; the lines of the read, counted from 0, that are uncorrectable in the array; and,
for a line whose transfer is damaged on the way, the transfers that arrive, in order, each with its line check. A line that
`moved` does not list arrives as it was sent. -/
structure LineRead where
  corrected : Nat
  failed : List Nat
  moved : List (Nat × List (Line × W32))
deriving DecidableEq, Repr

/-- A read in which the codes find nothing. -/
def LineRead.clean : LineRead := ⟨0, [], []⟩

/-- A codeword as a receiver decodes it (R190, R191): whether no earlier flit brought it already, whether it is uncorrectable, the
symbols corrected, and its 544 symbols as received. -/
structure CwRead where
  fresh : Bool
  failed : Bool
  corrected : List (Fin 544)
  symbols : List (BitVec 10)
deriving DecidableEq, Repr

/-- A flit that is ready for a slot of a pair (R198), with the input of the hub at which it waits: 0 the vertical link, 1 the relayed
flits, 2 the hub's own engines. -/
structure ReadyFlit where
  input : Fin 3
  tc : Fin 4
  flit : Flit
deriving DecidableEq, Repr

/-- A measured value, and what a second measurement gives (R249). -/
structure Measured where
  value : Int
  again : Int
deriving DecidableEq, Repr

/-- A calibrated element, and the driver segment or amplifier slice to which a result outside the hard range points (R249). -/
structure CalElement where
  num : Nat
  part : Fin 8
deriving DecidableEq, Repr

/-- What a ring's loop senses (R240, R241): the lock-in output, the warming of the hub site in 1/16 K, and whether the heater is
whole. -/
structure LoopSense where
  lockIn : Int
  warmer : Int
  heaterOk : Bool
deriving DecidableEq, Repr

/-- The temperatures that a calibration image records (R252): BL's mean, and those of the hub sites' sensors. -/
structure CalTemps where
  mean : BitVec 32
  sites : List (BitVec 16)
deriving DecidableEq, Repr

/-- A reference that has come back (R44): its phase offset in 1/64 st, and since when it has been present without a break. -/
structure RefReturn where
  offset64 : Int
  since : Nat
deriving DecidableEq, Repr

/-- A link of a mesh: a router and the port by which a flit leaves it (R70). -/
structure MeshHop where
  site : Fin 288
  dir : MeshDir
deriving DecidableEq, Repr

/-- A region entry that fills a lookaside cache (R68), and what the codes find as the mover reads the source of each request that
goes out, by its sequence number. -/
structure LookFill where
  granule : GranuleN
  found : List (BitVec 24 × LineRead)
deriving DecidableEq, Repr

/-- A rim flag value on its way to a hub (R220, R381): from a hub of the package, or with the tag of another node's message. -/
structure FlagUpdate where
  value : W32
  tag : Option NodeTag
deriving DecidableEq, Repr

/-- An arrival of another node at a barrier's root (R381): the I/O die that it reaches, its generation and its tag. -/
structure NodeArrival where
  io : IoN
  gen : Bool
  tag : NodeTag
deriving DecidableEq, Repr

/-- The system times at which the parent took an exchange and answered it (R379). -/
structure ParentStamps where
  taken : Int
  answered : Int
deriving DecidableEq, Repr

/-- The kind of work a stack's background engine visits a slot for (R306, R314). -/
inductive VisitKind where
  | skim | verify
deriving DecidableEq, Repr

/-- Evidence at the standby when heartbeats are missed (R405). -/
inductive HeartbeatEvidence where
  | opticalOnly | electricalOnly | bothWithEvidence | bothAlive
deriving DecidableEq, Repr

/-- The commands. Each docstring-free line is one row of the table; its rule is in the table and in the meaning's docstring. -/
inductive Instr where
  -- bring-up, registers, time (R38-R64, R419, R431, R432, R472)
  | powerUp (feedA feedB : Bool)
  | bringupPhaseDone (r : PhaseReport)
  | stakeMasterStart
  | proceed
  | restoreGateTimeout
  | registerWrite (addr : BitVec 26) (value : W32)
  | loRegisterRead (addr : BitVec 26)
  | smbusRead (block : List Byte) (pecOk : Bool)
  | frameTick
  | lapInstant
  | courseStart (g : GroupN)
  | masterSwitched
  | masterFailed
  | stakeLegMeasure (leg : Fin 54) (m : Measured)
  | refLost (deviation : Option Int) (lastEdge : Nat)
  | refRestored (ref : RefReturn)
  | slewDone
  | droopStretch (die : DieN) (site : Option (Fin 288))
  | railRampStart
  | railRampSettled
  | memstopSecondWave
  | memstopRegionRestart (r : MemRegion) (stopSt : Nat)
  | stakeEcho (hub : PortN) (die : Fin 30) (offset : Int)
  | dieClockLost (hub : PortN) (die : Fin 30)
  | vlinkSpared (hub : PortN) (transmit : Bool) (group : Fin 32) (signal : Nat)
  | vlinkHalfWidth (hub : PortN) (healthyGroups : Fin 33)
  | meshRerouted (die : DieN)
  | meshLinkSuspect (die : DieN) (link : MeshHop) (flits : List Flit)
  -- tile instruction set (R98-R125)
  | nop (h : SlotHdr) (slot : SlotPos) (word : W32)
  | endOp (h : SlotHdr) (w : BitVec 22)
  | lapEnd (tile : TileId) (drainCycles : Nat)
  | add (h : SlotHdr) (w : BitVec 22)
  | sub (h : SlotHdr) (w : BitVec 22)
  | mul (h : SlotHdr) (w : BitVec 22)
  | mulhu (h : SlotHdr) (w : BitVec 22)
  | and (h : SlotHdr) (w : BitVec 22)
  | or (h : SlotHdr) (w : BitVec 22)
  | xor (h : SlotHdr) (w : BitVec 22)
  | shl (h : SlotHdr) (w : BitVec 22)
  | shr (h : SlotHdr) (w : BitVec 22)
  | sar (h : SlotHdr) (w : BitVec 22)
  | min (h : SlotHdr) (w : BitVec 22)
  | max (h : SlotHdr) (w : BitVec 22)
  | minu (h : SlotHdr) (w : BitVec 22)
  | maxu (h : SlotHdr) (w : BitVec 22)
  | addi (h : SlotHdr) (w : BitVec 22)
  | andi (h : SlotHdr) (w : BitVec 22)
  | ori (h : SlotHdr) (w : BitVec 22)
  | xori (h : SlotHdr) (w : BitVec 22)
  | shli (h : SlotHdr) (w : BitVec 22)
  | shri (h : SlotHdr) (w : BitVec 22)
  | sari (h : SlotHdr) (w : BitVec 22)
  | movi (h : SlotHdr) (w : BitVec 22)
  | sli (h : SlotHdr) (w : BitVec 22)
  | cmp (h : SlotHdr) (w : BitVec 22)
  | cmpi (h : SlotHdr) (w : BitVec 22)
  | plog (h : SlotHdr) (w : BitVec 22)
  | br (h : SlotHdr) (w : BitVec 22)
  | loop (h : SlotHdr) (w : BitVec 22)
  | ld (h : SlotHdr) (w : BitVec 22)
  | st (h : SlotHdr) (w : BitVec 22)
  | rdsr (h : SlotHdr) (w : BitVec 22)
  | wrsr (h : SlotHdr) (w : BitVec 22)
  | waitUntil (h : SlotHdr) (w : BitVec 22)
  | wait (h : SlotHdr) (w : BitVec 22)
  | signal (h : SlotHdr) (w : BitVec 22)
  | waitd (h : SlotHdr) (w : BitVec 22)
  | waitdr (h : SlotHdr) (w : BitVec 22)
  | waitResume (tile : TileId) (cycles : Nat)
  | rimBar (h : SlotHdr) (w : BitVec 22)
  | rimSet (h : SlotHdr) (w : BitVec 22)
  | rimWaitf (h : SlotHdr) (w : BitVec 22)
  | vadd (h : SlotHdr) (w : BitVec 22)
  | vsub (h : SlotHdr) (w : BitVec 22)
  | vmul (h : SlotHdr) (w : BitVec 22)
  | vfma (h : SlotHdr) (w : BitVec 22)
  | vfms (h : SlotHdr) (w : BitVec 22)
  | vfnma (h : SlotHdr) (w : BitVec 22)
  | vmin (h : SlotHdr) (w : BitVec 22)
  | vmax (h : SlotHdr) (w : BitVec 22)
  | vabs (h : SlotHdr) (w : BitVec 22)
  | vneg (h : SlotHdr) (w : BitVec 22)
  | vand (h : SlotHdr) (w : BitVec 22)
  | vor (h : SlotHdr) (w : BitVec 22)
  | vxor (h : SlotHdr) (w : BitVec 22)
  | vshl (h : SlotHdr) (w : BitVec 22)
  | vshr (h : SlotHdr) (w : BitVec 22)
  | vsar (h : SlotHdr) (w : BitVec 22)
  | vcmp (h : SlotHdr) (w : BitVec 22)
  | vblend (h : SlotHdr) (w : BitVec 22)
  | vexp2 (h : SlotHdr) (w : BitVec 22)
  | vlog2 (h : SlotHdr) (w : BitVec 22)
  | vrsqrt (h : SlotHdr) (w : BitVec 22)
  | vrcp (h : SlotHdr) (w : BitVec 22)
  | vsin (h : SlotHdr) (w : BitVec 22)
  | vcos (h : SlotHdr) (w : BitVec 22)
  | vtanh (h : SlotHdr) (w : BitVec 22)
  | vcvt (h : SlotHdr) (w : BitVec 22)
  | vld (h : SlotHdr) (w : BitVec 22)
  | vst (h : SlotHdr) (w : BitVec 22)
  | vlds (h : SlotHdr) (w : BitVec 22)
  | vsts (h : SlotHdr) (w : BitVec 22)
  | vbcast (h : SlotHdr) (w : BitVec 22)
  | vtos (h : SlotHdr) (w : BitVec 22)
  | mma (h : SlotHdr) (w : BitVec 22)
  | azero (h : SlotHdr) (w : BitVec 22)
  | ald (h : SlotHdr) (w : BitVec 22)
  | ast (h : SlotHdr) (w : BitVec 22)
  | ard (h : SlotHdr) (w : BitVec 22)
  | awr (h : SlotHdr) (w : BitVec 22)
  | load (h : SlotHdr) (w : BitVec 22)
  | store (h : SlotHdr) (w : BitVec 22)
  | fadd32 (h : SlotHdr) (w : BitVec 22)
  | fadd64 (h : SlotHdr) (w : BitVec 22)
  | faddf32 (h : SlotHdr) (w : BitVec 22)
  | faddbf2 (h : SlotHdr) (w : BitVec 22)
  | swap64 (h : SlotHdr) (w : BitVec 22)
  | cas64 (h : SlotHdr) (w : BitVec 22)
  | min64 (h : SlotHdr) (w : BitVec 22)
  | max64 (h : SlotHdr) (w : BitVec 22)
  | and64 (h : SlotHdr) (w : BitVec 22)
  | or64 (h : SlotHdr) (w : BitVec 22)
  | xor64 (h : SlotHdr) (w : BitVec 22)
  | plait (h : SlotHdr) (w : BitVec 22)
  | rowrd (h : SlotHdr) (w : BitVec 22)
  | rowwr (h : SlotHdr) (w : BitVec 22)
  | rowMoveGrant (tile : TileId) (govCycle : Nat)
  | rowMoveDone (tile : TileId) (collided : List Nat) (found : LineRead)
  | moverReply (tile : TileId) (r : Reply) (collided : List Nat)
  | storeRelease (tile : TileId) (seq : BitVec 24) (found : LineRead)
  | lookasideFill (tile : TileId) (fill : LookFill)
  | imageLoaded (tile : TileId) (status entry : Nat)
  | courseEntryFetched (tile : TileId) (status entry : Nat)
  | imageRefetchDone (tile : TileId) (status cycles : Nat)
  | lapBoundExceeded (tile : TileId) (cycles : Nat)
  | courseComplete (g : GroupN)
  -- store dies (R161-R183)
  | sliceSpared (die : DieN) (slice : Fin 292) (positions : List (Fin 4608)) (repeats : Nat)
  | sliceEvacuated (die : DieN) (slice : Fin 292)
  | sdReset (die : DieN) (cause : Cause)
  | sdResetCleared (die : DieN)
  | sdReloaded (die : DieN)
  -- fabric links (R184-R203)
  | flitReceive (port : PortN) (colour : PortN) (flit : Flit) (word : CwRead) (more : List CwRead)
  | linkControlFlit (src dst : PortN) (ackSeq : BitVec 12) (nak : Option (BitVec 12)) (credits : List Nat)
  | replayTimeout (src dst : PortN)
  | flitLaunch (src dst : PortN) (link own : List ReadyFlit)
  | laneSuspect (src dst : PortN) (plane : PlaneN) (errors : Nat)
  | pairRetrain (src dst : PortN)
  | pairWidth (src dst : PortN)
  | laneSpared (src dst : PortN) (plane : PlaneN)
  -- hubs: counters, spokes, plaits, rim (R204-R224)
  | syncMirrorConfirm (counter : BitVec 16)
  | spokeLaunch (hub : PortN) (op : Nat)
  | spokeFollowup (hub : PortN) (op : Nat)
  | spokeOperationComplete (hub : PortN) (op : Nat)
  | plaitResultAcked (g : PlaitN)
  | plaitPartial (g : PlaitN)
  | rimArrival (hub : PortN) (ch : ChanN) (gen : Bool)
  | rimCompletion (hub : PortN) (ch : ChanN) (src : PortN)
  | rimFlagUpdate (hub : PortN) (ch : ChanN) (update : FlagUpdate)
  | hubReset (hub : PortN) (cause : Cause)
  | hubStateCopied (hub : PortN)
  | hubRestored (hub : PortN)
  -- light, rings, calibration, DARK (R230-R259)
  | laserPowerControl (l : LaserN) (spare : Bool) (power01mW current : Nat)
  | gridFeedforward (l : LaserN) (correction : Int)
  | gridMeasurement (l : LaserN) (m : Measured)
  | handoverPhaseLocked (l : LaserN)
  | handoverStep (l : LaserN)
  | handoverPhaseLoss (l : LaserN)
  | handoverLockTimeout (l : LaserN)
  | laserFailed (l : LaserN) (spare : Bool) (cause : Nat)
  | laserLanesReturned (l : LaserN)
  | ringLoopUpdate (r : HeatN) (loop : LoopSense) (residualMHz : Int)
  | ringUnlocked (r : HeatN)
  | ringAcquire (r : HeatN) (found : Option (BitVec 16))
  | identityWindow (r : HeatN) (res : IdentityResult)
  | ringRepair (src dst : PortN) (plane : PlaneN)
  | laneTestDone (src dst : PortN) (plane : PlaneN) (errorsPerMillion : Nat)
  | calMeasurement (q : CalQty) (element : CalElement) (m again : Int)
  | refvFault (deviation : Int)
  | refvRestored
  | lsrTargetWrite (l : LaserN) (value : W32)
  | save
  | calImageCapture (temps : CalTemps)
  | restore
  | darkRequest
  | darkEntered
  | relockRequest
  | relocked (acquired : Nat)
  | planeRelocked (plane : PlaneN)
  -- requests at their targets (R205, R213, R265-R288)
  | loadReq (r : Req) (res : SlotRead) (found : LineRead)
  | storeReq (r : Req) (collided : List Nat)
  | fadd32Req (r : Req)
  | fadd64Req (r : Req)
  | faddf32Req (r : Req)
  | faddbf2Req (r : Req)
  | swap64Req (r : Req)
  | cas64Req (r : Req)
  | min64Req (r : Req)
  | max64Req (r : Req)
  | and64Req (r : Req)
  | or64Req (r : Req)
  | xor64Req (r : Req)
  | plaitContributionReq (hub : PortN) (r : Req)
  | signalReq (hub : PortN) (r : Req)
  | counterSetReq (hub : PortN) (r : Req)
  | waitReq (hub : PortN) (r : Req)
  | spokeStoreReq (hub : PortN) (entry : Fin 1024) (flitIdx : Nat) (r : Req)
  | regionEntryReq (hub : PortN) (granule : GranuleN) (found : LineRead)
  | targetCacheFill (holder : BitVec 16) (granule : GranuleN)
  | replyAck (holder : BitVec 16) (srcNode srcUnit : BitVec 16) (inc : Byte) (seqs : List (BitVec 24))
  | requestWindowExpired (srcUnit : BitVec 16) (seq : BitVec 24)
  | ledgerEntryExpired (holder : BitVec 16) (srcNode srcUnit : BitVec 16) (inc : Byte) (seq : BitVec 24)
  | ledgerQuarantineEnd (holder : BitVec 16)
  | rgnStageAppend (keyHi : W32)
  | rgnStageClear
  | regionFold
  -- stacks (R290-R320)
  | pageFetchDone (k : StackN) (page : Nat) (res : SlotRead)
  | commitDone (k : StackN) (page : Nat)
  | skimVisit (k : StackN) (kind : VisitKind) (page : Nat) (res : SlotRead) (hard : Nat)
  | gapMove (k : StackN) (bg : Fin 1024)
  | channelSpared (k : StackN) (ch : Fin 128) (signal : Fin 17) (laneHealthy : List Bool)
  | pwrfailFlush (k : StackN)
  | pwrfailFlushDone (k : StackN)
  | pwrfailRelease (k : StackN)
  | scPowerUp (k : StackN) (scanSt : Nat)
  | verifyDone (k : StackN) (seconds : Nat)
  | scReset (k : StackN) (cause : Cause)
  | scDiscardReset (k : StackN)
  | scResetDone (k : StackN) (lost : List (Nat × Fin 64))
  -- host interface (R321-R330)
  | cxlLinkUp (n : IoN) (width : Fin 4) (cache : Bool)
  | cxlLinkDown (n : IoN) (notReached : Bool)
  | cxlPerst (n : IoN) (asserted : Bool)
  | ringsDisabledNoLink
  | apertureRead (n : IoN) (offset len : Nat)
  | apertureWrite (n : IoN) (offset : Nat) (bytes : List Byte)
  | aperBaseWrite (n : IoN) (value : W32)
  | hostWindowRequest (r : Req) (res : HostResult)
  | windowFlushRead (w : ChanN)
  | doorbellSnoop (kind : Fin 3) (n : RingN) (count : W32)
  | doorbellPoll (kind : Fin 3) (n : RingN) (count : W32)
  | sqDbFallbackWrite (n : RingN) (count : W32)
  -- rings and descriptors (R331-R354)
  | descriptorFetched (n : RingN) (desc : Option Line)
  | nopDesc (n : RingN)
  | launch (n : RingN)
  | copy (n : RingN) (host : List Line)
  | fill (n : RingN)
  | copyQuantumBegin (n : RingN) (num : W32) (host : List Line)
  | copyQuantumClose (n : RingN) (num : W32)
  | remote (n : RingN)
  | plaitDesc (n : RingN)
  | signalAdd (n : RingN)
  | signalSet (n : RingN)
  | rimFlagSetDesc (n : RingN)
  | waitCounterDesc (n : RingN)
  | waitRimBarrierDesc (n : RingN)
  | waitRimFlagDesc (n : RingN)
  | waitDescTimeout (n : RingN) (num : W32)
  | snapshot (n : RingN)
  | snapshotLatch (bank : Fin 2)
  | snapshotGatherDone (bank : Fin 2)
  | attest (n : RingN)
  | attestCapture (n : RingN) (num : W32)
  | fence (n : RingN)
  | completionRecordWrite (m : RingN) (hostOk : Bool)
  | cqIrqDelay (m : RingN)
  | eventRecordWrite (hub : PortN)
  | ringEnable (n : RingN)
  | ringDisable (n : RingN)
  | ringStopped (n : RingN)
  -- Withy ports (R360-R385)
  | withyFibreEnable (n : IoN) (f : FibreN) (enable : Bool)
  | withyRetrain (n : IoN) (f : FibreN)
  | withyUp (n : IoN) (f : FibreN) (peerNode : BitVec 16) (peerDie : IoN) (peerFibre : FibreN) (peerCap : BitVec 4) (healthy txHealthy : BitVec 18) (rtt : Nat)
  | withyCodewordReceive (n : IoN) (f : FibreN) (failed : Bool) (corrected : List (Fin 544)) (control : BitVec 20) (data : List (BitVec 10))
      (margin : BitVec 18)
  | withyLinkControl (n : IoN) (f : FibreN) (ack : BitVec 18) (nak : Option (BitVec 18)) (credits : List Nat) (suspect : BitVec 18)
  | withyReplayTimeout (n : IoN) (f : FibreN)
  | withyColourSuspect (n : IoN) (f : FibreN) (colour : Fin 18) (pilot : Bool)
  | withyColourSpared (n : IoN) (f : FibreN) (position : Fin 16) (lost : Fin 18)
  | withyAlignmentLost (n : IoN) (f : FibreN)
  | withyDown (n : IoN) (f : FibreN) (cause : Nat)
  | withyOutboundFlit (n : IoN) (flit : WithyFlit)
  | withyTransitFlit (n : IoN) (flit : WithyFlit)
  | withyInboundRequest (n : IoN) (r : Req)
  | withyAssemblyTimeout (n : IoN) (srcNode srcUnit : BitVec 16) (inc : Byte) (seq : BitVec 24)
  | withyProxyReply (n : IoN) (r : Reply)
  | withyInboundReply (n : IoN) (destPort : PortN) (r : Reply)
  | routeDrained (discarded0 discarded1 : Nat)
  | wtyRtIdxWrite (value : W32)
  | wtyRtHiWrite (value : W32)
  | timeExchange (sent : Int) (parent : ParentStamps) (hops : Nat)
  | timeParentLost
  | nodeAlignLost
  | plaitJoin (g : PlaitN) (node : BitVec 16)
  | plaitHomeStatus (g : PlaitN) (status : Byte) (applied : Nat)
  | rimNodeArrival (ch : ChanN) (node : NodeArrival)
  | rimRootRelease (ch : ChanN)
  -- health and failover (R386-R417, R465, R466)
  | dieIsolated (die : DieN) (cause : Cause)
  | isolationFenceTimeout (die : DieN)
  | dieRejoin (die : DieN) (failedSites : List TileId)
  | dieRejoined (die : DieN)
  | hlthDieReset (i : Fin 30)
  | dieThermalShutdown (i : Fin 30)
  | shadowCopyAcked (bytes : Nat)
  | heartbeat (optical electrical : Bool)
  | heartbeatsMissed (e : HeartbeatEvidence)
  | controlResign
  | controlTakeover (gap : Nat)
  | standbyJoin
  | standbyReady
  | preferredWrite (value : W32)
  | controlHandback (gap : Nat)
  | feedLost (b : Bool)
  | feedRestored (b : Bool)
  | regulatorFailed (b : Bool) (j : Fin 8)
  -- hawk and profiles (R418-R430)
  | hawkCheckGo
  | hawkCheckDone
  | hawkCancel
  | hawkDiscard
  | profileWrite (value : W32)
  | profilePlanesAdded
  -- security (R439-R457)
  | sealTest (intact : Bool)
  | advance (target : BitVec 2)
  | debugUnlock
  | sealedClear
  | presenceChange (asserted : Bool)
  | presenceHoldComplete (stop : Option (Fin 5))
  | secCmdExpired
  | transitionResumed (powerUp : Bool)
  | rngFault (n : IoN) (test : Nat)
  -- late rows of the table
  | engineReply (r : Reply)
  | signalAcknowledged (tile : TileId) (seq : BitVec 24) (status : Byte) (saturated : Bool)
  | thermTrip (i : DieIdx) (above : Bool)
  | powerDown
  | standbyLost
  | handbackFetchStop
deriving DecidableEq, Repr

end Sys2Proof
end

