-- ==== Sys2Proof/Decode.lean ====
section
/-!
DEFINITION. How the bundles of a lap image spell the commands of the tile (R98, R99, R107, R110, R115, R116), and the words of
the opcode table: spec/opcode_table.json gives none of its rows bits, because a command arrives as what the spec names it.
-/
namespace Sys2Proof

/-! ## Slots of a bundle (R98, R99) -/

/-- The 32-bit slot of a bundle at a position: S lowest, then V, M and X (R98). -/
def bundleSlot (b : BitVec 128) : SlotPos → W32
  | .s => b.extractLsb' 0 32
  | .v => b.extractLsb' 32 32
  | .m => b.extractLsb' 64 32
  | .x => b.extractLsb' 96 32

/-- NEG, bit 31 of a slot (R99). -/
def slotNeg (w : W32) : Bool := w.getLsbD 31
/-- PRED, bits [30:28] (R99). -/
def slotPred (w : W32) : Fin 8 := Fin.ofNat 8 (w.toNat / 2 ^ 28)
/-- OP, bits [27:22] (R99). -/
def slotOp (w : W32) : Nat := w.toNat / 2 ^ 22 % 64
/-- The operand bits [21:0] (R99). -/
def slotArgs (w : W32) : BitVec 22 := w.setWidth 22

/-! ## Opcodes. NOP is 0 in every slot; what no row lists is reserved. -/

/-- The opcodes of the S slot but NOP (R107). -/
def sOpcode (op : Nat) : Option (SlotHdr → BitVec 22 → Instr) :=
  match op with
  | 0x01 => some .endOp
  | 0x02 => some .add
  | 0x03 => some .sub
  | 0x04 => some .mul
  | 0x05 => some .mulhu
  | 0x06 => some .and
  | 0x07 => some .or
  | 0x08 => some .xor
  | 0x09 => some .shl
  | 0x0A => some .shr
  | 0x0B => some .sar
  | 0x0C => some .min
  | 0x0D => some .max
  | 0x0E => some .minu
  | 0x0F => some .maxu
  | 0x10 => some .addi
  | 0x11 => some .andi
  | 0x12 => some .ori
  | 0x13 => some .xori
  | 0x14 => some .shli
  | 0x15 => some .shri
  | 0x16 => some .sari
  | 0x18 => some .movi
  | 0x19 => some .sli
  | 0x1C => some .cmp
  | 0x1D => some .cmpi
  | 0x1E => some .plog
  | 0x20 => some .br
  | 0x21 => some .loop
  | 0x24 => some .ld
  | 0x25 => some .st
  | 0x28 => some .rdsr
  | 0x29 => some .wrsr
  | 0x30 => some .waitUntil
  | 0x31 => some .wait
  | 0x32 => some .signal
  | 0x33 => some .waitd
  | 0x34 => some .waitdr
  | 0x38 => some .rimBar
  | 0x39 => some .rimSet
  | 0x3A => some .rimWaitf
  | _ => none

/-- The opcodes of the V slot but NOP (R110). -/
def vOpcode (op : Nat) : Option (SlotHdr → BitVec 22 → Instr) :=
  match op with
  | 0x01 => some .vadd
  | 0x02 => some .vsub
  | 0x03 => some .vmul
  | 0x04 => some .vfma
  | 0x05 => some .vfms
  | 0x06 => some .vfnma
  | 0x07 => some .vmin
  | 0x08 => some .vmax
  | 0x09 => some .vabs
  | 0x0A => some .vneg
  | 0x0C => some .vand
  | 0x0D => some .vor
  | 0x0E => some .vxor
  | 0x0F => some .vshl
  | 0x10 => some .vshr
  | 0x11 => some .vsar
  | 0x14 => some .vcmp
  | 0x15 => some .vblend
  | 0x18 => some .vexp2
  | 0x19 => some .vlog2
  | 0x1A => some .vrsqrt
  | 0x1B => some .vrcp
  | 0x1C => some .vsin
  | 0x1D => some .vcos
  | 0x1E => some .vtanh
  | 0x20 => some .vcvt
  | 0x24 => some .vld
  | 0x25 => some .vst
  | 0x26 => some .vlds
  | 0x27 => some .vsts
  | 0x28 => some .vbcast
  | 0x29 => some .vtos
  | _ => none

/-- The opcodes of the M slot but NOP (R115). -/
def mOpcode (op : Nat) : Option (SlotHdr → BitVec 22 → Instr) :=
  match op with
  | 0x01 => some .mma
  | 0x04 => some .azero
  | 0x08 => some .ald
  | 0x09 => some .ast
  | 0x0C => some .ard
  | 0x0D => some .awr
  | _ => none

/-- The opcodes of the X slot but NOP (R116). -/
def xOpcode (op : Nat) : Option (SlotHdr → BitVec 22 → Instr) :=
  match op with
  | 0x01 => some .load
  | 0x02 => some .store
  | 0x04 => some .fadd32
  | 0x05 => some .fadd64
  | 0x06 => some .faddf32
  | 0x07 => some .faddbf2
  | 0x08 => some .swap64
  | 0x09 => some .cas64
  | 0x0A => some .min64
  | 0x0B => some .max64
  | 0x0C => some .and64
  | 0x0D => some .or64
  | 0x0E => some .xor64
  | 0x10 => some .plait
  | 0x14 => some .rowrd
  | 0x15 => some .rowwr
  | _ => none

/-- The command that an opcode names in a slot; none for NOP and for a reserved opcode. -/
def slotOpcode (p : SlotPos) (op : Nat) : Option (SlotHdr → BitVec 22 → Instr) :=
  match p with
  | .s => sOpcode op
  | .v => vOpcode op
  | .m => mOpcode op
  | .x => xOpcode op

/-- Whether an opcode of a slot is reserved (R101, R107, R110, R115, R116). -/
def opReserved (p : SlotPos) (op : Nat) : Bool := op != 0 && (slotOpcode p op).isNone

/-- The command that a slot word spells: its guard joins the header, and NOP and a reserved opcode become `nop`, whose word says
whether the slot is illegal (R99, R101). -/
def decodeSlot (h : SlotHdr) (p : SlotPos) (word : W32) : Instr :=
  let h := { h with neg := slotNeg word, pred := slotPred word }
  match slotOpcode p (slotOp word) with
  | some c => c h (slotArgs word)
  | none => .nop h p word

/-- The four commands of a bundle in the order of their slots: the first begins the bundle (R98, R100). -/
def decodeBundle (h : SlotHdr) (b : BitVec 128) : List Instr :=
  let rest := { h with fresh := false, stall := 0, slotFull := 0, bank := 0, corrected := 0 }
  [decodeSlot { h with fresh := true } .s (bundleSlot b .s), decodeSlot rest .v (bundleSlot b .v),
   decodeSlot rest .m (bundleSlot b .m), decodeSlot rest .x (bundleSlot b .x)]

/-- The slot word of an opcode with its guard and operands (R99). -/
def slotWord (neg : Bool) (pred : Fin 8) (op : Nat) (w : BitVec 22) : W32 :=
  BitVec.ofNat 32 (neg.toNat * 2 ^ 31 + pred.val * 2 ^ 28 + op % 64 * 2 ^ 22 + w.toNat)

/-! ## Words of the opcode table -/

/-- The command that a word spells by the table's bits: no row has bits, so no word spells one. -/
def decodeTableWord (_nbits _w : Nat) : Option Instr := none

end Sys2Proof
end

