-- ==== Sys2Proof/Config.lean ====
section
/-!
DEFINITION. Free values: what the spec leaves open and the machine goes on (log entries 2 and 4).
None has a body, so no proof can use a value of one.
-/
namespace Sys2Proof.Config

/-- The result of a transcendental of R146 on a binary32 lane outside R147, by opcode and input (R146: "does not specify which value within the bound"). -/
opaque transcendental : Nat → W32 → W32
/-- The packing of an event's detail into bytes 16-31 of its record, by event code (R14 gives no widths). -/
opaque eventDetailBytes : BitVec 16 → List Nat → BitVec 128
/-- A Falcon-1024 signature in the padded format (R449, R453), over the bytes signed, by the counter of free values. -/
opaque falconSign : Nat → List Byte → List Byte
/-- The Falcon-1024 public key generated from a seed (R448). -/
opaque falconPublic : BitVec 256 → List Byte
/-- The Falcon-1024 private key generated from a seed (R448). -/
opaque falconPrivate : BitVec 256 → List Byte
/-- A draw of the physical random source, 64 B (R448, R451), by the counter of free values. -/
opaque randomSecret : Nat → BitVec 512
/-- Every other byte, bit pattern or number that the spec leaves open, by the counter of free values. -/
opaque freeWord : Nat → W64

/-- What a sparse panel holds at a position that both indexes of a group name, by the format and the two elements (R113 says nothing of
it, and R151 makes it a function of the inputs; log entry 15). -/
opaque samePlace : Nat → Nat → Nat → Nat

/-- The check symbols of RS(544,514), by the message and their number (R190, which names neither the field's polynomial nor the
code's generator). -/
opaque rsCheck : List (BitVec 10) → Nat → BitVec 10

/-- The check stored with a line of a stack that has never been written, by its local address (R298: it need never be set; log entry 152). -/
opaque unsetCheck : Nat → W32

/-- What the grid monitor adds to a laser's tuning, by the offset measured (R232: "the laser's tuning is trimmed"; log
entry 135). -/
opaque gridTrim : Int → Int
/-- What a ring's loop adds to the heater code, by the error before and the error now (R241 names a proportional-integral controller
by its crossover and phase margin; log entry 135). -/
opaque loopStep : Int → Int → Int

/-- The range of the lane drivers in DAC steps (R248: "within the driver's range"). -/
opaque driverRange : Int × Int
/-- The range of the receiver amplifiers in DAC steps (R248: "within the amplifier's range"). -/
opaque amplifierRange : Int × Int

end Sys2Proof.Config
end

