-- ==== Sys2Proof/Machine/RegMap.lean ====
section
/-!
DEFINITION. The register space (R418) as the chapters lay it out: the address of each register, the bits of each access
class (R15), and the reset value. A bit that no class names is RO or RSV. A reset of "fuse" or "cal" takes the value of
log entries 5 and 6.
-/
namespace Sys2Proof.Machine

/-- A field of a register: address, lowest bit, width (R9). -/
structure Fld where
  addr : Nat
  lo : Nat
  width : Nat
deriving DecidableEq, Repr

/-- Writable bits of a register by access class (R15), and its reset value. -/
structure RegDesc where
  rw : Nat := 0
  rwh : Nat := 0
  w1c : Nat := 0
  reset : Nat := 0
deriving DecidableEq, Repr

namespace Reg

/-! Bases of the blocks (R418). An index is taken modulo a count that covers its units, so that no address leaves its block. -/
def hawkBase : Nat := 0x0010000
def stkBase : Nat := 0x0020000
def ringBase : Nat := 0x0030000
def hlthBase : Nat := 0x0040000
def secBase : Nat := 0x0050000
def pwrBase : Nat := 0x0060000
def cd (d : Nat) : Nat := 0x1000000 + d % 8 * 0x100000
def hub (p : Nat) : Nat := 0x2000000 + p % 32 * 0x10000
def sc (k : Nat) : Nat := 0x2800000 + k % 12 * 0x10000
def lxBase : Nat := 0x3000000
def wty (n : Nat) : Nat := 0x3400000 + n % 2 * 0x80000
def cxlBase : Nat := 0x3800000

/-! GLB (R437). -/
def glbPart : Fld := ⟨0, 0, 16⟩
def glbGrade : Fld := ⟨0, 16, 1⟩
def glbPhase : Fld := ⟨0x10, 0, 4⟩
def glbReady : Fld := ⟨0x10, 4, 1⟩
def glbWarm : Fld := ⟨0x10, 5, 1⟩
def glbGateWaiting : Fld := ⟨0x10, 6, 1⟩
def glbFailCause : Fld := ⟨0x10, 8, 8⟩
def glbTotalMs : Fld := ⟨0x18, 0, 16⟩
def glbGateMs : Fld := ⟨0x18, 16, 16⟩
def glbProfile : Fld := ⟨0x1C, 0, 2⟩
def glbPlanesOf : Fld := ⟨0x1C, 2, 2⟩
def glbRelocking : Fld := ⟨0x1C, 4, 1⟩

/-! HAWK (R436) and region staging (R268). -/
def hawkState : Fld := ⟨0x10000, 0, 2⟩
def hawkRule : Fld := ⟨0x10000, 8, 8⟩
def trowelAt : Fld := ⟨0x10004, 0, 32⟩
def hawkReadStaged : Fld := ⟨0x10008, 0, 1⟩
def hawkWriteIgnored : Fld := ⟨0x1000C, 0, 1⟩
def hawkCancelLate : Fld := ⟨0x1000C, 1, 1⟩
def hawkRerun : Fld := ⟨0x1000C, 2, 1⟩
def hawkDiffers : Fld := ⟨0x1000C, 3, 1⟩
def hawkDetail : Fld := ⟨0x10010, 0, 32⟩
def hawkLastFrame : Fld := ⟨0x10014, 0, 32⟩
def hawkTickLo : Fld := ⟨0x10018, 0, 32⟩
def hawkTickHi : Fld := ⟨0x1001C, 0, 32⟩
def rgnIdx : Fld := ⟨0x18000, 0, 21⟩
def rgnAttr : Fld := ⟨0x18004, 0, 10⟩
def rgnKeyLo : Fld := ⟨0x18004, 16, 16⟩
def rgnKeyHi : Fld := ⟨0x18008, 0, 16⟩
def rgnCount : Fld := ⟨0x1800C, 0, 13⟩
def rgnOverflow : Fld := ⟨0x1800C, 17, 1⟩
def rgnReadIdx : Fld := ⟨0x18010, 0, 21⟩

/-! STK (R62). -/
def refOk : Fld := ⟨0x20008, 0, 1⟩
def holdover : Fld := ⟨0x20008, 1, 1⟩
def slewActive : Fld := ⟨0x20008, 2, 1⟩
def stkAligned : Fld := ⟨0x20008, 3, 1⟩
def rampActive : Fld := ⟨0x20008, 4, 1⟩
def memstopActive : Fld := ⟨0x20008, 5, 1⟩
def masterSpare : Fld := ⟨0x20008, 6, 1⟩
def fpK : Fld := ⟨0x20018, 0, 11⟩
def lapOffset : Fld := ⟨0x2001C, 0, 20⟩
def computeMhz : Fld := ⟨0x20020, 0, 11⟩
def memStep : Fld := ⟨0x20020, 16, 1⟩
def lapRateKhz : Fld := ⟨0x20024, 0, 21⟩
def lapBudget : Fld := ⟨0x20028, 0, 21⟩
def stretchAllow : Fld := ⟨0x2002C, 0, 18⟩
def slewRemain : Fld := ⟨0x20030, 0, 16⟩
def boundMax : Fld := ⟨0x20034, 0, 21⟩
def refLosses : Nat := 0x20038
def clockLost (i : Nat) : Fld :=   -- by die index of R29: CD 0-7, SC 16-27, IO 28-29
  ⟨0x20040, if i < 8 then i else if i < 28 then i - 8 else i - 8, 1⟩
def memstopLastMax : Fld := ⟨0x20044, 0, 12⟩
def memstopWave : Fld := ⟨0x20044, 16, 1⟩

/-! RING (R356, R358). -/
def ringInflight : Fld := ⟨0x30000, 0, 13⟩
def ringController : Fld := ⟨0x30000, 13, 1⟩
def dbPollUs : Fld := ⟨0x30004, 0, 14⟩
def evrBaseLo : Nat := 0x30010
def evrLog2 : Fld := ⟨0x30020, 0, 5⟩
def evrValid : Fld := ⟨0x30020, 31, 1⟩
def evrFull : Fld := ⟨0x30024, 0, 1⟩
def evrLost : Fld := ⟨0x30024, 2, 1⟩
def ringCnt (i : Nat) : Nat := 0x30100 + 8 * i
def sq (n : Nat) : Nat := 0x31000 + n % 256 * 64
def sqLog2 (n : Nat) : Fld := ⟨sq n + 0x10, 0, 5⟩
def sqCq (n : Nat) : Fld := ⟨sq n + 0x10, 8, 8⟩
def sqWeight (n : Nat) : Fld := ⟨sq n + 0x10, 16, 8⟩
def sqInflight (n : Nat) : Fld := ⟨sq n + 0x10, 24, 8⟩
def sqEnable (n : Nat) : Fld := ⟨sq n + 0x14, 0, 1⟩
def sqState (n : Nat) : Fld := ⟨sq n + 0x18, 0, 2⟩
def sqHaltCause (n : Nat) : Fld := ⟨sq n + 0x18, 2, 2⟩
def sqCfgIgnored (n : Nat) : Fld := ⟨sq n + 0x18, 4, 1⟩
def sqDbFallbackBit (n : Nat) : Fld := ⟨sq n + 0x18, 5, 1⟩
def sqStarted (n : Nat) : Fld := ⟨sq n + 0x18, 16, 8⟩
def sqFetched (n : Nat) : Fld := ⟨sq n + 0x1C, 0, 32⟩
def ringKey (n i : Nat) : Nat := sq n + 0x20 + i % 4 * 4
def sqDbFallback (n : Nat) : Fld := ⟨sq n + 0x30, 0, 32⟩
def sqQuantum (n : Nat) : Fld := ⟨sq n + 0x34, 0, 7⟩
def cq (m : Nat) : Nat := 0x35000 + m % 256 * 32
def cqLog2 (m : Nat) : Fld := ⟨cq m + 0x10, 0, 5⟩
def cqValid (m : Nat) : Fld := ⟨cq m + 0x10, 31, 1⟩
def cqVector (m : Nat) : Fld := ⟨cq m + 0x14, 0, 9⟩
def cqIrqCount (m : Nat) : Fld := ⟨cq m + 0x14, 16, 8⟩
def cqDelay (m : Nat) : Fld := ⟨cq m + 0x14, 24, 8⟩
def cqWritten (m : Nat) : Fld := ⟨cq m + 0x18, 0, 32⟩
def cqFull (m : Nat) : Fld := ⟨cq m + 0x1C, 0, 1⟩
def cqPhase (m : Nat) : Fld := ⟨cq m + 0x1C, 1, 1⟩

/-! HLTH (R414, R415). -/
def hlthController : Fld := ⟨0x40000, 0, 1⟩
def hlthStandby : Fld := ⟨0x40000, 1, 2⟩
def pinStatus : Fld := ⟨0x40000, 4, 4⟩
def hlthAlert : Fld := ⟨0x40000, 8, 1⟩
def hlthThermTrip : Fld := ⟨0x40000, 9, 1⟩
def shadowOptical : Fld := ⟨0x40000, 10, 1⟩
def shadowElectrical : Fld := ⟨0x40000, 11, 1⟩
def controlInc : Fld := ⟨0x40000, 12, 8⟩
def preferred : Fld := ⟨0x40004, 0, 1⟩
def autoRejoin : Fld := ⟨0x40004, 1, 1⟩
def degraded : Fld := ⟨0x40008, 0, 11⟩
def alertMask : Fld := ⟨0x4000C, 0, 11⟩
def feedOk (b : Nat) : Fld := ⟨0x40010, b, 1⟩
def feedSetOk (b : Nat) : Fld := ⟨0x40010, 2 + b, 1⟩
def lastGap : Fld := ⟨0x40014, 0, 12⟩
def lastKind : Fld := ⟨0x40014, 12, 1⟩
def takeoverCause : Fld := ⟨0x40014, 13, 3⟩
def bankPending (b : Nat) : Fld := ⟨0x40018, b, 1⟩
def dieInc (i : Nat) : Fld := ⟨0x40100 + i % 64 * 4, 0, 8⟩
def dieState (i : Nat) : Fld := ⟨0x40100 + i % 64 * 4, 8, 3⟩
def dieResetBit (i : Nat) : Fld := ⟨0x40100 + i % 64 * 4, 11, 1⟩
def dieIsolations (i : Nat) : Fld := ⟨0x40100 + i % 64 * 4, 12, 4⟩
def hlthCnt (i : Nat) : Nat := 0x40200 + 8 * i

/-! SEC (R455, R456). -/
def secLifecycle : Fld := ⟨0x50000, 0, 2⟩
def sealIntact : Fld := ⟨0x50000, 2, 1⟩
def sealBrokenSeen : Fld := ⟨0x50000, 3, 1⟩
def keyPresent : Fld := ⟨0x50000, 4, 1⟩
def endorsed : Fld := ⟨0x50000, 5, 1⟩
def debugUnlocked : Fld := ⟨0x50000, 6, 1⟩
def presence : Fld := ⟨0x50000, 7, 1⟩
def transitions : Fld := ⟨0x50000, 8, 4⟩
def storeSingle : Fld := ⟨0x50000, 12, 1⟩
def rngOk : Fld := ⟨0x50000, 13, 1⟩
def journalActive : Fld := ⟨0x50000, 14, 1⟩
def secCode : Fld := ⟨0x50004, 0, 4⟩
def secTarget : Fld := ⟨0x50004, 4, 2⟩
def secCmdState : Fld := ⟨0x50008, 0, 3⟩
def secResult : Fld := ⟨0x50008, 8, 8⟩
def secRemain : Fld := ⟨0x50008, 16, 15⟩
def secCnt (i : Nat) : Nat := 0x50100 + 8 * i

/-! PWR (R438). -/
def pwrReg (j : Nat) : Nat := 0x60080 + j % 16 * 4
def pwrRegInService (j : Nat) : Fld := ⟨pwrReg j, 0, 1⟩
def pwrRegFailed (j : Nat) : Fld := ⟨pwrReg j, 1, 1⟩

/-! Compute dies, tiles and store dies (R63, R95, R96, R181, R182). -/
def gradeCount (d : Nat) : Fld := ⟨cd d, 0, 9⟩
def activeCount (d : Nat) : Fld := ⟨cd d, 9, 9⟩
def reserveCount (d : Nat) : Fld := ⟨cd d, 18, 7⟩
def failedCount (d : Nat) : Fld := ⟨cd d, 25, 7⟩
def meshRoute (d : Nat) : Fld := ⟨cd d + 4, 0, 2⟩
def meshRetries (d : Nat) : Nat := cd d + 8
def stretchTally (d s : Nat) : Fld := ⟨cd d + 0x4000 + s % 512 * 4, 0, 18⟩
def stretchOver (d s : Nat) : Fld := ⟨cd d + 0x4000 + s % 512 * 4, 31, 1⟩
def mapSite (d l : Nat) : Fld := ⟨cd d + 0x4800 + l % 512 * 4, 0, 9⟩
def mapValid (d l : Nat) : Fld := ⟨cd d + 0x4800 + l % 512 * 4, 31, 1⟩
def siteState (d s : Nat) : Fld := ⟨cd d + 0x5000 + s % 512 * 4, 0, 2⟩
def siteLogical (d s : Nat) : Fld := ⟨cd d + 0x5000 + s % 512 * 4, 8, 9⟩
def siteFuse (d s : Nat) : Fld := ⟨cd d + 0x5000 + s % 512 * 4, 31, 1⟩
def tilePhase (d s : Nat) : Fld := ⟨cd d + 0x5800 + s % 512 * 4, 0, 3⟩
def tileBank (d s : Nat) : Fld := ⟨cd d + 0x5800 + s % 512 * 4, 3, 1⟩
def tileSpilled (d s : Nat) : Fld := ⟨cd d + 0x5800 + s % 512 * 4, 4, 1⟩
def tileSpills (d s : Nat) : Fld := ⟨cd d + 0x5800 + s % 512 * 4, 8, 8⟩
def tileGroup (d s : Nat) : Fld := ⟨cd d + 0x5800 + s % 512 * 4, 16, 10⟩
def faultStatus (d s : Nat) : Fld := ⟨cd d + 0x6000 + s % 512 * 16, 0, 8⟩
def faultSource (d s : Nat) : Fld := ⟨cd d + 0x6000 + s % 512 * 16, 8, 8⟩
def faultCount (d s : Nat) : Fld := ⟨cd d + 0x6000 + s % 512 * 16, 16, 16⟩
def faultAddrLo (d s : Nat) : Fld := ⟨cd d + 0x6000 + s % 512 * 16 + 8, 0, 32⟩
def faultAddrHi (d s : Nat) : Fld := ⟨cd d + 0x6000 + s % 512 * 16 + 12, 0, 32⟩
def grpFirst (d g : Nat) : Fld := ⟨cd d + 0x8000 + g % 1024 * 8, 0, 9⟩
def grpLast (d g : Nat) : Fld := ⟨cd d + 0x8000 + g % 1024 * 8, 16, 9⟩
def grpValid (d g : Nat) : Fld := ⟨cd d + 0x8000 + g % 1024 * 8, 31, 1⟩
def grpRimGrant (d g : Nat) : Fld := ⟨cd d + 0x8000 + g % 1024 * 8 + 4, 0, 1⟩
def grpSpillLimit (d g : Nat) : Fld := ⟨cd d + 0x8000 + g % 1024 * 8 + 4, 8, 8⟩
def grpKey (d g i : Nat) : Nat := cd d + 0xA000 + g % 1024 * 32 + i % 8 * 4
def tileCnt (d s i : Nat) : Nat := cd d + 0x20000 + s % 512 * 128 + 8 * i
def siteCnt (d s i : Nat) : Nat := cd d + 0x30000 + s % 512 * 64 + 8 * i
def sdState (d : Nat) : Fld := ⟨cd d + 0x80000, 0, 2⟩
def sdDegraded (d : Nat) : Fld := ⟨cd d + 0x80000, 2, 1⟩
def sdResetCount (d : Nat) : Fld := ⟨cd d + 0x80000, 8, 8⟩
def sdSparesFree (d : Nat) : Fld := ⟨cd d + 0x80000, 16, 3⟩
def sdSlicesDegraded (d : Nat) : Fld := ⟨cd d + 0x80000, 19, 9⟩
def sdCtrlReset (d : Nat) : Fld := ⟨cd d + 0x80004, 0, 1⟩
def sliceState (d p : Nat) : Fld := ⟨cd d + 0x81000 + p % 512 * 4, 0, 3⟩
def sliceHalf (d p : Nat) : Fld := ⟨cd d + 0x81000 + p % 512 * 4, 3, 1⟩
def sliceSpares (d p : Nat) : Fld := ⟨cd d + 0x81000 + p % 512 * 4, 4, 7⟩
def slicePartner (d p : Nat) : Fld := ⟨cd d + 0x81000 + p % 512 * 4, 16, 9⟩
def sdCnt (d i : Nat) : Nat := cd d + 0x82000 + 8 * i

/-! Hubs (R26, R227, R228, R288). -/
def hubState (p : Nat) : Fld := ⟨hub p, 0, 2⟩
def ownByMirror (p : Nat) : Fld := ⟨hub p, 2, 1⟩
def servingPartner (p : Nat) : Fld := ⟨hub p, 3, 1⟩
def hubDegraded (p : Nat) : Fld := ⟨hub p, 4, 1⟩
def hubResetCount (p : Nat) : Fld := ⟨hub p, 8, 8⟩
def plaitsArmed (p : Nat) : Fld := ⟨hub p, 16, 13⟩
def hubCtrlReset (p : Nat) : Fld := ⟨hub p + 4, 0, 1⟩
def spokePatience (p : Nat) : Fld := ⟨hub p + 8, 0, 16⟩
def pl8For (p : Nat) : Fld := ⟨hub p + 0x10, 0, 4⟩
def prewarm (p : Nat) : Fld := ⟨hub p + 0x10, 4, 1⟩
def planeFailed (p : Nat) : Fld := ⟨hub p + 0x10, 8, 9⟩
def planeActive (p : Nat) : Fld := ⟨hub p + 0x10, 17, 9⟩
def pairLanes (p q : Nat) : Fld := ⟨hub p + 0x100 + q % 32 * 4, 0, 9⟩
def pairSuspect (p q : Nat) : Fld := ⟨hub p + 0x100 + q % 32 * 4, 9, 9⟩
def pairWidthF (p q : Nat) : Fld := ⟨hub p + 0x100 + q % 32 * 4, 18, 4⟩
def pairRelayed (p q : Nat) : Fld := ⟨hub p + 0x100 + q % 32 * 4, 22, 1⟩
def pairRelayPort (p q : Nat) : Fld := ⟨hub p + 0x100 + q % 32 * 4, 23, 5⟩
def vlinkSpares (p : Nat) : Fld := ⟨hub p + 0xF00, 0, 7⟩
def vlinkGroups (p : Nat) : Fld := ⟨hub p + 0xF00, 8, 6⟩
def vlinkWidth (p : Nat) : Fld := ⟨hub p + 0xF00, 14, 2⟩
def hubCnt (p i : Nat) : Nat := hub p + 0x1000 + 8 * i
def spkTargets (p e : Nat) : Fld := ⟨hub p + 0x2000 + e % 1024 * 16, 0, 32⟩
def spkKey (p e : Nat) : Fld := ⟨hub p + 0x2000 + e % 1024 * 16 + 4, 0, 32⟩
def spkBaseLo (p e : Nat) : Fld := ⟨hub p + 0x2000 + e % 1024 * 16 + 8, 0, 32⟩
def spkBaseHi (p e : Nat) : Fld := ⟨hub p + 0x2000 + e % 1024 * 16 + 12, 0, 16⟩
def spkValid (p e : Nat) : Fld := ⟨hub p + 0x2000 + e % 1024 * 16 + 12, 31, 1⟩
def rimExpect (p c : Nat) : Fld := ⟨hub p + 0x6000 + c % 64 * 8, 0, 9⟩
def rimValid (p c : Nat) : Fld := ⟨hub p + 0x6000 + c % 64 * 8, 31, 1⟩
def rimMask (p c : Nat) : Fld := ⟨hub p + 0x6000 + c % 64 * 8 + 4, 0, 32⟩
def rimArrived (p c : Nat) : Fld := ⟨hub p + 0x6200 + c % 64 * 4, 0, 9⟩
def rimGen (p c : Nat) : Fld := ⟨hub p + 0x6200 + c % 64 * 4, 9, 1⟩
def rimFlag (p c : Nat) : Fld := ⟨hub p + 0x6300 + c % 64 * 4, 0, 32⟩
def syncLo (p i : Nat) : Nat := hub p + 0x8000 + i % 4096 * 8
/-- Ledger counters of a holder, by its unit ID (R288): IO0's lie in P28's block and IO1's in P30's. -/
def ledgerCnt (holder i : Nat) : Nat :=
  if 0x1100 ≤ holder ∧ holder < 0x1200 then sc (holder - 0x1100) + 0x1200 + 8 * i
  else if holder < 0x1200 then hub (holder - 0x1000) + 0x1200 + 8 * i
  else hub (28 + 2 * (holder - 0x1200)) + 0x1200 + 8 * i
def ledgerOccupancy (holder : Nat) : Fld := ⟨ledgerCnt holder 6, 0, 17⟩

/-! Stack controllers (R318, R319). -/
def scState (k : Nat) : Fld := ⟨sc k, 0, 2⟩
def scVerifyActive (k : Nat) : Fld := ⟨sc k, 2, 1⟩
def scDegraded (k : Nat) : Fld := ⟨sc k, 3, 1⟩
def scUnclean (k : Nat) : Fld := ⟨sc k, 4, 1⟩
def scSkimBehind (k : Nat) : Fld := ⟨sc k, 5, 1⟩
def scResetCount (k : Nat) : Fld := ⟨sc k, 8, 8⟩
def scChannelsDegraded (k : Nat) : Fld := ⟨sc k, 16, 8⟩
def scCtrlReset (k : Nat) : Fld := ⟨sc k + 4, 0, 1⟩
def scDiscard (k : Nat) : Fld := ⟨sc k + 4, 1, 1⟩
def settleNormal (k : Nat) : Fld := ⟨sc k + 8, 0, 8⟩
def settleLong (k : Nat) : Fld := ⟨sc k + 8, 8, 8⟩
def passMin (k : Nat) : Fld := ⟨sc k + 0xC, 0, 11⟩
def refreshMin (k : Nat) : Fld := ⟨sc k + 0xC, 11, 11⟩
def rwShift (k : Nat) : Fld := ⟨sc k + 0x10, 0, 2⟩
def reportShift (k : Nat) : Fld := ⟨sc k + 0x10, 2, 2⟩
def scPowerOn (k : Nat) : Fld := ⟨sc k + 0x20, 0, 16⟩
def scVerify (k : Nat) : Fld := ⟨sc k + 0x24, 0, 7⟩
def scLoadIdx (k : Nat) : Fld := ⟨sc k + 0x30, 0, 10⟩
def chanState (k c : Nat) : Fld := ⟨sc k + 0x100 + c % 128 * 4, 0, 2⟩
def chanHalf (k c : Nat) : Fld := ⟨sc k + 0x100 + c % 128 * 4, 2, 1⟩
def chanSpares (k c : Nat) : Fld := ⟨sc k + 0x100 + c % 128 * 4, 3, 2⟩
def scCnt (k i : Nat) : Nat := sc k + 0x1000 + 8 * i
def maxWear (k : Nat) : Fld := ⟨scCnt k 14, 0, 24⟩

/-! LX and ring control (R29-R32, R257, R258). -/
def dieIdent (i : Nat) : Nat := lxBase + i % 33 * 8
def identHeldOut (i : Nat) : Fld := ⟨dieIdent i, 30, 1⟩
def identType (i : Nat) : Fld := ⟨dieIdent i, 0, 8⟩
def identPosition (i : Nat) : Fld := ⟨dieIdent i, 8, 8⟩
def identCapLevel (i : Nat) : Fld := ⟨dieIdent i, 24, 4⟩
def dieCaps (i : Nat) : Fld := ⟨dieIdent i + 4, 0, 8⟩
def pkgLevel : Fld := ⟨0x3000108, 0, 4⟩
def heldOutCount : Fld := ⟨0x3000108, 8, 6⟩
def fabric : Fld := ⟨0x3000200, 0, 2⟩
def handoverActive : Fld := ⟨0x3000200, 2, 1⟩
def laserSparesFree : Fld := ⟨0x3000200, 3, 9⟩
def dark : Fld := ⟨0x3000204, 0, 1⟩
def wakeOnWork : Fld := ⟨0x3000204, 1, 1⟩
def calSave : Fld := ⟨0x3000208, 0, 1⟩
def calRestore : Fld := ⟨0x3000208, 1, 1⟩
def calLast : Fld := ⟨0x300020C, 0, 2⟩
def restoreOpen : Fld := ⟨0x300020C, 2, 1⟩
def refvOk : Fld := ⟨0x300020C, 3, 1⟩
def rejectCause : Fld := ⟨0x300020C, 4, 4⟩
def featherActive : Fld := ⟨0x300020C, 8, 1⟩
def lxCnt (i : Nat) : Nat := 0x3000400 + 8 * i
def lsr (l : Nat) : Nat := 0x3020000 + l % 324 * 16
def lsrServing (l : Nat) : Fld := ⟨lsr l, 0, 2⟩
def lsrFailed (l : Nat) (spare : Bool) : Fld := ⟨lsr l, if spare then 3 else 2, 1⟩
def lsrFaded (l : Nat) : Fld := ⟨lsr l, 4, 1⟩
def lsrGridLocked (l : Nat) : Fld := ⟨lsr l, 5, 1⟩
def lsrHeldDark (l : Nat) : Fld := ⟨lsr l, 6, 1⟩
def lsrStep (l : Nat) : Fld := ⟨lsr l, 8, 7⟩
def lsrGridOffset (l : Nat) : Fld := ⟨lsr l, 16, 10⟩
def lsrTarget (l : Nat) : Fld := ⟨lsr l + 4, 0, 8⟩
def lsrPower (l : Nat) (spare : Bool) : Fld := ⟨lsr l + (if spare then 12 else 8), 0, 10⟩
def lsrCurrent (l : Nat) (spare : Bool) : Fld := ⟨lsr l + (if spare then 12 else 8), 10, 10⟩
def ring (r : Nat) : Nat := 0x3040000 + r % 19008 * 4
def heatState (r : Nat) : Fld := ⟨ring r, 0, 3⟩
def heatColour (r : Nat) : Fld := ⟨ring r, 3, 5⟩
def heatRole (r : Nat) : Fld := ⟨ring r, 8, 2⟩
def heater (r : Nat) : Fld := ⟨ring r, 16, 16⟩

/-! Withy (R383, R384). Package-wide registers have one home, in IO0's block. -/
def wtyNode : Fld := ⟨0x3400000, 0, 16⟩
def wtyActive : Fld := ⟨0x3400004, 0, 1⟩
def wtyDraining : Fld := ⟨0x3400004, 1, 1⟩
def wtyParent : Fld := ⟨0x3400008, 0, 16⟩
def wtyTimeEnable : Fld := ⟨0x3400008, 16, 1⟩
def wtyAligned : Fld := ⟨0x340000C, 0, 1⟩
def wtyParentLost : Fld := ⟨0x340000C, 1, 1⟩
def wtyErrorBound : Fld := ⟨0x340000C, 8, 8⟩
def wtyOffsetLo : Fld := ⟨0x3400010, 0, 32⟩
def wtyOffsetHi : Fld := ⟨0x3400014, 0, 32⟩
def wtyRtNode : Fld := ⟨0x3400020, 0, 16⟩
def wtyRtVersion : Fld := ⟨0x3400020, 16, 1⟩
def wtyRtLo : Fld := ⟨0x3400024, 0, 32⟩
def wtyRtHi : Fld := ⟨0x3400028, 0, 32⟩
def wtyFibresUp (n : Nat) : Fld := ⟨wty n + 0x80, 0, 5⟩
def wtyDegraded (n : Nat) : Fld := ⟨wty n + 0x80, 5, 1⟩
def wtyRtIgnored (n : Nat) : Fld := ⟨wty n + 0x80, 6, 1⟩
def fibState (n f : Nat) : Fld := ⟨wty n + 0x100 + f % 16 * 16, 0, 3⟩
def fibActive (n f : Nat) : Fld := ⟨wty n + 0x100 + f % 16 * 16, 3, 5⟩
def fibSpares (n f : Nat) : Fld := ⟨wty n + 0x100 + f % 16 * 16, 8, 2⟩
def fibHealthy (n f : Nat) : Fld := ⟨wty n + 0x100 + f % 16 * 16, 10, 18⟩
def fibTimePath (n f : Nat) : Fld := ⟨wty n + 0x100 + f % 16 * 16, 28, 1⟩
def fibPeer (n f : Nat) : Nat := wty n + 0x104 + f % 16 * 16
def fibPeerNode (n f : Nat) : Fld := ⟨fibPeer n f, 0, 16⟩
def fibEnable (n f : Nat) : Fld := ⟨wty n + 0x108 + f % 16 * 16, 0, 1⟩
def wtyCnt (n i : Nat) : Nat := wty n + 0x400 + 8 * i
def plaitHome (g : Nat) : Fld := ⟨0x3401000 + g % 4096 * 4, 0, 16⟩
def plaitHomeValid (g : Nat) : Fld := ⟨0x3401000 + g % 4096 * 4, 31, 1⟩
def rimRoot (c : Nat) : Fld := ⟨0x3405000 + c % 64 * 8, 0, 16⟩
def rimNodes (c : Nat) : Fld := ⟨0x3405004 + c % 64 * 8, 0, 17⟩
def rimNodesValid (c : Nat) : Fld := ⟨0x3405004 + c % 64 * 8, 31, 1⟩

/-! CXL-local (R357). -/
def portLink (n : Nat) : Fld := ⟨0x3800000 + n % 2 * 0x100, 0, 1⟩
def portCache (n : Nat) : Fld := ⟨0x3800000 + n % 2 * 0x100, 1, 1⟩
def portWidth (n : Nat) : Fld := ⟨0x3800000 + n % 2 * 0x100, 2, 2⟩
def carriesControl (n : Nat) : Fld := ⟨0x3800000 + n % 2 * 0x100, 4, 1⟩
def aperBlock (n : Nat) : Fld := ⟨0x3800004 + n % 2 * 0x100, 0, 4⟩
def aperEnable (n : Nat) : Fld := ⟨0x3800004 + n % 2 * 0x100, 31, 1⟩
def aperKey (n : Nat) : Fld := ⟨0x3800008 + n % 2 * 0x100, 0, 32⟩
def aperMoving (n : Nat) : Fld := ⟨0x380000C + n % 2 * 0x100, 0, 1⟩
def win (w : Nat) : Nat := 0x3801000 + w % 64 * 16
def winLog2 (w : Nat) : Fld := ⟨win w + 8, 0, 6⟩
def winType (w : Nat) : Fld := ⟨win w + 8, 6, 1⟩
def winValid (w : Nat) : Fld := ⟨win w + 8, 31, 1⟩
def winKey (w : Nat) : Fld := ⟨win w + 12, 0, 32⟩
def msixTable (n v : Nat) : Nat := 0x3808000 + n % 2 * 0x4000 + v % 512 * 16
def msixPba (n w : Nat) : Nat := 0x380A000 + n % 2 * 0x4000 + w % 16 * 4

end Reg

/-! ## Access classes and reset values, block by block -/

/-- A 48-bit counter's two words (R62): RO, with OVF W1C in the high word. -/
def counterDesc (off : Nat) : RegDesc := if off % 8 = 4 then { w1c := 0x80000000 } else {}

/-- The capability bits a die type must set, and its type, position and level (R30, R31); the fused identity of the
reset package (log entry 5). -/
def identReset (i : Nat) : Nat :=
  let t := if i < 8 then 1 else if i < 16 then 2 else if i < 28 then 3 else if i < 30 then 4 else if i < 32 then 5 else 6
  let pos := if i < 8 then i else if i < 16 then i - 8 else if i < 28 then i - 16 else if i < 30 then i - 28 else if i < 32 then i - 30 else 0
  let proc := if i < 16 then 0 else if i < 28 then 3 else if i < 30 then 1 else 2
  t + pos * 0x100 + 0x100000 + 0x1000000 + proc * 0x10000000
def capsReset (i : Nat) : Nat :=
  if i < 8 then 3 else if i < 16 then 2 else if i < 28 then 5 else if i < 30 then 0xD9 else if i < 32 then 0x20 else 1

def glbDesc (o : Nat) : RegDesc :=
  if o = 0 then { reset := 0x5F08 } else if o = 4 then { reset := 1 } else if o = 0x1C then { rwh := 3 } else {}

def hawkDesc (o : Nat) : RegDesc :=
  if o = 4 then { rw := 0xFFFFFFFF } else if o = 8 then { rw := 1 } else if o = 0xC then { w1c := 3 }
  else if o = 0x8000 ∨ o = 0x8010 then { rw := 0x1FFFFF } else if o = 0x8004 then { rw := 0xFFFF03FF }
  else if o = 0x8008 then { rw := 0xFFFF } else if o = 0x800C then { w1c := 0x20000 } else {}

def stkDesc (o : Nat) : RegDesc :=
  if o = 0x18 then { rwh := 0x7FF, reset := 64 } else if o = 0x1C then { rwh := 0xFFFFF }
  else if o = 0x20 then { rwh := 0x107FF, reset := 1600 } else if o = 0x24 then { reset := 1400000 }
  else if o = 0x28 then { reset := 91750 } else if o = 0x2C then { reset := 13099 }
  else if o = 0x3C then { w1c := 0x80000000 } else {}

def sqDesc (o : Nat) : RegDesc :=
  if o = 0 then { rw := 0xFFFFF000 } else if o = 8 then { rw := 0xFFFFFFC0 }
  else if o = 4 ∨ o = 0xC then { rw := 0xFFFFFFFF } else if o = 0x10 then { rw := 0xFFFFFF1F, reset := 0x10010004 }
  else if o = 0x14 then { rw := 1 } else if o = 0x18 then { w1c := 0x10 }
  else if 0x20 ≤ o ∧ o < 0x34 then { rw := 0xFFFFFFFF } else if o = 0x34 then { rw := 0x7F, reset := 8 } else {}

def cqDesc (o : Nat) : RegDesc :=
  if o = 0 then { rw := 0xFFFFF000 } else if o = 8 then { rw := 0xFFFFFFC0 }
  else if o = 4 ∨ o = 0xC then { rw := 0xFFFFFFFF } else if o = 0x10 then { rw := 0x8000001F, reset := 4 }
  else if o = 0x14 then { rw := 0xFFFF01FF, reset := 0x10001 } else if o = 0x1C then { reset := 2 } else {}

def ringDesc (o : Nat) : RegDesc :=
  if o = 4 then { rw := 0x3FFF, reset := 1000 } else if o = 0x10 then { rw := 0xFFFFF000 }
  else if o = 0x18 then { rw := 0xFFFFFFC0 } else if o = 0x14 ∨ o = 0x1C then { rw := 0xFFFFFFFF }
  else if o = 0x20 then { rw := 0x8000001F, reset := 4 } else if o = 0x24 then { w1c := 4 }
  else if 0x100 ≤ o ∧ o < 0x168 then counterDesc o
  else if 0x1000 ≤ o ∧ o < 0x5000 then sqDesc (o % 64) else if 0x5000 ≤ o ∧ o < 0x7000 then cqDesc (o % 32) else {}

def hlthDesc (o : Nat) : RegDesc :=
  if o = 4 then { rw := 3, reset := 2 } else if o = 0xC then { rw := 0x7FF }
  else if 0x200 ≤ o ∧ o < 0x240 then counterDesc o else {}

def secDesc (o : Nat) : RegDesc :=
  if o = 4 then { rw := 0x3F } else if 0x100 ≤ o ∧ o < 0x130 then counterDesc o else {}

def pwrDesc (o : Nat) : RegDesc := if o = 0x204 then { w1c := 0x80000000 } else {}

def cdDesc (o : Nat) : RegDesc :=
  if o = 0 then { reset := 272 } else if o = 0xC then { w1c := 0x80000000 }
  else if 0x5000 ≤ o ∧ o < 0x5480 then { reset := 0x80000000 }
  else if 0x8000 ≤ o ∧ o < 0xA000 then
    (if o % 8 = 0 then { rwh := 0x81FF01FF } else { rwh := 0xFF01, reset := 0x1000 })
  else if 0xA000 ≤ o ∧ o < 0x12000 then { rwh := 0xFFFFFFFF }
  else if 0x20000 ≤ o ∧ o < 0x29000 then (if o % 128 < 72 then counterDesc o else {})
  else if 0x30000 ≤ o ∧ o < 0x34800 then counterDesc o
  else if o = 0x80000 then { reset := 0x40000 }
  else if 0x82000 ≤ o ∧ o < 0x82030 then counterDesc o else {}

def hubDesc (o : Nat) : RegDesc :=
  if o = 8 then { rwh := 0xFFFF, reset := 2048 } else if o = 0x10 then { reset := 15 }
  else if o = 0xF00 then { reset := 0x2000 }
  else if 0x1000 ≤ o ∧ o < 0x10A8 then counterDesc o
  else if 0x1200 ≤ o ∧ o < 0x1240 then (if o / 8 % 8 = 6 then {} else counterDesc o)
  else if 0x2000 ≤ o ∧ o < 0x6000 then
    (if o % 16 = 8 then { rwh := 0xFFFFFFC0 } else if o % 16 = 12 then { rwh := 0x8000FFFF } else { rwh := 0xFFFFFFFF })
  else if 0x6000 ≤ o ∧ o < 0x6200 then
    (if o % 8 = 0 then { rwh := 0x800001FF } else { rwh := 0xFFFFFFFF })
  else {}

def scDesc (o : Nat) : RegDesc :=
  if o = 4 then { rw := 2 } else if o = 8 then { rwh := 0xFFFF, reset := 0x1001 }
  else if o = 0xC then { rwh := 0x3FFFFF, reset := 240 + 960 * 2048 }
  else if o = 0x10 then { rwh := 0xF, reset := 0xA } else if o = 0x30 then { rw := 0x3FF }
  else if 0x1000 ≤ o ∧ o < 0x1070 then counterDesc o
  else if 0x1200 ≤ o ∧ o < 0x1240 then (if o / 8 % 8 = 6 then {} else counterDesc o) else {}

def lxDesc (o : Nat) : RegDesc :=
  if o < 0x108 then (if o % 8 = 0 then { reset := identReset (o / 8) } else { reset := capsReset (o / 8) })
  else if o = 0x204 then { rw := 3, reset := 2 } else if o = 0x20C then { reset := 4 }
  else if 0x400 ≤ o ∧ o < 0x458 then counterDesc o
  else if 0x20000 ≤ o ∧ o < 0x21440 then
    (if o % 16 = 0 then { reset := 0x40 } else if o % 16 = 4 then { rw := 0xFF, reset := 160 } else {})
  else {}

def wtyDesc (o : Nat) : RegDesc :=
  if o = 0 then { rw := 0xFFFF, reset := 0xFFFF } else if o = 4 then { rwh := 1 }
  else if o = 8 then { rw := 0x1FFFF, reset := 0xFFFF } else if o = 0x20 then { rw := 0x1FFFF }
  else if o = 0x24 then { rw := 0xFFFFFFFF } else if o = 0x28 then { rw := 0x8001FFFF }
  else if o = 0x80 then { w1c := 0x40 }
  else if 0x100 ≤ o ∧ o < 0x200 then (if o % 16 = 8 then { rw := 1 } else {})
  else if 0x400 ≤ o ∧ o < 0x460 then counterDesc o
  else if 0x1000 ≤ o ∧ o < 0x5000 then { rwh := 0x8000FFFF }
  else if 0x5000 ≤ o ∧ o < 0x5200 then (if o % 8 = 0 then { rwh := 0xFFFF } else { rwh := 0x8001FFFF })
  else {}

def cxlDesc (o : Nat) : RegDesc :=
  if o < 0x200 then (if o % 0x100 = 4 then { rw := 0x8000000F } else if o % 0x100 = 8 then { rw := 0xFFFFFFFF } else {})
  else if 0x1000 ≤ o ∧ o < 0x1400 then
    (if o % 16 = 0 then { rw := 0xFFFFF000 } else if o % 16 = 8 then { rw := 0x8000007F, reset := 12 }
     else { rw := 0xFFFFFFFF })
  else if 0x8000 ≤ o ∧ o < 0x10000 ∧ o % 0x4000 < 0x2000 then { rw := 0xFFFFFFFF }
  else {}

/-- What the register space holds at an address (R418, R419): an address that no register occupies has no writable bit
and reads zero. The second I/O die's Withy block reaches IO0's package-wide registers (R383). -/
def regDesc (a : Nat) : RegDesc :=
  if a % 4 ≠ 0 then {}
  else if a < 0x10000 then glbDesc a
  else if a < 0x20000 then hawkDesc (a % 0x10000)
  else if a < 0x30000 then stkDesc (a % 0x10000)
  else if a < 0x40000 then ringDesc (a % 0x10000)
  else if a < 0x50000 then hlthDesc (a % 0x10000)
  else if a < 0x60000 then secDesc (a % 0x10000)
  else if a < 0x70000 then pwrDesc (a % 0x10000)
  else if a < 0x1000000 then {}
  else if a < 0x1800000 then cdDesc (a % 0x100000)
  else if a < 0x2000000 then {}
  else if a < 0x2200000 then hubDesc (a % 0x10000)
  else if a < 0x2800000 then {}
  else if a < 0x28C0000 then scDesc (a % 0x10000)
  else if a < 0x3000000 then {}
  else if a < 0x3400000 then lxDesc (a - 0x3000000)
  else if a < 0x3480000 then wtyDesc (a - 0x3400000)
  else if a < 0x3500000 then (if a - 0x3480000 < 0x80 ∨ 0x1000 ≤ a - 0x3480000 then {} else wtyDesc (a - 0x3480000))
  else if a < 0x3800000 then {}
  else if a < 0x4000000 then cxlDesc (a - 0x3800000)
  else {}

/-- The reset value of the register at an address. -/
def regReset (a : Nat) : W32 := BitVec.ofNat 32 (regDesc a).reset

/-- The home address of a register that two blocks reach (R383). -/
def regHome (a : Nat) : Nat :=
  if 0x3480000 ≤ a ∧ a < 0x3500000 ∧ (a - 0x3480000 < 0x80 ∨ 0x1000 ≤ a - 0x3480000) then a - 0x80000 else a

end Sys2Proof.Machine
end

