-- ==== Sys2Proof/Machine/Tbl.lean ====
section
/-!
DEFINITION. Tables by number, the one form in which the state lists sparse things: keys strictly rising, and no entry
equal to what an unlisted key reads as. `d` gives what an unlisted key reads as.
-/
namespace Sys2Proof.Machine

/-- A sparse table by number. -/
abbrev Tbl (α : Type) := List (Nat × α)

/-- The entry of key `k`. -/
def Tbl.look {α : Type} (d : Nat → α) : Tbl α → Nat → α
  | [], k => d k
  | (j, v) :: r, k => if j = k then v else Tbl.look d r k

/-- Places key `k` in rising order, in a table that does not list it. -/
def Tbl.ins {α : Type} (k : Nat) (v : α) : Tbl α → Tbl α
  | [] => [(k, v)]
  | (j, w) :: r => if j < k then (j, w) :: Tbl.ins k v r else (k, v) :: (j, w) :: r

/-- Drops key `k`. -/
def Tbl.drop {α : Type} (t : Tbl α) (k : Nat) : Tbl α := t.filter fun e => e.1 != k

/-- The table with `v` at key `k`: an entry equal to what an unlisted key reads as is not listed. -/
def Tbl.put {α : Type} [DecidableEq α] (d : Nat → α) (t : Tbl α) (k : Nat) (v : α) : Tbl α :=
  if v = d k then Tbl.drop t k else Tbl.ins k v (Tbl.drop t k)

/-- Keys strictly rise. -/
def Tbl.sorted {α : Type} : Tbl α → Bool
  | [] => true
  | (j, _) :: r => (r.all fun e => decide (j < e.1)) && Tbl.sorted r

/-- The canonical form: keys strictly rise and no entry equals what an unlisted key reads as. -/
def Tbl.wf {α : Type} [DecidableEq α] (d : Nat → α) (t : Tbl α) : Bool :=
  Tbl.sorted t && t.all fun e => decide (e.2 ≠ d e.1)

/-- An optional entry of a table without defaults. -/
def Tbl.find {α : Type} (t : Tbl α) (k : Nat) : Option α := (List.find? (fun e => e.1 == k) t).map Prod.snd

/-- Lists key `k` with `v`. -/
def Tbl.add {α : Type} (t : Tbl α) (k : Nat) (v : α) : Tbl α := Tbl.ins k v (Tbl.drop t k)

end Sys2Proof.Machine
end

