-- ==== Sys2Proof/Machine/StFabric.lean ====
section
/-!
DEFINITION. The fabric, the hubs, the plait groups and the ledgers as state (07, 09).
-/
namespace Sys2Proof.Machine

/-- A wait held at a counter's primary hub (R91, R205): a tile's or a descriptor's. -/
structure Waiter where
  node : Nat
  unit : Nat
  inc : Nat
  seq : Nat
  counter : Nat
  target : Nat
deriving DecidableEq, Repr

/-- A sync operation applied at its primary and awaiting the mirror (R205). -/
structure Unmirrored where
  counter : Nat
  value : Nat
  reply : Option Reply         -- the acknowledgement that the mirror's confirmation releases
deriving DecidableEq, Repr

/-- A rim channel at one hub, beyond RIM_STATE and RIM_FLAG (R219, R220). -/
structure RimCh where
  inbox : List (Nat × Nat × Bool)      -- arrivals on their way to the hub: unit, sequence, generation
  passed : List Bool                   -- arrivals passed on by the hubs that count with it, by generation
  waiting : List (Nat × Nat)           -- participants that wait for release: unit, sequence
  compIn : List (Nat × Bool)           -- completions on their way to the hub: source port, generation
  comps : List Nat                     -- counting sets that have completed this generation
  sent : Bool                          -- a hub of its set has sent the set's completion of this generation
  flagWait : List (Nat × Nat × Nat)    -- unit, sequence, value waited for
deriving DecidableEq, Repr

/-- A flag set that awaits acknowledgement by every participating hub (R220). -/
structure RimSetOp where
  unit : Nat
  seq : Nat
  ch : Nat
  value : W32
  remaining : List Nat                 -- ports that have not acknowledged
deriving DecidableEq, Repr

/-- A spoke operation at its launching hub (R207-R210). -/
structure SpokeOp where
  id : Nat
  entry : Nat
  targets : Nat                        -- mask
  unit : Nat
  seq : Nat
  tc : Nat
  total : Nat                          -- flits of the operation
  sent : Nat                           -- flits launched
  since : Nat                          -- stake time at which its first flit became ready
  offset : Nat
  data : List Line
  group : Option Nat                   -- the plait group whose result it carries
  num : Nat                            -- the descriptor of a COPY or FILL
  off : Nat                            -- its offset in the range of a COPY or FILL
  acks : List (Nat × Nat × Nat)        -- port, flit index, status
deriving DecidableEq, Repr

/-- A KIND 3 copy of a spoke flit, queued for a target whose pair lacked credit (R208). -/
structure SpokeCopy where
  port : Nat
  tc : Nat
  flit : Flit
  req : Req                            -- the request that it carries
deriving DecidableEq, Repr

/-- A hub (R204) beyond its registers. -/
structure Hub where
  resetAt : Nat
  cause : Nat
  copied : Bool                        -- its state has been copied from the partner (R223)
  waiters : List Waiter
  unmirrored : List Unmirrored
  accepted : List Flit                 -- flits delivered to the hub since its last reset
  rim : Tbl RimCh
  sets : List RimSetOp
  spokes : List SpokeOp
  spokeNext : Nat
  arrivals : List (Nat × Nat × Nat)    -- spoke arrivals not yet acknowledged: unit, sequence, flit index (R209)
  copies : List SpokeCopy              -- follow-up copies that wait for credit (R208)
  spokeEnd : Option (Nat × Nat × Nat)  -- the last spoke operation to end: its number, status and detail (R210)
deriving DecidableEq, Repr

/-- An ordered pair (R187-R203) beyond PAIR_STATUS. -/
structure Pair where
  trained : Bool
  nextSeq : Nat                        -- next LINK_SEQ
  replay : List (Nat × Flit)           -- unacknowledged flits by LINK_SEQ, oldest first
  expect : Nat                         -- LINK_SEQ the receiver expects
  nakAt : Option Nat                   -- when a NAK for `expect` was sent
  credits : List Nat                   -- by class
  owed : List Nat                      -- credits the receiver owes, by class
  masked : Nat                         -- bit i: the lane on PLi is masked
  pl8 : Option Nat                     -- the plane whose lane PL8 replaces on this pair (R201)
  ackAt : Nat                          -- when the sender last launched onto an empty buffer, replayed or was acknowledged (R195)
  bulk : Bool                          -- TC2 goes next, where TC0 and TC2 both can (R198)
  inputs : List Nat                    -- the hub's input served last, by class (R198)
  failed : Bool                        -- it trained with less than half of the full width (R203)
  errors : List (Nat × Nat)            -- lane errors at the receiver within the last 1 ms: plane, stake time (R196)
  stream : List Byte                   -- stream bytes not yet coded (R190)
  cwSeq : Nat                          -- codewords formed
  cw : List (BitVec 10)                -- the codeword formed last
deriving DecidableEq, Repr

/-- A plait group (R211) as its reduce hub holds it. -/
structure Plait where
  port : Nat
  op : Nat
  lines : Nat
  expect : Nat
  key : W32
  resultGa : W64
  statusGa : W64
  counter : W64                        -- counter word
  spoke : Option Nat
  patience : Nat
  frame : Nat                          -- the frame in which it was armed
  ring : Nat                           -- the arming descriptor
  num : Nat
  acc : List (Option (List Nat))       -- the accumulation of each line (R149)
  bitmap : Nat
  count : Nat
  completed : Bool
  phase : Nat                          -- of completion (R215): 1 result stored, 2 status stored, 3 counter signalled, 4 done
  status : Nat                         -- OK or PARTIAL
  fault : Nat                          -- the fault code of a result store, 0 for none
  doneAt : Nat                         -- stake time of completion
  doneFrame : Nat
  nodes : List Nat                     -- nodes that have joined its home (R380)
deriving DecidableEq, Repr

/-- A plait forwarder at a node that is not the home of an L3 group (R380). -/
structure Forwarder where
  home : Nat
  lines : Nat
  op : Nat
  expect : Nat
  key : W32
  counter : W64
  ring : Nat
  num : Nat
  joined : Bool
deriving DecidableEq, Repr

/-- A ledger entry (R278). -/
structure LedgerEntry where
  node : Nat
  unit : Nat
  inc : Nat
  seq : Nat
  opc : Nat
  status : Nat
  saturated : Bool
  offPackage : Bool
  value : W64
  expires : Nat
  spilled : Bool                       -- held only in the spill areas (R279)
  page : Nat                           -- stack page it concerns (R280)
  durable : Bool                       -- written to the ledger area of the medium
  slot : Option Nat                    -- its ledger slot there, once its commit is queued (R304)
  control : Bool                       -- a request of a unit 0x1200 to 0x13FF, which R404 keeps longer
  latest : Nat                         -- the latest DEADLINE among the copies it has answered (R404)
  acked : Bool                         -- its acknowledgement has arrived (R404)
deriving DecidableEq, Repr

/-- A ledger (R278) and its quarantine (R284). -/
structure Ledger where
  entries : List LedgerEntry
  quarantineEnd : Nat                  -- 0 while there is none
deriving DecidableEq, Repr

/-- What a request of an I/O engine, a ring unit or a hub's own engine serves. A descriptor is named by its ring's unit
and its number. -/
inductive Purpose where
  | copyLoad (num off : Nat)           -- a COPY's load, by the offset of its first byte in the range
  | copyStore (num off : Nat)          -- a COPY's or FILL's store
  | remote (num : Nat)
  | signal (num : Nat)
  | wait (num : Nat)
  | aperRead (port id la len : Nat)    -- a load of the aperture read that began with request `id` of its engine
  | aperMerge (port la : Nat) (bytes : List Byte)    -- the load of a partial-line write
  | aperWrite (port la : Nat)
  | plaitStore (g : Nat) (result : Bool)
  | plaitSignal (g : Nat)
  | spoke (hub op port idx : Nat)      -- the store of one flit of a spoke operation, issued by its target's hub (R209)
  | proxy (node unit inc seq : Nat)    -- a request of another node
deriving DecidableEq, Repr

/-- A request of an engine whose reply is awaited; one beyond the limits of R276 has yet to be issued. -/
structure EngineReq where
  unit : Nat
  seq : Nat
  purpose : Purpose
  req : Req
  retries : Nat
  issued : Bool
deriving DecidableEq, Repr

/-- What one node sends another for L3 plaits and rim channels (R380, R381). -/
inductive NodeMsg where
  | rimArrival (ch : Nat) (gen : Bool)
  | rimRelease (ch : Nat) (gen : Bool)
  | rimFlag (ch : Nat) (value : Nat)
  | plaitJoin (g : Nat)
  | plaitStatus (g status applied : Nat)
deriving DecidableEq, Repr

/-- A rim channel that extends across nodes (R381). -/
structure RimNet where
  sent : Bool                          -- this node has sent its arrival of this generation
  released : Bool                      -- the root has released this generation
  nodes : List Nat                     -- at the root: nodes that have arrived in this generation
  known : List Nat                     -- at the root: nodes that have sent rim traffic since configuration
deriving DecidableEq, Repr

/-- What has left the units of the package: requests, replies and Withy flits, oldest first. -/
structure Net where
  reqs : List Req
  replies : List Reply
  acks : List (Nat × BitVec 24)        -- replies acknowledged (R279): source unit, sequence
  withy : List (Nat × WithyFlit)       -- flits sent on a fibre, by 16 n + f
  msgs : List (Nat × NodeMsg)          -- messages to other nodes
  entries : List (Nat × Nat × W64 × W64)  -- region entries served: hub, granule, active and staged words
deriving DecidableEq, Repr

/-- A governed request that waits at its target for the region entry (R266). -/
structure TargetWait where
  holder : Nat
  granule : Nat
  req : Req
  res : SlotRead
  found : LineRead
  collided : List Nat
deriving DecidableEq, Repr

/-- A request that waits in a target's buffers for its turn (R285). -/
structure Queued where
  holder : Nat
  req : Req
  passed : List Nat                    -- sources that the target has served since it came
  full : Option Nat                    -- since when its wait for a free ledger entry is still to be counted (R288)
deriving DecidableEq, Repr

/-- A vertical link beyond VLINK_STATUS (R23): spares used, by 32 times direction (0 transmit, 1 receive) plus group. -/
structure VLink where
  spares : Tbl Nat
deriving DecidableEq, Repr

/-- The fabric (07) and the ledgers (09). -/
structure Fab where
  hubs : Tbl Hub
  pairs : Tbl Pair                     -- by 32 s + d
  lost : List Nat                      -- lanes left unrepairable (R247): 9 (32 s + d) + plane
  vlinks : Tbl VLink                   -- by hub
  sync : Tbl Nat                       -- sync counters by ID (R205)
  mirror : Tbl Nat                     -- their mirrors
  plaits : Tbl (Option Plait)          -- by group
  route : Tbl (Option Nat)             -- the plait route map: group to reduce port (R212)
  forwarders : Tbl (Option Forwarder)
  rimNet : Tbl RimNet                  -- by channel
  ledgers : Tbl Ledger                 -- by holder unit
  rgnCache : Tbl (List Nat)            -- target caches: granules by holder, most recently used first (R266)
  rgnWait : List TargetWait
  queued : List Queued                 -- in order of arrival
deriving DecidableEq, Repr

end Sys2Proof.Machine
end

