-- ==== Sys2Proof/Machine/StTime.lean ====
section
/-!
DEFINITION. Stake time, pins, the hawk and the events as state (00, 02, 14, 16).
-/
namespace Sys2Proof.Machine

/-! ## Stake time (02) -/

/-- The ramp of the compute rails (R56). -/
inductive Ramp where
  | idle | raising | raised | lowering
deriving DecidableEq, Repr

/-- The stake-time master, its copies and the clock regions (R38-R61). Regions of the memory class are numbered as
units: stack k is 0x1100 + k, hub p 0x1000 + p, I/O engines 0x1200 + n. -/
structure Clk where
  running : Bool               -- the master counts (R45)
  dead : Bool                  -- both generators have failed (R388)
  now : Nat                    -- stake time (R38)
  frame : Nat                  -- frame number, 48 bits (R47)
  tick : Nat                   -- stake time of the tick of `frame` (R46)
  lapDue : Bool                -- the lap instant of `frame` is still to come (R48)
  lapWindow : Nat              -- frame in which the present lap window began (R53)
  lastEdge : Nat               -- stake time of the last good REFCLK edge (R43)
  slewStart : Nat              -- start of the slew in progress (R44)
  slewOffset : Int             -- phase offset being slewed, in 1/64 st (R44)
  legFrame : Tbl Nat           -- frame of each leg's last measurement, plus one (R40)
  drift : Tbl Nat              -- consecutive echoes off by more than 4 st, by hub and die index (R59)
  echo : Tbl (Nat × Int)       -- stake time and offset of the last echo, by hub and die index (R59)
  slewing : List Nat           -- dies whose copies are being slewed back (R59)
  ramp : Ramp                  -- R56
  stopped : List Nat           -- regions stopped for a memory-class change (R57)
  regionStep : Tbl Nat         -- MEM_STEP at which a region runs (R57)
  lastStop : Tbl (Nat × Nat)   -- end and length of a region's last stop (R57, R281)
  memWave : Bool               -- the second wave has begun (R57)
  memNext : Nat                -- the MEM_STEP that the change in progress leads to; else the one in force
  memTick : Nat                -- the tick of that change
  gateAt : Nat                 -- when the restore gate was reached (R432)
  allowTick : Nat              -- tick of the last change of STK_STRETCH_ALLOW, plus one (R53)
  allowOld : Nat               -- the allowance before it
  stretch : Tbl Nat            -- stretched periods of the present lap window, by unit ID of tile or die<<9 | 0x1FF for a mesh (R53)
deriving DecidableEq, Repr

/-- Pins and feeds (R410, R412, R470): true is the high level; a feed is true while it is in its operating range. -/
structure Pins where
  pwrfailN : Bool
  presenceAsserted : Bool      -- PRESENCE_N after its 10 samples (R446)
  perst : Tbl Bool             -- CXLn_PERST_N asserted (R324)
  feedA : Bool
  feedB : Bool
  hot : List Nat               -- dies above their trip temperature, by die index (R412)
deriving DecidableEq, Repr

/-! ## The hawk (14) -/

/-- A staged region entry (R268): granule and word. -/
structure RgnWord where
  granule : Nat
  word : W64
deriving DecidableEq, Repr

/-- A check in progress (R424). -/
structure Check where
  goTime : Nat
  frame : Int                  -- the frame to which TROWEL_AT resolves (R47)
  tick : Nat                   -- its tick
deriving DecidableEq, Repr

/-- The armed set (R424): the changed staged words, by address, and the number of region words written. -/
structure Armed where
  frame : Nat
  tick : Nat
  words : Tbl W32
  regionCount : Nat
  raises : Bool                -- the set raises COMPUTE_MHZ (R426)
deriving DecidableEq, Repr

/-- A change of the plane set in progress (R430): the planes still to relock, and the profile. -/
structure Relight where
  waiting : List Nat
  profile : Nat
deriving DecidableEq, Repr

/-- A region-table entry (R263). -/
structure Region where
  active : W64
  staged : W64
  pending : Bool
  atFrame : Nat
deriving DecidableEq, Repr

/-! ## Events (00, 11) -/

/-- An event record (R14). -/
structure EventRec where
  code : Nat
  unit : Nat
  node : Nat
  stime : Nat
  detail : List Nat
deriving DecidableEq, Repr

/-- An event summed up over a frame (R479): its detail as it will be raised, with the frame still 0. -/
structure FrameAcc where
  code : Nat
  unit : Nat
  since : Nat                  -- stake time of the first occurrence
  detail : List Nat
deriving DecidableEq, Repr

/-- Events on their way to the event ring (R353): staged by hub, those dropped since the last EVENTS_LOST record, the
sums of R479, and the last frame of each event that is limited to one per 1,024 frames (code, key, frame). -/
structure Events where
  staged : Tbl (List EventRec)
  lost : Nat
  acc : List FrameAcc
  limits : List (Nat × Nat × Nat)
deriving DecidableEq, Repr

/-- What the hawk holds beside the registers (R420-R430). -/
structure Hawk where
  staged : Tbl W32             -- the staged words of RWH registers that differ from the active ones
  rgnStage : List RgnWord      -- the region staging list (R268)
  check : Option Check
  armed : Option Armed
  relight : Option Relight
deriving DecidableEq, Repr

end Sys2Proof.Machine
end

