-- ==== Sys2Proof/Machine/StHost.lean ====
section
/-!
DEFINITION. Rings, completion records, ports and windows as state (11).
-/
namespace Sys2Proof.Machine

/-- A descriptor fetched and not started (R331). -/
structure Desc where
  num : Nat
  line : Line
  fetchedAt : Nat
  failedPrev : Bool            -- an earlier descriptor has completed with a status other than OK since it was fetched
deriving DecidableEq, Repr

/-- A descriptor that has started (R332); one whose record is not yet written is `finished`. -/
structure Started where
  num : Nat
  line : Line
  fetchedAt : Nat
  startFrame : Nat
  seq : Nat                    -- REQ_SEQ of its request, or the instant T of a SNAPSHOT
  progress : Nat
  checkpoint : Nat             -- progress at the last shadow copy (R340)
  quantum : Nat                -- bytes of the open quantum; 0 when closed
  closedIn : Nat               -- the next quantum begins at the first tick of a later frame
  fail : Option (Nat × Nat × Nat)  -- lowest failing request of a COPY or FILL: offset, status, address
  waits : List (Nat × Nat)     -- ring and number of the descriptors a FENCE still waits for
  waited : Nat
  latest : Nat                 -- latest completion among those it waited for
  redone : Bool
  stopping : Bool              -- its ring is being disabled
  finished : Bool
deriving DecidableEq, Repr

/-- A submission ring beyond its registers. -/
structure Sq where
  tail : Nat
  queue : List Desc
  started : List Started
  next : Nat                   -- number of the next descriptor to fetch
  seqNext : Nat                -- REQ_SEQ of its unit (R348)
  notStarted : Nat             -- NOT_STARTED and PARTIAL completions of the present disabling
  partials : Nat
deriving DecidableEq, Repr

/-- A completion record before its PHASE is set (R350). -/
structure Rec where
  ring : Nat
  num : Nat
  tag : Nat
  status : Nat
  flags : Nat                  -- byte 5 without PHASE
  progress : Nat
  stime : Nat
  detail : Nat
  irq : Bool
deriving DecidableEq, Repr

/-- A completion ring beyond its registers. -/
structure Cq where
  head : Nat
  waiting : List Rec
  since : Nat                  -- records written since the last signal
  firstAt : Nat                -- stake time of the first of them
deriving DecidableEq, Repr

/-- An access through an aperture, while it is held or in progress (R326, R327). -/
structure AperAcc where
  write : Bool
  offset : Nat
  len : Nat
  bytes : List Byte
deriving DecidableEq, Repr

/-- What a port returns to the host: the status and the bytes of a read. -/
structure HostRsp where
  port : Nat
  status : Nat                 -- 0 successful; 1 Completer Abort; 2 poisoned data
  bytes : List Byte
deriving DecidableEq, Repr

/-- The host interface (11). -/
structure HostSt where
  sq : Tbl Sq
  cq : Tbl Cq
  evrHead : Nat
  evrWritten : Nat
  mem : List Host.Cell         -- host memory as the PF8 has written it
  signals : List Nat           -- MSI-X vectors signalled, oldest first
  moving : Tbl W32             -- the APER_BASE value that waits, by port (R327)
  held : Tbl (List AperAcc)    -- accesses held, by port
  rsp : List HostRsp
  winStores : List (Nat × Reply)  -- acknowledgements of window stores that await a flushing read, by window
  noLinkSince : Option Nat     -- when the last link went down
  disabledRings : Option Nat   -- rings disabled for want of a link, still to be reported (R324)
  fullFrame : Option Nat       -- the last frame counted in CQ_FULL_WAITS (R351)
  seqs : Tbl Nat               -- REQ_SEQ counts of the units 0x1200-0x12FF and of the hubs' engines, by unit
deriving DecidableEq, Repr

/-! ## Control and snapshots (13) -/

/-- A capture of what the standby holds a copy of (R403): the hawk's bank, the region staging list, and the writable words
of the RING, CXL-local and Withy registers. -/
structure Copy where
  staged : Tbl W32
  rgnStage : List RgnWord
  check : Option Check
  armed : Option Armed
  words : Tbl W32
deriving DecidableEq, Repr

/-- The control of the two I/O dies beyond its registers (R402-R409). -/
structure Ctl where
  sending : Option Copy        -- a capture that the standby has not yet acknowledged whole
  copy : Option Copy           -- the last complete copy
  startsStopped : Bool         -- fetch and starts have stopped for a hand-back
  handTick : Nat               -- the tick H of that hand-back
  missed : Nat                 -- consecutive heartbeats missed on both paths (R405)
  takeover : Option Nat        -- cause of the change of control that is due
  restart : Bool               -- the old active die restarts once control has moved (R401)
  joinAt : Nat                 -- when the standby began to resynchronise
  joinFrame : Nat
  snapNext : Nat               -- the shadow bank whose turn it is (R394)
deriving DecidableEq, Repr

/-- A shadow bank (R393, R394): the descriptor that reserved it, and at the latch the reset counts of the units and every
value of the selected classes, by class and unit. -/
structure SnapBank where
  num : Nat
  select : Nat
  at_ : Nat
  latched : Bool
  frame : Nat
  resets : Tbl Nat
  units : List (Nat × List (Nat × Nat × List Nat))  -- class, then unit ID, status and values
deriving DecidableEq, Repr

end Sys2Proof.Machine
end

