-- ==== Sys2Proof/Machine/StLight.lean ====
section
/-!
DEFINITION. Lasers, rings, the calibration engine and DARK as state (08).
-/
namespace Sys2Proof.Machine

/-- A handover in progress (R235); its step is LSR_STATUS.STEP. -/
structure Handover where
  spareIn : Bool               -- the incoming laser is the spare
  since : Nat
  locked : Bool                -- phase-locked: the steps run
  setPoint : Nat               -- set point of the outgoing laser, in nW
deriving DecidableEq, Repr

/-- A laser index beyond its registers. -/
structure Laser where
  tuning : Int                 -- its tuning code, in 0.25 GHz (R232, R252)
  trim : Int                   -- what the grid monitor has added to it
  handover : Option Handover
  worn : Nat                   -- bit 0: the primary has faded; bit 1: the spare
  power : Nat                  -- sums of the present frame's readings of the laser that serves (R234)
  current : Nat
  samples : Nat
  lowFrames : Nat              -- consecutive frames with a mean output 0.5 dB or more below TARGET
  farFrames : Nat              -- consecutive frames with an offset beyond 10 GHz
  outage : Bool                -- its lanes are masked until the other laser serves (R237)
deriving DecidableEq, Repr

/-- A ring of the fabric beyond RING_STATUS. -/
structure HeatRing where
  beyond : Option Nat          -- since when its residual has been beyond 6 GHz (R242)
  within : Option Nat          -- since when it has been within 2 GHz (R241)
  error : Int                  -- the loop's error at its last update (R241)
  ambiguous : Nat              -- consecutive ambiguous identity windows (R245)
  fails : Nat                  -- acquisitions failed (R247)
  lostAt : Option Nat          -- when it was unlocked or found on a wrong colour
  point : Nat                  -- heater code of the lock point held or restored (R244, R253)
  back : Nat                   -- the STATE that a held ring takes when its plane is lit (R244)
  part : Nat                   -- replaced MSB driver segment, or unused amplifier slice (R248, R252)
  spareSeg : Bool              -- the spare driver segment is in use
deriving DecidableEq, Repr

/-- A lane under repair: the step of R247 whose test comes next, and the keys of the trims still to be measured again before it. -/
structure Repair where
  src : Nat
  dst : Nat
  plane : Nat
  step : Nat
  todo : List Nat
deriving DecidableEq, Repr

/-- A feathered value (R251): from, to, and the ticks passed. -/
structure Feather where
  old : Rat
  new : Int
  k : Nat
deriving DecidableEq, Repr

/-- Light supply, rings and calibration. A calibrated quantity is keyed by 2^20 times its place plus its element. -/
structure Light where
  lasers : Tbl Laser
  rings : Tbl HeatRing
  laserMasked : List Nat       -- lanes masked for want of their laser: 9 (32 s + d) + plane
  repairs : List Repair
  cal : Tbl Int                -- current values; a quantity not listed has none
  inForce : Tbl Rat            -- values in force
  feathers : Tbl Feather
  slews : Tbl (Rat × Nat)      -- stake-time legs that slew: the offset in force when the slew began, and when (R40)
  suspects : List (Nat × Nat × Nat)  -- redundant elements marked suspect: key's place, element, part (R249)
  saveFrame : Option Nat       -- frame in which SAVE was written (R252)
  relockAt : Nat               -- when the present relock began (R256)
  savedAt : Nat                -- stake time of the last calibration save or restore, 0 for none (R453)
deriving DecidableEq, Repr

end Sys2Proof.Machine
end

