-- ==== Sys2Proof/Machine/StMemory.lean ====
section
/-!
DEFINITION. Local memory, slices, store dies and compute dies as state (01, 06, 09, 10).
-/
namespace Sys2Proof.Machine

/-- Metadata of a physical page slot of a stack (R297). -/
structure PageMeta where
  writeCount : Nat
  powerOn : Nat
  start : Nat
  gap : Nat
  stamp : Nat                  -- stake time of the write in units of 16 st, modulo 2^48
  code : Nat
deriving DecidableEq, Repr

/-- Local memory below 0xF5_1000_0000 (R261): bytes by local address, valid bits and marks by line number la / 64.
`bytes` is what accesses see; `medium`, `medValid`, `medMark` hold the committed contents of the stacks (R290, R304). A
mark is the status code that reads of the line complete with: 0x40, or 0x41 (R167, R298); 0 is no mark. -/
structure Mem where
  bytes : List Host.Cell
  valid : Tbl Bool
  mark : Tbl Nat
  medium : List Host.Cell
  medValid : Tbl Bool
  medMark : Tbl Nat
deriving DecidableEq, Repr

/-- A slice beneath its SLICE_INFO register (R170-R174): failing bond positions, and its evacuation in progress. -/
structure Slice where
  failed : List Nat            -- failing positions; those below 2,304 lie in H0
  copyTo : Option Nat          -- the spare being copied to (R173)
  copyStart : Nat
deriving DecidableEq, Repr

/-- A store die beneath its registers (R178-R180). -/
structure StoreDie where
  cause : Nat                  -- cause of the reset in progress
  resetAt : Nat                -- stake time of its start
  clearing : Bool              -- the clearing step is still to come
  badEntries : List Nat        -- granules whose region entry in the system area is poisoned (R167, R175)
deriving DecidableEq, Repr

/-- A compute die beyond its registers (R35, R71, R399, R400). -/
structure CDie where
  grants : List (Nat × Nat)    -- governor cycle and site of the moves granted in the last 64 cycles (R35)
  suspect : List Nat           -- mesh links marked suspect (R71)
  errors : List (Nat × Nat)    -- hop errors of the last 1 ms: link and stake time
  fencedAt : Option Nat        -- stake time of isolation while isolated (R399)
  fenceDone : Bool             -- its requests have been completed at the fence timeout
  isolations : List Nat        -- stake times of isolations within 1 s (R400)
  shutdown : Bool              -- it cut its own rails for its temperature (R466)
  held : Tbl W32               -- its block's registers as they were at isolation (R419)
deriving DecidableEq, Repr

end Sys2Proof.Machine
end

