-- ==== Sys2Proof/Machine/StSec.lean ====
section
/-!
DEFINITION. The sealed stores, lifecycle fuses, random sources and the command window as state (15).
-/
namespace Sys2Proof.Machine

/-- A secret part (R443): the key-derivation secret and the private key. -/
structure Secret where
  k : BitVec 512
  priv : List Byte
deriving DecidableEq, Repr

/-- New parts during a transition (R443, R448). -/
structure PendingParts where
  secret : Option Secret
  pub : List Byte
  statement : List Byte
deriving DecidableEq, Repr

/-- One copy of the sealed store (R443). A part that is absent or wiped is `none` or empty. -/
structure SealCopy where
  secret : Option Secret
  pub : List Byte
  statement : List Byte
  journal : Option (Nat × Nat)         -- target of the transition in progress, and its step
  pend : Option PendingParts
deriving DecidableEq, Repr

/-- The security state beyond the SEC registers (15). -/
structure Sec where
  fuses : Tbl Nat                      -- lifecycle fuse count of each I/O die (R442)
  copies : Tbl SealCopy                -- by I/O die
  rngPass : Tbl Bool                   -- health of each I/O die's random source (R451)
  openAt : Nat                         -- when the command window opened (R446)
  holdAt : Nat                         -- when the hold began
  released : Bool                      -- a release has been seen within the window
  code : Nat                           -- CODE and TARGET of the command whose window opened last
  target : Nat
deriving DecidableEq, Repr

end Sys2Proof.Machine
end

