-- ==== Sys2Proof/Machine/StStack.lean ====
section
/-!
DEFINITION. Stack controllers as state (10).
-/
namespace Sys2Proof.Machine

/-- A dirty page of the coalescer (R303). -/
structure Dirty where
  page : Nat
  due : Nat                    -- frame D
  since : Nat                  -- stake time of the earliest store not yet committed (R305)
  through : Bool               -- queued as soon as its fetch is complete
deriving DecidableEq, Repr

/-- A commit in progress (R304): the snapshot of the page's lines (data, valid bit, mark), and the tags of its ledger
entries (node, unit, incarnation, sequence). Commits queued at the same instant share the writes of their ledger pages. -/
structure Commit where
  page : Nat
  since : Nat
  lines : List (Line × Bool × Nat)
  entries : List (Nat × Nat × Nat × Nat)
  queuedAt : Nat               -- stake time
  ledgerPages : List Nat       -- ledger pages still to be written before the page (R304 step 2)
deriving DecidableEq, Repr

/-- A bank group's rotation (R310). -/
structure BankGrp where
  start : Nat
  gap : Nat
  writes : Nat                 -- page writes since the last gap move
deriving DecidableEq, Repr

/-- A record (R313). -/
structure ScRecord where
  seq : Nat
  powerOn : Nat
  clean : Bool
  stime : Nat
  groups : List (Nat × Nat × Nat)  -- bank group, START, GAP, where they differ from those of manufacture
deriving DecidableEq, Repr

/-- An entry of the load list (R308). -/
structure LoadEntry where
  page : Nat
  hard : Nat
  corrected : Nat
  code : Nat
deriving DecidableEq, Repr

/-- A stack controller beyond its registers. -/
structure Sc where
  cached : List Nat            -- pages in the cache, most recently used first (R301)
  fetching : List (Nat × Nat)  -- pages being fetched, with the lines stored meanwhile as a mask (R302)
  dirty : List Dirty           -- oldest first
  commits : List Commit
  lastCommit : Tbl Nat         -- frame in which a page's previous commit was queued, plus one; 0 for none
  groups : Tbl BankGrp
  acc : Nat                    -- skim pacing (R306)
  quota : Nat
  early : List Nat             -- pages queued for an early visit (R300)
  visits : Nat                 -- visits of the present skim pass
  wear : Nat                   -- largest WRITE_COUNT met in it
  high : List Nat              -- pages reported as PAGE_LOAD_HIGH in it
  loads : List LoadEntry       -- largest h first
  verified : Nat               -- slots visited by the verify pass
  expired : Nat                -- pages it marked MEDIUM_EXPIRED
  resets : List Nat            -- stake times of resets within 1 s
  cause : Nat
  resetAt : Nat
  faults : List Nat            -- stake times of path faults within 1 ms
  crcFails : List (Nat × Nat × Nat)  -- failed transfers of the last 1 ms (R295): channel, the signal they are traced to, stake time
  area : Tbl (BitVec 256)      -- the ledger area of the medium (R278, R293): entries by ledger slot; 0 is a free one
  verifyAt : Nat               -- when the verify pass began
  recA : Option ScRecord
  recB : Option ScRecord
  flushAt : Option Nat         -- when the flush in progress was asked for (R312)
  flushed : Nat                -- data and ledger pages that it has written
deriving DecidableEq, Repr

end Sys2Proof.Machine
end

