-- ==== Sys2Proof/Machine/StTile.lean ====
section
/-!
DEFINITION. Tiles, courses and laps as state (03, 04).
-/
namespace Sys2Proof.Machine

/-! ## Tiles, courses and laps (03, 04) -/

/-- The type tag of an accumulator (R114). -/
inductive AccTag where
  | fp32 | fp64 | int32
deriving DecidableEq, Repr

/-- The wait that stops a tile's issue (R120). -/
inductive TWait where
  | untilTime (t : W64)
  | counter (c : Nat) (target : Nat) (seq : Nat)
  | done (d : Nat) (n : Nat)
  | rimBar (ch : Nat) (seq : Nat)
  | rimFlag (ch : Nat) (v : W32) (seq : Nat)
  | refetch                    -- the loader fetches the image again (R69)
deriving DecidableEq, Repr

/-- Where a mover request stands. -/
inductive MState where
  | entry                      -- waits for its region entry (R68)
  | held                       -- a release-flagged store behind earlier requests (R275)
  | sent
deriving DecidableEq, Repr

/-- A mover request (R66, R116, R117). -/
structure MReq where
  seq : Nat
  opc : Nat
  queue : Nat
  dc : Nat
  key : W32
  ga : W64
  spad : Nat                   -- scratchpad address of the transfer, or of the operand line
  lines : Nat
  operand : W64                -- the plait word of a contribution
  rel : Bool
  failed : Bool                -- an earlier request of its queue did not complete OK (R275)
  state : MState
  retries : Nat
  deadline : Nat
deriving DecidableEq, Repr

/-- A row move (R164): its place in the mover, its row and scratchpad address. -/
structure RowMove where
  write : Bool
  row : W64
  dc : Nat
  spad : Nat
  granted : Bool
  since : Option Nat           -- governor cycle from which it is held (R35)
  counted : Option Nat         -- governor cycle up to which its hold is counted, while the governor holds it (R169)
  due : Nat                    -- cycle of the done counter's count, once granted (R164)
deriving DecidableEq, Repr

/-- What a loader is fetching (R69, R79, R82). -/
inductive LFetch where
  | idle | entry | image | refetch
deriving DecidableEq, Repr

/-- A request of a tile's loader (R65, R124, R276): up to 4 KiB from a global address, and its reply once it has come. -/
structure LReq where
  seq : Nat
  what : LFetch
  key : W32
  ga : W64
  lines : Nat
  retries : Nat
  deadline : Nat
  reply : Option (Nat × List (Option Line))  -- status and lines
deriving DecidableEq, Repr

/-- What occupies a signal slot (R92, R122). -/
structure Sig where
  seq : Nat
  rim : Bool
  target : W64                 -- counter word or channel
  amount : W64
  retries : Nat
  deadline : Nat
deriving DecidableEq, Repr

/-- What a loader keeps beside a bank (R125). -/
structure BankImg where
  bound : Nat
  hot : Bool
  entry : Nat
  bundles : Nat
  segs : List Segment
  digest : BitVec 256
  body : List (BitVec 128)
deriving DecidableEq, Repr

/-- How a member left its course (R93). -/
inductive Leave where
  | tileFault | fitReject | overrun | malformed | isolated | ringDisabled
  | fetchFault (status : Nat)
deriving DecidableEq, Repr

/-- A member's part in a course (R79-R93). -/
structure Member where
  group : Nat
  index : Nat
  count : Nat
  listGa : W64
  listKey : Nat                -- key slot of the list
  nextEntry : Nat              -- index of the entry the loader holds or fetches
  loaded : Option CourseEntry  -- the entry whose image the inactive bank holds or will hold
  current : Option CourseEntry -- the entry the lap runs
  runsLeft : Nat               -- runs of the current entry still to begin
  ready : Bool                 -- the image of `loaded` has passed the fit check
  fetch : LFetch
  lastEnded : Bool             -- the last lap of the course has ended
  begun : Nat                  -- laps begun
  ended : Nat                  -- laps ended
  stopping : Option Leave      -- starts no further lap
deriving DecidableEq, Repr

/-- What a bundle's slots read: the registers before it issued (R100). -/
structure Pre where
  sregs : Tbl W64
  preds : Tbl Bool
  vregs : Tbl VReg
  scales : Tbl (BitVec 128)
  done : Tbl W32
  rnd : W64
  old : Tbl Byte               -- scratchpad bytes that the bundle's datapath writes replaced
deriving DecidableEq, Repr

/-- A tile (R65). -/
structure Tile where
  sregs : Tbl W64
  preds : Tbl Bool             -- p1-p7; p0 reads 1 (R99)
  vregs : Tbl VReg
  scales : Tbl (BitVec 128)    -- scale companions; unlisted 16 bytes of 0x7F (R81)
  accs : Tbl W64               -- element (row, col) of accumulator a at 2048 a + 64 row + col
  tags : Tbl AccTag
  done : Tbl W32
  rnd : W64
  aflags : W64
  tstat : W64
  seed : W64
  pre : Pre
  bundle : Nat                 -- index of the bundle issued last
  next : Nat                   -- index of the next bundle
  issueEnd : Bool              -- END has issued, or fetch has ended (R83, R108)
  illSeen : Bool               -- the lap's first illegal event is recorded (R101)
  cycles : Nat                 -- executed cycles of the lap (R83)
  boundSeen : Bool             -- BOUND_EXCEEDED counted for the lap (R89)
  lapIndex : Nat               -- laps begun before this one in the course (R81)
  wait : Option TWait
  waitSince : Nat              -- stake time at which the wait began
  waitTries : Nat              -- copies of a WAIT sent again (R281)
  mover : List MReq            -- in issue order
  rows : List RowMove          -- in issue order
  qFailed : Nat                -- bit q: a store, atomic or contribution of queue q has failed in this lap (R275)
  sigs : List Sig
  seqNext : Nat                -- next REQ_SEQ (R277)
  loader : List LReq           -- the loader's requests of the fetches in hand, in issue order
  look : List (Nat × Region)   -- lookaside cache, most recently used first (R68)
  bank0 : Option BankImg
  bank1 : Option BankImg
  member : Option Member
deriving DecidableEq, Repr

/-- A course (R80, R93). -/
structure Course where
  group : Nat
  ring : Nat
  num : Nat                    -- the descriptor
  listGa : W64
  listKey : Nat
  startFrame : Int
  claimed : Bool               -- its members are claimed and load entry 0 (R80)
  running : Bool
  began : Nat                  -- the frame in which it started
  members : List Nat           -- unit IDs of the members that run it, by member index
  statuses : List (Nat × Nat × Nat)  -- row of R93, unit, status: members that met rows 1 to 6, in order of occurrence
  faults : List (Nat × Nat × Nat)    -- stake time, unit, status: first failing status of each member (row 7)
  progress : List Nat          -- laps ended by members that have left
  notBefore : Nat              -- latest DEADLINE of requests lost to isolation
deriving DecidableEq, Repr

end Sys2Proof.Machine
end

