-- ==== Sys2Proof/Machine/StWithy.lean ====
section
/-!
DEFINITION. Withy fibres, route tables and time across nodes as state (12).
-/
namespace Sys2Proof.Machine

/-- A fibre pair beyond its registers (R364-R371). -/
structure WFib where
  txSeq : Nat                          -- next CW_SEQ
  replay : List (Nat × List WithyFlit) -- unacknowledged sequenced codewords by CW_SEQ, oldest first
  ackAt : Nat                          -- when the sender last launched onto an empty buffer, replayed or was acknowledged
  phase : Bool                         -- PHASE of the codeword to be formed next (R362)
  cw : List (BitVec 10)                -- the codeword formed last
  rest : List Byte                     -- the first half of a flit that goes on in the next codeword received
  errors : List (Nat × Nat)            -- colour errors of the last 1 ms (R368): colour, stake time
  expect : Nat                         -- CW_SEQ the receiver expects
  nakAt : Option Nat                   -- when a NAK for `expect` was sent
  used : List Nat                      -- flits launched whose credits have not returned, by class
  returned : List Nat                  -- the peer's running counts of credits returned, by class
  given : List Nat                     -- this end's running counts, by class
  rtt : Nat                            -- measured round trip in st
  tx : List Nat                        -- colours of the transmit positions
  rx : List Nat                        -- colours of the receive positions
  txHealthy : Nat                      -- mask of healthy transmit colours, as the peer reports them
  trainSince : Nat                     -- when the present training began
  up : Bool                            -- trained: codewords run
  skip : Bool                          -- at 8 positions: its next turn is left out
  down : Bool                          -- reported down since it last trained
deriving DecidableEq, Repr

/-- A request or reply that the receiving I/O die assembles (R376), with its flits in order of arrival. -/
structure Assembly where
  die : Nat
  node : Nat
  unit : Nat
  inc : Nat
  seq : Nat
  reply : Bool
  first : Nat                          -- stake time of its first flit
  flits : List WithyFlit
deriving DecidableEq, Repr

/-- A remote request that the proxy serves (R376): its remote tag, the port its reply goes back to, and its tag in the
package. -/
structure Proxied where
  die : Nat
  node : Nat
  unit : Nat
  inc : Nat
  seq : Nat
  port : Nat
  opc : Nat
  localSeq : Nat
  deadline : Nat
deriving DecidableEq, Repr

/-- The Withy ports (12). -/
structure Withy where
  fibres : Tbl WFib                    -- by 16 n + f
  routes : Tbl (W32 × W32)             -- LO and HI of an entry, by 65536 version + node
  turn : Tbl Nat                       -- the fibre that took the last request to a next node
  asm : List Assembly
  transit : List (Nat × WithyFlit)     -- flits for other nodes that an I/O die holds (R375)
  proxied : List Proxied
  outbound : List (Nat × Reply)        -- replies for other nodes that wait for a fibre, with their DEST_PORT
  hubTurn : Tbl Nat                    -- the I/O hub to which each hub sends its next request (R374): 0 to 3
  flipFrame : Nat                      -- frame of the last epoch flip
  agreed : Nat                         -- consecutive exchanges that agree (R379)
  exchangedAt : Nat
  cutAt : Option Nat                   -- since when no fibre reaches the parent
  lostAt : Nat                         -- when PARENT_LOST was set
deriving DecidableEq, Repr

end Sys2Proof.Machine
end

