-- ==== Sys2Proof/Machine/State.lean ====
section
/-!
DEFINITION. The state of the PF8, its reset, and the ways a step can stop.
-/
namespace Sys2Proof.Machine

/-- The machine never stops with a fault: no meaning answers one. The constructor keeps the type inhabited and is raised
by nothing (safe). -/
inductive Fault where
  | none
deriving DecidableEq, Repr

/-- Why a command is refused. -/
inductive Refusal where
  /-- Raised by an arm of the dispatcher whose command has no meaning yet (safe: the machine stops). -/
  | notModelled (mnemonic : String)
deriving DecidableEq, Repr

/-- The state. -/
structure State where
  pending : List Instr         -- commands that wait, first in first out
  freeCount : Nat              -- the model's own counter of free values (log entry 2)
  regs : Tbl W32               -- registers by address (R418); an unlisted one holds its reset value
  hostLatch : Tbl W32          -- latches of the `_HI` registers read by the host (R62)
  smbLatch : Tbl W32           -- those of SMBus (R472)
  readData : W32               -- what the last register read returned (log entry 1)
  smbData : List Byte          -- what the last SMBus read returned (log entry 1)
  clk : Clk
  pins : Pins
  hawk : Hawk
  ev : Events
  tiles : Tbl Tile             -- by unit ID (R11)
  courses : List Course        -- in order of LAUNCH
  mem : Mem
  pageMeta : Tbl PageMeta      -- by stack << 25 | physical slot, 20,482 slots for each bank group
  scs : Tbl Sc
  slices : Tbl Slice           -- by 292 d + p
  storeDies : Tbl StoreDie
  cdies : Tbl CDie
  regions : Tbl Region         -- by granule (R263)
  fab : Fab
  net : Net
  engine : List EngineReq      -- requests of engines that await their replies
  host : HostSt
  ctl : Ctl
  snaps : Tbl (Option SnapBank)  -- by bank
  withy : Withy
  light : Light
  sec : Sec
deriving DecidableEq, Repr

/-! ## Reset -/

def Clk.reset : Clk :=
  { running := false, dead := false, now := 0, frame := 0, tick := 0, lapDue := false, lapWindow := 0, lastEdge := 0,
    slewStart := 0, slewOffset := 0, legFrame := [], drift := [], echo := [], slewing := [], ramp := .idle, stopped := [], regionStep := [],
    lastStop := [], memWave := false, memNext := 0, memTick := 0, gateAt := 0,
    allowTick := 0, allowOld := 0, stretch := [] }

def Fab.reset : Fab :=
  { hubs := [], pairs := [], lost := [], vlinks := [], sync := [], mirror := [], plaits := [], route := [],
    forwarders := [], rimNet := [], ledgers := [], rgnCache := [], rgnWait := [], queued := [] }

def HostSt.reset : HostSt :=
  { sq := [], cq := [], evrHead := 0, evrWritten := 0, mem := [], signals := [], moving := [], held := [], rsp := [],
    winStores := [], noLinkSince := none, disabledRings := none, fullFrame := none, seqs := [] }

def Ctl.reset : Ctl :=
  { sending := none, copy := none, startsStopped := false, handTick := 0, missed := 0, takeover := none, restart := false, joinAt := 0,
    joinFrame := 0, snapNext := 0 }

def Withy.reset : Withy :=
  { fibres := [], routes := [], turn := [], asm := [], transit := [], proxied := [], outbound := [], hubTurn := [], flipFrame := 0,
    agreed := 0, exchangedAt := 0, cutAt := none, lostAt := 0 }

def Light.reset : Light :=
  { lasers := [], rings := [], laserMasked := [], repairs := [], cal := [], inForce := [], feathers := [], slews := [], suspects := [],
    saveFrame := none, relockAt := 0, savedAt := 0 }

/-- The machine right after reset, before bring-up begins: no feed is in range, stake time does not run, and every register
holds its reset value (R15, R418, R420; log entries 1 to 8 name the values that the spec does not give). -/
def State.reset : State :=
  { pending := [], freeCount := 0, regs := [], hostLatch := [], smbLatch := [], readData := 0, smbData := [],
    clk := Clk.reset,
    pins := { pwrfailN := false, presenceAsserted := false, perst := [], feedA := false, feedB := false, hot := [] },
    hawk := { staged := [], rgnStage := [], check := none, armed := none, relight := none },
    ev := { staged := [], lost := 0, acc := [], limits := [] },
    tiles := [], courses := [],
    mem := { bytes := [], valid := [], mark := [], medium := [], medValid := [], medMark := [] },
    pageMeta := [], scs := [], slices := [], storeDies := [], cdies := [], regions := [], fab := Fab.reset,
    net := { reqs := [], replies := [], acks := [], withy := [], msgs := [], entries := [] }, engine := [],
    host := HostSt.reset, ctl := Ctl.reset, snaps := [], withy := Withy.reset, light := Light.reset,
    sec := { fuses := [], copies := [], rngPass := [], openAt := 0, holdAt := 0, released := false, code := 0, target := 0 } }

end Sys2Proof.Machine
end

