-- ==== Sys2Proof/Machine/Ops.lean ====
section
/-!
DEFINITION. The named operations over registers, counters, events, free values, tiles and memory that every meaning uses.
-/
namespace Sys2Proof

/-- The unit ID of a tile site (R11). -/
def TileId.unit (t : TileId) : Nat := t.die.val * 512 + t.site.val

end Sys2Proof

namespace Sys2Proof.Machine

/-- Outcome of a meaning. -/
abbrev Out := Host.Outcome State Fault Refusal

/-! ## Registers (R9, R15, R418) -/

/-- The word of a register. -/
def State.getR (s : State) (a : Nat) : W32 := Tbl.look regReset s.regs a

/-- Replaces the word of a register. -/
def State.setR (s : State) (a : Nat) (v : W32) : State := { s with regs := Tbl.put regReset s.regs a v }

/-- The bits that a field occupies. -/
def Fld.mask (f : Fld) : W32 := BitVec.ofNat 32 ((2 ^ f.width - 1) * 2 ^ f.lo)

/-- A field of a word. -/
def Fld.of (f : Fld) (w : W32) : Nat := w.toNat / 2 ^ f.lo % 2 ^ f.width

/-- A word with a field replaced by the low bits of `v`. -/
def Fld.into (f : Fld) (w : W32) (v : Nat) : W32 :=
  (w &&& ~~~f.mask) ||| BitVec.ofNat 32 (v % 2 ^ f.width * 2 ^ f.lo)

/-- Reads a field of a register. -/
def State.getF (s : State) (f : Fld) : Nat := f.of (s.getR f.addr)

/-- Writes a field of a register. -/
def State.setF (s : State) (f : Fld) (v : Nat) : State := s.setR f.addr (f.into (s.getR f.addr) v)

/-- Reads a one-bit field. -/
def State.on (s : State) (f : Fld) : Bool := s.getF f == 1

/-- Writes a one-bit field. -/
def State.setB (s : State) (f : Fld) (b : Bool) : State := s.setF f b.toNat

/-- Adds to a field, which holds its largest value instead of passing it. -/
def State.satF (s : State) (f : Fld) (n : Nat) : State := s.setF f (min (2 ^ f.width - 1) (s.getF f + n))

/-- Adds to a field, which wraps. -/
def State.wrapF (s : State) (f : Fld) (n : Nat) : State := s.setF f (s.getF f + n)

/-- The bits of a register that are staged through the hawk. -/
def rwhMask (a : Nat) : W32 := BitVec.ofNat 32 (regDesc a).rwh

/-- The RWH bits of a register as the next commit finds them (R426): those in force, or those of the armed set. A change of
MEM_STEP in progress counts as complete (R57). -/
def State.future (s : State) (a : Nat) : W32 :=
  let w := s.getR a &&& rwhMask a
  let w := if a = Reg.memStep.addr then Reg.memStep.into w s.clk.memNext else w
  match s.hawk.armed with
  | some x => Tbl.look (fun _ => w) x.words a
  | none => w

/-- The staged RWH bits of a register (R420): those that a write has staged, else those that will be in force. -/
def State.getStaged (s : State) (a : Nat) : W32 := Tbl.look s.future s.hawk.staged a

/-- Stages RWH bits. -/
def State.stage (s : State) (a : Nat) (v : W32) : State :=
  { s with hawk := { s.hawk with staged := Tbl.put s.future s.hawk.staged a (v &&& rwhMask a) } }

def State.getSF (s : State) (f : Fld) : Nat := f.of (s.getStaged f.addr)
/-- Stages one field. -/
def State.stageF (s : State) (f : Fld) (v : Nat) : State := s.stage f.addr (f.into (s.getStaged f.addr) v)

/-- Whether the block of a register is open (R419): before READY only the GLB, STK, HLTH, PWR, LX and CXL-local blocks are. -/
def State.blockOpen (s : State) (a : Nat) : Bool :=
  decide (a < 0x10000) || decide (0x20000 ≤ a ∧ a < 0x30000) || decide (0x40000 ≤ a ∧ a < 0x50000) ||
    decide (0x60000 ≤ a ∧ a < 0x70000) || decide (0x3000000 ≤ a ∧ a < 0x3400000) || decide (0x3800000 ≤ a) ||
    s.on Reg.glbReady

/-- Whether a register lies in the block of a held-out die (R419). -/
def State.blockOut (s : State) (a : Nat) : Bool :=
  if 0x1000000 ≤ a ∧ a < 0x1800000 then s.getF (Reg.dieState ((a - 0x1000000) / 0x100000)) == 5
  else if 0x2000000 ≤ a ∧ a < 0x2200000 then s.getF (Reg.hubState ((a - 0x2000000) / 0x10000)) == 3
  else if 0x2800000 ≤ a ∧ a < 0x28C0000 then s.on (Reg.identHeldOut (16 + (a - 0x2800000) / 0x10000))
  else if 0x3400000 ≤ a ∧ a < 0x3500000 then s.on (Reg.identHeldOut (28 + (a - 0x3400000) / 0x80000))
  else if 0x3800000 ≤ a ∧ a < 0x3800200 then s.on (Reg.identHeldOut (28 + (a - 0x3800000) / 0x100))
  else if 0x3808000 ≤ a ∧ a < 0x3810000 then s.on (Reg.identHeldOut (28 + (a - 0x3808000) / 0x4000))
  else false

/-- Whether the host reaches the registers (R33): with both I/O dies held out no CXL port trains, and only SMBus reports. -/
def State.hostReaches (s : State) : Bool := !(s.on (Reg.identHeldOut 28) && s.on (Reg.identHeldOut 29))

/-- Whether the block of a register answers the host (R33, R419). -/
def State.answers (s : State) (a : Nat) : Bool := s.hostReaches && s.blockOpen a && !s.blockOut a

/-- A write of a register has its effect where the block answers. -/
def State.written (s : State) (a : Nat) (act : State → State) : State := if s.answers a then act s else s

/-! ## Time -/

/-- FP in st, from the FP_K in force (R46). -/
def State.fp (s : State) : Nat := s.getF Reg.fpK * 1024

/-- The tick that begins the next frame (R46). -/
def State.nextTick (s : State) : Nat := s.clk.tick + s.fp

/-- The I/O die in control (R402). -/
def State.controller (s : State) : Nat := s.getF Reg.hlthController

/-- The engine that stands as the source of health events (R416). -/
def State.hlthUnit (s : State) : Nat := 0x1200 + s.controller

/-- What the block does with no command waiting (log entry 9): stake time counts on to the next tick. -/
def State.idle (s : State) : State :=
  if s.clk.running ∧ s.clk.now + 1 < s.nextTick then { s with clk := { s.clk with now := s.clk.now + 1 } } else s

/-- Stake time reaches an instant named in advance; it never runs backward (R38). -/
def State.reach (s : State) (t : Nat) : State := { s with clk := { s.clk with now := max s.clk.now t } }

/-- Whether the units run: a feed is in range (R410) and the stake-time master has not failed (R388). -/
def State.alive (s : State) : Bool := (s.pins.feedA || s.pins.feedB) && !s.clk.dead

/-- The effect of a command on units that run; a command that finds none running has no effect. -/
def State.live (s : State) (act : State → Out) : Out := if s.alive then act s else .next s

/-! ## Free values (log entry 2) -/

/-- The next free value. -/
def State.freeWord (s : State) : W64 := Config.freeWord s.freeCount

/-- Takes a free value. -/
def State.tookFree (s : State) : State := { s with freeCount := s.freeCount + 1 }

/-- A bit set or cleared in a number. -/
def setBit (n i : Nat) (b : Bool) : Nat := if n.testBit i = b then n else if b then n + 2 ^ i else n - 2 ^ i

/-! ## Counters (R62, R96, R392) and events (R14, R353, R478, R479) -/

/-- The largest value of a 48-bit counter. -/
def cntMax : Nat := 2 ^ 48 - 1

/-- The value of the counter whose low word is at `a`. -/
def State.cnt (s : State) (a : Nat) : Nat := (s.getR a).toNat + (s.getR (a + 4)).toNat % 2 ^ 16 * 2 ^ 32

/-- Stores a counter's value; OVF is sticky. -/
def State.setCnt (s : State) (a v : Nat) (ovf : Bool) : State :=
  (s.setR a (BitVec.ofNat 32 v)).setR (a + 4)
    (BitVec.ofNat 32 (v / 2 ^ 32 % 2 ^ 16) ||| (if ovf then 0x80000000#32 else s.getR (a + 4) &&& 0x80000000#32))

/-- Adds to a counter, which saturates and sets OVF (R96). -/
def State.addCnt (s : State) (a n : Nat) : State :=
  let v := min cntMax (s.cnt a + n)
  s.setCnt a v (decide (v = cntMax ∧ s.cnt a < cntMax))

/-- The port that carries a port's traffic (R25): itself, but at an I/O die whose vertical link there has failed the die's
other port. -/
def State.portFor (s : State) (p : Nat) : Nat :=
  if 28 ≤ p ∧ s.getF (Reg.vlinkWidth p) = 2 then p ^^^ 1 else p

/-- The port of the I/O die in control. -/
def State.ioPort (s : State) : Nat := s.portFor (28 + 2 * s.controller)

/-- The hub in which a unit's events are staged (R177, R353): a tile's by its bridge (R70, R72), a controller's and a hub's own, an
I/O unit's the first of its die; the master's and the rings' that of the active I/O die (log entry 13). -/
def State.hubOf (s : State) (unit : Nat) : Nat :=
  if unit < 0x1000 then
    let route := s.getF (Reg.meshRoute (unit / 512))
    2 * (unit / 512) + (if route = 1 then 1 else if route = 2 then 0 else if unit % 512 % 18 < 9 then 0 else 1)
  else if unit < 0x1100 then unit - 0x1000
  else if unit < 0x1200 then 16 + (unit - 0x1100)
  else if unit = 0x1200 then s.portFor 28 else if unit = 0x1201 then s.portFor 30
  else s.ioPort

/-- The die of a unit, numbered as R33 does; the rings and the control units belong to the I/O die in control. -/
def State.dieOf (s : State) (unit : Nat) : Nat :=
  if unit < 0x1000 then unit / 512
  else if unit < 0x1010 then (unit - 0x1000) / 2
  else if unit < 0x101C then unit - 0x1000
  else if unit < 0x1020 then 28 + (unit - 0x101C) / 2
  else if unit < 0x110C then 16 + (unit - 0x1100)
  else if unit < 0x1202 then 28 + (unit - 0x1200)
  else 28 + s.controller

/-- The request counts of a die's hubs restart at 0 as it takes a new incarnation number (R277); those of the units 0x1200 to 0x13FF
go on. -/
def State.restartSeqs (s : State) (d : Nat) : State :=
  let seqs := s.host.seqs.filter fun e => decide (0x1200 ≤ e.1) || s.dieOf e.1 != d
  { s with host := { s.host with seqs := seqs } }

/-- Raises an event at this moment (R14): it is staged in the unit's hub, or dropped and counted when the hub is full (R353). -/
def State.raise (s : State) (code unit : Nat) (detail : List Nat) : State :=
  let h := s.hubOf unit
  let q := Tbl.look (fun _ => []) s.ev.staged h
  if q.length < 256 then
    let q' := q ++ [⟨code, unit, s.getF Reg.wtyNode, s.clk.now, detail⟩]
    { s with ev := { s.ev with staged := Tbl.put (fun _ => []) s.ev.staged h q' } }
  else
    let s := (s.addCnt (Reg.ringCnt 9) 1).setB Reg.evrLost true
    { s with ev := { s.ev with lost := s.ev.lost + 1 } }

/-! ## The lowest active tile of a die (R478) -/

/-- The source unit of a die's events: its lowest-numbered active tile, or site 0's unit when it has none. -/
def State.dieUnit (s : State) (d : Nat) : Nat :=
  match (List.range 288).find? (fun x => s.getF (Reg.siteState d x) == 1) with
  | some x => d * 512 + x
  | none => d * 512

/-- The unit of a statistics counter (R395, R416, R478), by the address of its low word. The units of R395 stand for the
light, ring and health counters; the security counters are the active I/O die's (log entry 17). -/
def State.counterUnit (s : State) (a : Nat) : Nat :=
  if 0x1000000 ≤ a ∧ a < 0x1800000 then
    let d := (a - 0x1000000) / 0x100000
    let o := a % 0x100000
    if 0x20000 ≤ o ∧ o < 0x29000 then d * 512 + (o - 0x20000) / 128
    else if 0x30000 ≤ o ∧ o < 0x34800 then d * 512 + (o - 0x30000) / 64
    else s.dieUnit d
  else if 0x2000000 ≤ a ∧ a < 0x2200000 then
    let p := (a - 0x2000000) / 0x10000
    if p = 28 ∧ 0x1200 ≤ a % 0x10000 then 0x1200 else if p = 30 ∧ 0x1200 ≤ a % 0x10000 then 0x1201 else 0x1000 + p
  else if 0x2800000 ≤ a ∧ a < 0x28C0000 then 0x1100 + (a - 0x2800000) / 0x10000
  else if 0x3000000 ≤ a ∧ a < 0x3400000 then 0x101C
  else if 0x3400000 ≤ a ∧ a < 0x3500000 then 0x1200 + (a - 0x3400000) / 0x80000
  else if 0x50000 ≤ a ∧ a < 0x60000 then 0x1200 + s.controller
  else 0xFFFF

/-- Adds to a statistics counter; the count that takes it to its largest value raises COUNTER_SATURATED (R392). -/
def State.bump (s : State) (a n : Nat) : State :=
  let t := s.addCnt a n
  if s.cnt a < cntMax ∧ t.cnt a = cntMax then t.raise 0x7002 (t.counterUnit a) [a] else t

/-! ## Health (R390, R412) -/

/-- What the active controller drives on STATUS (R412): bring-up before READY, then the first state that holds. -/
def State.pinStatus (s : State) : Nat :=
  if !s.pins.feedA && !s.pins.feedB then 0
  else if s.clk.dead || s.getF Reg.glbPhase == 15 then 6
  else if !s.on Reg.glbReady then 1
  else if !s.pins.pwrfailN then 5
  else if s.getF Reg.fabric ≠ 2 then 4
  else if s.getF Reg.degraded ≠ 0 then 3
  else 2

/-- The gap of a change of control (R407): the active die has failed or resigned, and no die drives the outputs anew. -/
def State.controlGap (s : State) : Bool :=
  let st := s.getF (Reg.dieState (28 + s.controller))
  !s.clk.dead && (s.ctl.takeover.isSome || st == 2 || st == 4)

/-- HLTH_STATUS mirrors the sideband outputs (R412), which hold their values in the gap of a change of control (R407). -/
def State.updatePins (s : State) : State :=
  let gap := s.controlGap
  let alert := s.clk.dead || s.getF Reg.degraded &&& (2047 - s.getF Reg.alertMask) != 0
  ((s.setF Reg.pinStatus (if gap then s.getF Reg.pinStatus else s.pinStatus)).setB Reg.hlthAlert
      (if gap then s.on Reg.hlthAlert else alert)).setB Reg.hlthThermTrip (if gap then s.on Reg.hlthThermTrip else !s.pins.hot.isEmpty)

/-- Sets or clears a bit of HLTH_DEGRADED; a change raises DEGRADED_CHANGED (R390). -/
def State.setDegraded (s : State) (i : Nat) (b : Bool) : State :=
  let old := s.getF Reg.degraded
  let new := setBit old i b
  if new = old then s else ((s.setF Reg.degraded new).raise 0x7001 (0x1200 + s.controller) [old, new]).updatePins

/-- Sums an occurrence into the event of this interval (R479): `first` is its detail at the first occurrence; a later one
changes the detail by `upd`, which is told whether it falls at the stake time of the first. WINDOW_FAULT sums up by window.
DESIGN CHOICE (log entry 123): an item that its event's table does not call first keeps the value of the first occurrence. -/
def State.accum (s : State) (code unit : Nat) (first : List Nat) (upd : Bool → List Nat → List Nat) : State :=
  let here := fun (a : FrameAcc) =>
    a.code == code && a.unit == unit && (code != 0x6008 || a.detail.head? == first.head?)
  let acc := if s.ev.acc.any here then
      s.ev.acc.map fun a => if here a then { a with detail := upd (a.since == s.clk.now) a.detail } else a
    else s.ev.acc ++ [⟨code, unit, s.clk.now, first⟩]
  { s with ev := { s.ev with acc := acc } }

/-- The update of a detail [frame, count, first item]: the earliest item stays first, ties going to the lower (R479). -/
def accCount (x : Nat) (same : Bool) (d : List Nat) : List Nat :=
  match d with
  | [f, n, y] => [f, n + 1, if same then min x y else y]
  | d => d

/-- Sums an occurrence whose detail is frame, count and first item. -/
def State.accItem (s : State) (code unit x : Nat) : State := s.accum code unit [s.clk.frame, 1, x] (accCount x)

/-- Raises the summed events that `sel` selects, in the order of their first occurrence, and starts a new interval. -/
def State.raiseAcc (s : State) (sel : Nat → Bool) : State :=
  let due := s.ev.acc.filter fun a => sel a.code
  let s := { s with ev := { s.ev with acc := s.ev.acc.filter fun a => !sel a.code } }
  due.foldl (fun s a => s.raise a.code a.unit a.detail) s

/-- Events summed to a lap instant (R479). -/
def atLapInstant (code : Nat) : Bool := code == 0x1008 || code == 0x5002 || code == 0x5004

/-- Raises an event limited to one per 1,024 frames for one key (R479). -/
def State.raiseLimited (s : State) (code unit key : Nat) (detail : List Nat) : State :=
  let recent := s.ev.limits.any fun (l : Nat × Nat × Nat) => l.1 == code && l.2.1 == key && decide (s.clk.frame < l.2.2 + 1024)
  if recent then s
  else
    let rest := s.ev.limits.filter fun l => !(l.1 == code && l.2.1 == key)
    let s := { s with ev := { s.ev with limits := (code, key, s.clk.frame) :: rest } }
    s.raise code unit detail

/-! ## Sets and lists -/


/-- Inserts into a list without repeats. -/
def addTo (l : List Nat) (x : Nat) : List Nat := if x ∈ l then l else l ++ [x]

/-- The number of ones among the low w bits. -/
def popcount (w n : Nat) : Nat := ((List.range w).filter fun i => n.testBit i).length

/-! ## Bytes, lines and local memory (R9, R10, R261) -/

/-- Little-endian number of bytes. -/
def natOfBytes : List Byte → Nat
  | [] => 0
  | b :: r => b.toNat + 256 * natOfBytes r

/-- The n low bytes of a number, little-endian. -/
def bytesOfNat : Nat → Nat → List Byte
  | 0, _ => []
  | n + 1, x => BitVec.ofNat 8 x :: bytesOfNat n (x / 256)

/-- A reflected CRC of 32 bits with a (reflected) polynomial: initial value and final exclusive-or of all ones. -/
def crcReflected (poly : W32) (bs : List Byte) : W32 :=
  ~~~(bs.foldl (fun crc b =>
    (List.range 8).foldl (fun (c : W32) _ => if c.getLsbD 0 then (c >>> 1) ^^^ poly else c >>> 1) (crc ^^^ b.setWidth 32))
    0xFFFFFFFF#32)

/-- CRC-32C (R166): polynomial 0x1EDC_6F41, here with its bits reflected (log entry 125). -/
def crc32c (bs : List Byte) : W32 := crcReflected 0x82F63B78#32 bs

/-- The line check of a line at a local address (R166): over its 64 bytes and the address as 8 bytes. -/
def lineCheck (la : Nat) (l : Line) : W32 := crc32c (bytesOfNat 64 l.toNat ++ bytesOfNat 8 (la % 2 ^ 48))

/-- What an unlisted byte of local memory reads as: zero (R165, R293; scratchpads by log entry 3). -/
def memD : Nat → Byte := fun _ => 0

/-- A byte of local memory. -/
def State.rdByte (s : State) (a : Nat) : Byte := Tbl.look memD s.mem.bytes a

/-- Writes a byte of local memory. -/
def State.wrByte (s : State) (a : Nat) (b : Byte) : State :=
  { s with mem := { s.mem with bytes := Tbl.put memD s.mem.bytes a b } }

/-- n bytes from an address, as a number. -/
def State.rdN (s : State) (a n : Nat) : Nat := natOfBytes ((List.range n).map fun i => s.rdByte (a + i))

/-- Writes bytes from an address. -/
def State.wrBytes (s : State) (a : Nat) : List Byte → State
  | [] => s
  | b :: r => (s.wrByte a b).wrBytes (a + 1) r

/-- Writes the n low bytes of a number. -/
def State.wrN (s : State) (a n x : Nat) : State := s.wrBytes a (bytesOfNat n x)

/-- The canonical form of local memory. -/
def Memory.wf (m : List Host.Cell) : Bool := Tbl.wf memD m

/-- A line by its address; its bits as R9 orders them. -/
def State.rdLine (s : State) (a : Nat) : Line := BitVec.ofNat 512 (s.rdN (a / 64 * 64) 64)
def State.wrLine (s : State) (a : Nat) (l : Line) : State := s.wrN (a / 64 * 64) 64 l.toNat

def State.lineValid (s : State) (a : Nat) : Bool := Tbl.look (fun _ => false) s.mem.valid (a / 64)
def State.setValid (s : State) (a : Nat) (b : Bool) : State :=
  { s with mem := { s.mem with valid := Tbl.put (fun _ => false) s.mem.valid (a / 64) b } }
def State.lineMark (s : State) (a : Nat) : Nat := Tbl.look (fun _ => 0) s.mem.mark (a / 64)
def State.setMark (s : State) (a m : Nat) : State :=
  { s with mem := { s.mem with mark := Tbl.put (fun _ => 0) s.mem.mark (a / 64) m } }

/-! ## Tiles (R65) -/

def Pre.zero : Pre := ⟨[], [], [], [], [], 0, []⟩

/-- A tile that has run nothing: registers zero (R81). -/
def Tile.zero : Tile :=
  { sregs := [], preds := [], vregs := [], scales := [], accs := [], tags := [], done := [], rnd := 0, aflags := 0,
    tstat := 0, seed := 0, pre := Pre.zero, bundle := 0, next := 0, issueEnd := false, illSeen := false, cycles := 0,
    boundSeen := false, lapIndex := 0, wait := none, waitSince := 0, waitTries := 0, mover := [], rows := [], qFailed := 0, sigs := [],
    seqNext := 0, loader := [], look := [], bank0 := none, bank1 := none, member := none }

def State.tile (s : State) (u : Nat) : Tile := Tbl.look (fun _ => Tile.zero) s.tiles u
def State.setTile (s : State) (u : Nat) (t : Tile) : State := { s with tiles := Tbl.put (fun _ => Tile.zero) s.tiles u t }
def State.modTile (s : State) (u : Nat) (f : Tile → Tile) : State := s.setTile u (f (s.tile u))

def uDie (u : Nat) : Nat := u / 512
def uSite (u : Nat) : Nat := u % 512

/-- The local address of a scratchpad (R160). -/
def spadBase (u : Nat) : Nat := 0xF480000000 + (288 * uDie u + uSite u) * 0x100000

/-- The bank from which a tile issues (R95). -/
def State.curBank (s : State) (u : Nat) : Bool := s.on (Reg.tileBank (uDie u) (uSite u))
def State.curImg (s : State) (u : Nat) : Option BankImg :=
  if s.curBank u then (s.tile u).bank1 else (s.tile u).bank0

/-- n scratchpad bytes from an offset, wrapping at 1 MiB (R103), as a number. -/
def State.spadRd (s : State) (u a n : Nat) : Nat :=
  natOfBytes ((List.range n).map fun i => s.rdByte (spadBase u + (a + i) % 2 ^ 20))

/-- Writes scratchpad bytes from an offset, wrapping at 1 MiB (R103). -/
def State.spadWrBytes (s : State) (u a : Nat) : List Byte → State
  | [] => s
  | b :: r => (s.wrByte (spadBase u + a % 2 ^ 20) b).spadWrBytes u (a + 1) r

/-- Whether the declared layout allows an access to n bytes from an offset (R105). -/
def segAllows (img : Option BankImg) (acc : Segment → Bool) (a n : Nat) : Bool :=
  let segs := match img with | some i => i.segs | none => []
  (List.range ((a % 64 + n + 63) / 64)).all fun i =>
    let unit := (a / 64 + i) % 16384
    segs.any fun g => acc g && decide (g.offset.toNat ≤ unit ∧ unit < g.offset.toNat + g.length.toNat)

end Sys2Proof.Machine
end

