-- ==== Sys2Proof/Machine/Keccak.lean ====
section
/-!
DEFINITION. SHAKE256 (FIPS 202), which the spec names for digests (R84, R124, R252, R445, R453) and for the seeds of R448.
The state is one number of 1,600 bits: lane (x, y) is bits [64(5y + x) + 63 : 64(5y + x)], and plane y its 320 bits of one y.
-/
namespace Sys2Proof.Machine

/-- Plane y of the permutation's state. -/
def keccakPlane (a : BitVec 1600) (y : Nat) : BitVec 320 := a.extractLsb' (320 * y) 320

/-- Five planes as one state. -/
def keccakJoin (f : Nat → BitVec 320) : BitVec 1600 :=
  (List.range 5).foldr (fun y a => (a <<< 320) ||| (f y).setWidth 1600) 0

/-- Bit 0 of every lane of a plane. -/
def laneZeros : BitVec 320 := (List.range 5).foldr (fun _ m => (m <<< 64) ||| 1) 0

/-- Every lane of a plane turned left by one bit. -/
def turnLanes (c : BitVec 320) : BitVec 320 := ((c <<< 1) &&& ~~~laneZeros) ||| ((c >>> 63) &&& laneZeros)

/-- Step θ: each column takes the parities of its western and of its turned eastern neighbour. -/
def keccakTheta (a : BitVec 1600) : BitVec 1600 :=
  let c := (List.range 5).foldl (fun c y => c ^^^ keccakPlane a y) 0
  let d := c.rotateLeft 64 ^^^ turnLanes (c.rotateRight 64)
  keccakJoin fun y => keccakPlane a y ^^^ d

/-- Steps ρ and π together, as one walk over the lanes: step t takes the lane at (x, y) to (y, 2x + 3y), where the walk goes on,
and turns it left by (t + 1)(t + 2) / 2. Lane (0, 0) stays. -/
def keccakWalk (a : BitVec 1600) : Nat → Nat → Nat → BitVec 1600
  | 0, _, _ => a &&& 0xFFFFFFFFFFFFFFFF#1600
  | n + 1, x, y =>
    let y' := (2 * x + 3 * y) % 5
    let moved := (a.extractLsb' (64 * (5 * y + x)) 64).rotateLeft ((24 - n) * (25 - n) / 2)
    keccakWalk a n y y' ||| (moved.setWidth 1600 <<< (64 * (5 * y' + y)))

/-- Step χ, on each plane: a lane changes where the next is 0 and the one after it is 1. -/
def keccakChi (a : BitVec 1600) : BitVec 1600 :=
  keccakJoin fun y =>
    let p := keccakPlane a y
    p ^^^ (~~~p.rotateRight 64 &&& p.rotateRight 128)

/-- The generator of the round constants: a register of eight bits over x^8 + x^6 + x^5 + x^4 + 1. -/
def iotaNext (r : Byte) : Byte := (r <<< 1) ^^^ (if r.msb then 0x71#8 else 0#8)

/-- The constant of step ι from the register, and the register of the next round: bit 2^j − 1 is the register's bit 0 after j
steps. -/
def iotaConst (r : Byte) : BitVec 1600 × Byte :=
  (List.range 7).foldl (fun (e : BitVec 1600 × Byte) j =>
    (if e.2.getLsbD 0 then e.1 ||| (1#1600 <<< (2 ^ j - 1)) else e.1, iotaNext e.2)) (0, r)

/-- The rounds of the permutation. -/
def keccakRounds : Nat → Byte → BitVec 1600 → BitVec 1600
  | 0, _, a => a
  | n + 1, r, a => keccakRounds n (iotaConst r).2 (keccakChi (keccakWalk (keccakTheta a) 24 1 0) ^^^ (iotaConst r).1)

/-- KECCAK-f[1600]. -/
def keccakF (a : BitVec 1600) : BitVec 1600 := keccakRounds 24 1 a

/-- The bytes of a block in one block of SHAKE256, and the end of the message: the suffix 1111, the first bit of the padding and
the last of the block. -/
def shakeRate : Nat := 136
def shakeEnd (n : Nat) : BitVec 1600 := (0x1F#1600 <<< (8 * n)) ^^^ (1#1600 <<< (8 * shakeRate - 1))

/-- Takes n whole blocks and what is left of the message. -/
def shakeAbsorb : Nat → BitVec 1600 → List Byte → BitVec 1600
  | 0, a, bs => keccakF (a ^^^ BitVec.ofNat 1600 (natOfBytes bs) ^^^ shakeEnd bs.length)
  | n + 1, a, bs => shakeAbsorb n (keccakF (a ^^^ BitVec.ofNat 1600 (natOfBytes (bs.take shakeRate)))) (bs.drop shakeRate)

/-- A digest of 256 bits as a number, byte 0 lowest (R9). -/
def digestOf (bs : List Byte) : BitVec 256 := (shakeAbsorb (bs.length / shakeRate) 0 bs).setWidth 256

/-- SHAKE256 with 256 bits of output. -/
def shake256 (bs : List Byte) : List Byte := bytesOfNat 32 (digestOf bs).toNat

end Sys2Proof.Machine
end

