-- ==== Sys2Proof/Machine/Flags.lean ====
section
/-!
DEFINITION. The sticky arithmetic flags and the tile status (R101, R102, R140), and the record of a failing completion (R95).
-/
namespace Sys2Proof.Machine

/-- Sets bits of AFLAGS; nothing but a WRSR or a course start clears them (R140). -/
def Tile.raiseFlags (t : Tile) (f : Nat) : Tile := { t with aflags := t.aflags ||| BitVec.ofNat 64 f }
def State.flag (s : State) (u f : Nat) : State := s.modTile u fun t => t.raiseFlags f

/-- Sets bits of TSTAT (R102). -/
def Tile.status (t : Tile) (bits : Nat) : Tile := { t with tstat := t.tstat ||| BitVec.ofNat 64 bits }

def tsILL : Nat := 1
def tsSYNC : Nat := 2
def tsSPX : Nat := 4
def tsFETCH : Nat := 8

/-- Records an illegal event in a tile: ILL, and for the first of the lap its slot and bundle (R101, R108). -/
def Tile.illegal (t : Tile) (slot bundle : Nat) : Tile :=
  let t := t.status tsILL
  if t.illSeen then t
  else { t with illSeen := true,
                tstat := (t.tstat &&& ~~~0x0FFF0030#64) ||| BitVec.ofNat 64 (slot * 16 + bundle * 65536) }

/-- An illegal event: the tile's record, and the die's event TILE_ILLEGAL of this frame (R101). -/
def State.illegal (s : State) (u slot bundle cause : Nat) : State :=
  let s := s.modTile u fun t => t.illegal slot bundle
  s.accum 0x500A (s.dieUnit (uDie u)) [s.clk.frame, u, bundle, slot, cause]
    fun same d => match d with
      | [f, v, b, x, c] => if same && decide (u < v) then [f, u, bundle, slot, cause] else [f, v, b, x, c]
      | d => d

/-- Records a completion that is not OK in TILE_FAULT (R66, R95): source 0 mover, 1 sync port, 2 loader, 3 tile fault. The
course of a member keeps when its first failing status came (row 7 of R93). -/
def State.tileFault (s : State) (u status source addr : Nat) : State :=
  let d := uDie u
  let x := uSite u
  let s' := if s.getF (Reg.faultCount d x) = 0 then
      let g := match (s.tile u).member with | some m => m.group | none => 1024
      let courses := s.courses.map fun (c : Course) =>
        if c.claimed ∧ c.group = g then { c with faults := c.faults ++ [(s.clk.now, u, status)] } else c
      let s := { s with courses := courses }
      (((s.setF (Reg.faultStatus d x) status).setF (Reg.faultSource d x) source).setF (Reg.faultAddrLo d x)
        (addr % 2 ^ 32)).setF (Reg.faultAddrHi d x) (addr / 2 ^ 32)
    else s
  s'.satF (Reg.faultCount d x) 1

/-- Sets SPX where the declared layout does not allow an access (R105); the access is still performed. -/
def State.checkSeg (s : State) (u : Nat) (acc : Segment → Bool) (a n : Nat) : State :=
  if segAllows (s.curImg u) acc a n then s else s.modTile u fun t => t.status tsSPX

end Sys2Proof.Machine
end

