-- ==== Sys2Proof/Machine/Loader.lean ====
section
/-!
DEFINITION. Addresses and requests (R260, R261, R273, R276, R277, R281), and the loader of a tile with its requests, the layout
of course-list entries and of lap images (R65, R69, R79, R82, R124).
-/
namespace Sys2Proof.Machine

/-! ## Addresses (R260, R261) -/

def gaLa (ga : W64) : Nat := ga.toNat % 2 ^ 48
def gaNode (ga : W64) : Nat := ga.toNat / 2 ^ 48
/-- Whether a node ID names this node (R260). -/
def State.isHere (s : State) (node : Nat) : Bool := node == 0xFFFF || node == s.getF Reg.wtyNode
/-- Whether a local address lies in a reserved range (R261). -/
def laReserved (la : Nat) : Bool :=
  (decide (0xF510000000 ≤ la) && decide (la < 0x10000000000)) || decide (0x90000000000 ≤ la)
/-- Whether the region table governs a local address (R261). -/
def laGoverned (la : Nat) : Bool := decide (la < 0xF510000000)
def granuleOf (la : Nat) : Nat := la / 2 ^ 19

/-! ## Requests (R273, R276, R277, R281) -/

/-- Flits of a request that carries n lines (R273). -/
def flitsFor (n : Nat) : Nat := if n ≤ 3 then 1 else 1 + (64 * n - 192 + 231) / 232
/-- The reply window (R281). -/
def State.window (s : State) (ga : W64) : Nat := if s.isHere (gaNode ga) then 8000 else 64000
/-- The address by which the window of a request is judged: a contribution names no address, and its target is a reduce hub of
the package (R273, R281). -/
def aimOf (opc : Nat) (ga : W64) : W64 := if opc = 0x10 ∧ ga = 0 then 0xFFFF000000000000#64 else ga
/-- The DEADLINE of a request issued now (R281). -/
def State.deadlineFor (s : State) (ga : W64) : Nat := s.clk.now + 4 * s.window ga + 16000
/-- The incarnation a unit's requests carry (R194). -/
def State.incOf (s : State) (unit : Nat) : Nat :=
  if unit < 0x1000 then s.getF (Reg.dieInc (uDie unit))
  else if unit < 0x1010 then s.getF (Reg.dieInc ((unit - 0x1000) / 2))
  else if unit < 0x101C then s.getF (Reg.dieInc (unit - 0x1000))
  else if unit < 0x1020 then s.getF (Reg.dieInc (28 + (unit - 0x101C) / 2))
  else if unit < 0x110C then s.getF (Reg.dieInc (16 + (unit - 0x1100)))
  else s.getF Reg.controlInc

/-- A request of a unit, with no data (R273). -/
def State.mkReq (s : State) (unit seq opc : Nat) (key : W32) (ga : W64) (lines : Nat) : Req :=
  { srcNode := BitVec.ofNat 16 (s.getF Reg.wtyNode), srcUnit := BitVec.ofNat 16 unit, inc := BitVec.ofNat 8 (s.incOf unit),
    seq := BitVec.ofNat 24 seq, opc := BitVec.ofNat 16 opc, retry := false, remote := false, nflits := 1, key := key,
    ga := ga, replyPort := Fin.ofNat 32 (s.hubOf unit), lines := lines, rack := none, operand := 0, compare := 0,
    deadline := s.deadlineFor (aimOf opc ga), zeros := 0, data := [] }

/-- A request leaves its source. -/
def State.send (s : State) (r : Req) : State := { s with net := { s.net with reqs := s.net.reqs ++ [r] } }

/-! ## Course-list entries and lap images (R79, R124) -/

/-- n bytes of a list from an offset, as a number; bytes beyond its end read 0. -/
def bytesAt (bs : List Byte) (off n : Nat) : Nat := natOfBytes (((bs.drop off).take n))

/-- A course-list entry from its 32 bytes (R79); `zeros` is the number formed by its bits marked zero. -/
def entryOfBytes (bs : List Byte) : CourseEntry :=
  { imageGa := BitVec.ofNat 64 (bytesAt bs 0 8), arg := BitVec.ofNat 64 (bytesAt bs 8 8), rpt := BitVec.ofNat 16 (bytesAt bs 16 2),
    last := decide (bytesAt bs 18 1 % 2 = 1), keySlot := Fin.ofNat 8 (bytesAt bs 19 1),
    zeros := bytesAt bs 18 1 / 2 + bytesAt bs 19 1 / 8 * 2 ^ 7 + bytesAt bs 20 12 * 2 ^ 12 }

/-- Segment i of an image's header (R124). -/
def segmentOfBytes (bs : List Byte) (i : Nat) : Segment :=
  let o := 32 + 8 * i
  let acc := bytesAt bs (o + 4) 1
  { offset := BitVec.ofNat 14 (bytesAt bs o 2), length := BitVec.ofNat 15 (bytesAt bs (o + 2) 2),
    r := acc.testBit 0, w := acc.testBit 1, mv := acc.testBit 2 }

/-- A lap image from its bytes: the header of 256 B, then the bundles (R124). -/
def imageOfBytes (bs : List Byte) : LapImage :=
  let n := bytesAt bs 12 2
  { magic := BitVec.ofNat 32 (bytesAt bs 0 4), version := BitVec.ofNat 16 (bytesAt bs 4 2), heat := BitVec.ofNat 8 (bytesAt bs 6 1),
    bound := BitVec.ofNat 32 (bytesAt bs 8 4), bundles := BitVec.ofNat 16 n, entry := BitVec.ofNat 16 (bytesAt bs 14 2),
    tag := BitVec.ofNat 64 (bytesAt bs 16 8), segs := (List.range 8).map (segmentOfBytes bs),
    digest := BitVec.ofNat 256 (bytesAt bs 96 32),
    body := (List.range (min n ((bs.length - 256) / 16))).map fun i => BitVec.ofNat 128 (bytesAt bs (256 + 16 * i) 16) }

/-! ## The loader's requests (R65, R124, R276) -/

/-- The requests of one fetch, in issue order. -/
def Tile.loaderOf (t : Tile) (what : LFetch) : List LReq := t.loader.filter fun r => r.what == what

/-- The requests of the loader that wait for their replies: at most 16 (R65, R276). -/
def Tile.loaderBusy (t : Tile) : Nat := (t.loader.filter fun r => r.reply.isNone).length

/-- The bytes that the replies of a fetch have brought. -/
def Tile.loaderBytes (t : Tile) (what : LFetch) : List Byte :=
  (t.loaderOf what).flatMap fun r => match r.reply with
    | some (_, ls) => ls.flatMap fun l => match l with | some x => bytesOfNat 64 x.toNat | none => List.replicate 64 0
    | none => []

/-- Lines of a fetch as far as the loader knows: one for an entry; the header's four, then the body that it announces, of which a
bank takes at most 4,096 bundles (R65, R124). -/
def Tile.loaderNeed (t : Tile) (what : LFetch) : Nat :=
  if what = .entry then 1
  else match t.loaderOf what with
    | { reply := some (0, _), .. } :: _ => 4 + (min 4096 (bytesAt (t.loaderBytes what) 12 2) * 16 + 63) / 64
    | _ => 4

/-- Where a fetch begins, and its key (R79): the entry of the list under the list's key slot, or the image under the slot that
its entry names. -/
def State.loaderAim (s : State) (u : Nat) (what : LFetch) : Option (Nat × W32) :=
  match (s.tile u).member with
  | none => none
  | some m =>
    let key := fun slot => s.getR (Reg.grpKey (uDie u) m.group slot)
    let image := fun (e : CourseEntry) => (e.imageGa.toNat, key e.keySlot.val)
    match what with
    | .entry => some ((m.listGa.toNat + 32 * m.nextEntry) % 2 ^ 64 / 64 * 64, key m.listKey)
    | .image => m.loaded.map image
    | .refetch => m.current.map image
    | .idle => none

/-- The next request of a fetch leaves while one of the 16 slots is free and lines are still to be asked for: up to 4 KiB, within
one 4 KiB block (R118, R124). A request for a reserved range completes RANGE_FAULT and never leaves (R261). -/
def State.loaderStep (s : State) (u : Nat) (what : LFetch) : State :=
  let t := s.tile u
  let mine := t.loaderOf what
  let asked := (mine.map LReq.lines).sum
  let need := t.loaderNeed what
  let failed := mine.any fun r => match r.reply with | some (st, _) => st != 0 | none => false
  match s.loaderAim u what with
  | none => s
  | some (base, key) =>
    if failed ∨ need ≤ asked ∨ 16 ≤ t.loaderBusy then s
    else
      let ga := BitVec.ofNat 64 (base + 64 * asked)
      let n := min (need - asked) (64 - ga.toNat % 4096 / 64)
      let out := s.isHere (gaNode ga) && laReserved (gaLa ga)
      let r : LReq :=
        { seq := t.seqNext, what := what, key := key, ga := ga, lines := n, retries := 0, deadline := s.deadlineFor ga,
          reply := if out then some (0x12, []) else none }
      let s := s.setTile u { t with seqNext := (t.seqNext + 1) % 2 ^ 24, loader := t.loader ++ [r] }
      if out then s else s.send (s.mkReq u r.seq 1 key ga n)

/-- The requests of a fetch that can leave do. -/
def State.loaderGo (s : State) (u : Nat) (what : LFetch) : State :=
  (List.range 16).foldl (fun s _ => s.loaderStep u what) s

/-- A fetch begins. -/
def State.startFetch (s : State) (u : Nat) (what : LFetch) : State :=
  (s.modTile u fun t => { t with loader := t.loader.filter fun r => r.what != what }).loaderGo u what

/-- The end of a fetch: the status of the first request that failed, or all the bytes. -/
def Tile.loaded (t : Tile) (what : LFetch) : Option (Nat × List Byte) :=
  let mine := t.loaderOf what
  if mine.isEmpty ∨ mine.any (fun r => r.reply.isNone) then none
  else match mine.findSome? fun r => match r.reply with | some (st, _) => if st ≠ 0 then some st else none | none => none with
    | some st => some (st, [])
    | none => if (mine.map LReq.lines).sum < t.loaderNeed what then none else some (0, t.loaderBytes what)

/-- A fetch is over: its requests are forgotten. -/
def Tile.endFetch (t : Tile) (what : LFetch) : Tile := { t with loader := t.loader.filter fun r => r.what != what }

/-- The reply to a request of the loader: the requests that it allows leave next. -/
def State.loaderReply (s : State) (u seq status : Nat) (data : List (Option Line)) : State :=
  match (s.tile u).loader.find? (fun r => r.seq == seq && r.reply.isNone) with
  | none => s
  | some r =>
    (s.modTile u fun t =>
      { t with loader := t.loader.map fun x => if x.seq = seq then { x with reply := some (status, data) } else x }).loaderGo u r.what

/-- A loader's request, as it is sent and sent again (R281). -/
def State.loaderReq (s : State) (u : Nat) (r : LReq) : Req :=
  { s.mkReq u r.seq 1 r.key r.ga r.lines with retry := decide (0 < r.retries), deadline := r.deadline }

/-- An uncorrectable error in the bundle to issue: the tile stops issue and the loader fetches the lap's image again (R69). -/
def State.refetchImage (s : State) (u : Nat) : State :=
  (s.modTile u fun t => { t with wait := some .refetch, waitSince := s.clk.now, waitTries := 0 }).startFetch u .refetch

end Sys2Proof.Machine
end

