-- ==== Sys2Proof/Machine/Flits.lean ====
section
/-!
DEFINITION. Flits and what they carry: header and check (R192), codewords and their lanes (R190, R191), and the payloads of
requests and replies (R273, R274).
-/
namespace Sys2Proof.Machine

/-! ## The header and the check (R192) -/

/-- n bits of a flit from bit lo. -/
def fbits (f : Flit) (lo n : Nat) : Nat := f.toNat / 2 ^ lo % 2 ^ n
/-- A flit with n bits from bit lo replaced. -/
def fput (f : Flit) (lo n v : Nat) : Flit :=
  BitVec.ofNat 2048 (f.toNat - fbits f lo n * 2 ^ lo + v % 2 ^ n * 2 ^ lo)

def flitDest (f : Flit) : Nat := fbits f 0 5
def flitKind (f : Flit) : Nat := fbits f 5 3
def flitSrc (f : Flit) : Nat := fbits f 8 5
def flitTc (f : Flit) : Nat := fbits f 13 2
def flitUnit (f : Flit) : Nat := fbits f 16 16
def flitReqSeq (f : Flit) : Nat := fbits f 32 24
def flitInc (f : Flit) : Nat := fbits f 56 8
def flitLinkSeq (f : Flit) : Nat := fbits f 64 12
def flitAckSeq (f : Flit) : Nat := fbits f 76 12
def flitCredit (f : Flit) : Nat := fbits f 88 6
def flitCreditTc (f : Flit) : Nat := fbits f 94 2
def flitCrc (f : Flit) : Nat := fbits f 2016 32

/-- The CRC-32 of IEEE 802.3 (R192): polynomial 0x04C1_1DB7, reflected, initial value and final exclusive-or of all ones. -/
def crc32 (bs : List Byte) : W32 := crcReflected 0xEDB88320#32 bs

/-- The CRC of bytes 0 to 251 of a flit (R192). -/
def crcOf (f : Flit) : Nat := (crc32 (bytesOfNat 252 f.toNat)).toNat

/-! ## Codewords (R190, R191) -/

/-- The lane position that carries a symbol: symbols are dealt in turn, symbol 0 on the first lane. -/
def cwLane (w j : Nat) : Nat := j % w

/-- The two bits of LANE_PAR of a lane position: even parity over the even-numbered and over the odd-numbered symbols that the lane
carries, symbols 0 and 1 excluded. DEDUCED (log entry 133): the data symbols count, for the check symbols depend on the field. -/
def lanePar (w : Nat) (symbols : List (BitVec 10)) (i : Nat) : Nat :=
  let ones := fun odd => (((List.range 514).filter fun j => decide (2 ≤ j ∧ j % 2 = odd) && cwLane w j == i).map fun j =>
    popcount 10 (symbols.getD j 0).toNat).sum
  ones 0 % 2 + ones 1 % 2 * 2

/-- The data symbols of a stream of 640 bytes, after the two of the control field. -/
def cwData (stream : List Byte) : List (BitVec 10) :=
  let n := natOfBytes (stream.take 640)
  (List.range 512).map fun j => BitVec.ofNat 10 (n / 2 ^ (10 * j))

/-- The control field (R190): PHASE, CW_SEQ and LANE_PAR. -/
def cwControl (w phase seq : Nat) (data : List (BitVec 10)) : Nat :=
  let symbols := 0 :: 0 :: data
  phase % 2 + seq % 8 * 2 + ((List.range (min w 8)).map fun i => lanePar w symbols i * 2 ^ (4 + 2 * i)).sum

/-- A codeword (R190): two symbols of control field, 512 of the stream, and the 30 check symbols of RS(544,514). -/
def codeword (w phase seq : Nat) (stream : List Byte) : List (BitVec 10) :=
  let data := cwData stream
  let c := cwControl w phase seq data
  let message := BitVec.ofNat 10 c :: BitVec.ofNat 10 (c / 2 ^ 10) :: data
  message ++ (List.range 30).map fun i => Config.rsCheck message i

/-- The symbols of a codeword that a lane position carries, in order. -/
def dealt (w : Nat) (cw : List (BitVec 10)) (i : Nat) : List (BitVec 10) :=
  ((List.range cw.length).filter fun j => cwLane w j == i).map fun j => cw.getD j 0

/-- The LANE_PAR bits of a lane position in a codeword as received. -/
def cwPar (symbols : List (BitVec 10)) (i : Nat) : Nat :=
  ((symbols.getD 0 0).toNat + (symbols.getD 1 0).toNat * 2 ^ 10) / 2 ^ (4 + 2 * i) % 4

/-- Corrected symbols of a codeword that a lane position carried (R191). -/
def correctedOn (c : CwRead) (w i : Nat) : Nat := (c.corrected.filter fun j => cwLane w j.val == i).length

/-- The lane positions to which an uncorrectable codeword is attributed (R191): those whose LANE_PAR fails, or all. -/
def cwBlamed (c : CwRead) (w : Nat) : List Nat :=
  let bad := (List.range w).filter fun i => lanePar w c.symbols i != cwPar c.symbols i
  if bad.isEmpty then List.range w else bad

/-- The lane positions that a codeword gives a lane error (R196). -/
def cwLaneErrors (c : CwRead) (w : Nat) : List Nat :=
  if c.failed then cwBlamed c w else (List.range w).filter fun i => decide (8 < correctedOn c w i)

/-! ## Requests (R273) -/

/-- The payload of a first flit, as a number from byte 0 of the payload. -/
def reqPayload (r : Req) : Nat :=
  let words : List (Nat × Nat) :=
    [(0, r.opc.toNat), (2, r.retry.toNat + r.zeros % 32 * 2 + r.remote.toNat * 64), (3, r.nflits % 256), (4, r.key.toNat),
     (8, r.ga.toNat), (16, r.srcNode.toNat), (18, r.replyPort.val + r.zeros / 32 % 8 * 32),
     (19, r.lines % 128 + r.zeros / 256 % 2 * 128),
     (20, (match r.rack with | some q => q.toNat + 2 ^ 31 | none => 0) + r.zeros / 512 % 128 * 2 ^ 24),
     (24, r.operand.toNat), (32, r.compare.toNat), (40, r.deadline % 2 ^ 64)]
  let head := (words.map fun w => w.2 * 2 ^ (8 * w.1)).sum
  head + ((r.data.take 3).zipIdx.map fun e => e.1.toNat * 2 ^ (8 * (48 + 64 * e.2))).sum

/-- A flit with a tag and a payload. -/
def taggedFlit (port tc unit seq inc payload : Nat) : Flit :=
  let f : Flit := 0
  let f := fput (fput (fput (fput f 8 5 port) 13 2 tc) 16 16 unit) 32 24 seq
  fput (fput f 56 8 inc) 96 1920 payload

/-- A continuation flit's payload: the operation, CONT, the index, and 232 bytes of the data stream. -/
def contPayload (opc index : Nat) (bytes : List Byte) : Nat :=
  opc % 2 ^ 16 + 0x80 * 2 ^ 16 + index % 256 * 2 ^ 24 + natOfBytes (bytes.take 232) * 2 ^ 64

/-- A flit that carries a request's first 192 B. -/
def reqFlit (port : Nat) (r : Req) : Flit := taggedFlit port 0 r.srcUnit.toNat r.seq.toNat r.inc.toNat (reqPayload r)

/-- The data stream of lines, in address order. -/
def streamOf (lines : List Line) : List Byte := lines.flatMap fun l => bytesOfNat 64 l.toNat

/-- The flits of a request: the first, then its continuation flits. -/
def reqFlits (port tc : Nat) (r : Req) : List Flit :=
  let rest := (streamOf r.data).drop 192
  fput (reqFlit port r) 13 2 tc :: (List.range ((rest.length + 231) / 232)).map fun i =>
    taggedFlit port tc r.srcUnit.toNat r.seq.toNat r.inc.toNat (contPayload r.opc.toNat (i + 1) (rest.drop (232 * i)))

/-- n bits of a flit's payload from bit lo. -/
def pbits (f : Flit) (lo n : Nat) : Nat := fbits f (96 + lo) n
/-- n bytes of a flit's payload from byte lo. -/
def pbytes (f : Flit) (lo n : Nat) : List Byte := bytesOfNat n (pbits f (8 * lo) (8 * n))

def flitOpc (f : Flit) : Nat := pbits f 0 16
/-- CONT: bit 7 of byte 2, also in a reply, whose first flit has its status there; no status has that bit (R274, R287). -/
def flitCont (f : Flit) : Bool := pbits f 23 1 == 1
def flitIndex (f : Flit) : Nat := pbits f 24 8

/-- The lines of a data stream. -/
def linesOf (n : Nat) (bs : List Byte) : List Line :=
  (List.range n).map fun i => BitVec.ofNat 512 (bytesAt bs (64 * i) 64)

/-- Whether an operation carries its lines to the target. -/
def carriesLines (opc : Nat) : Bool := opc == 2 || opc == 0x10 || opc == 0x20

/-- The data stream of a message: `n` bytes of the first flit from byte `lo`, then the continuation flits in order. -/
def assembled (first : Flit) (rest : List Flit) (lo n : Nat) : List Byte :=
  pbytes first lo n ++ (List.range rest.length).flatMap fun i => match rest.find? fun f => flitIndex f == i + 1 with
    | some f => pbytes f 8 232
    | none => []

/-- A request from its flits, as the target assembles it. -/
def reqOfFlits (node : Nat) (first : Flit) (rest : List Flit) : Req :=
  let b := pbits first
  let lines := b 152 7
  let rack := b 160 32
  { srcNode := BitVec.ofNat 16 (if node = 0xFFFF then b 128 16 else node), srcUnit := BitVec.ofNat 16 (flitUnit first),
    inc := BitVec.ofNat 8 (flitInc first), seq := BitVec.ofNat 24 (flitReqSeq first), opc := BitVec.ofNat 16 (flitOpc first),
    retry := b 16 1 == 1, remote := b 22 1 == 1, nflits := b 24 8, key := BitVec.ofNat 32 (b 32 32),
    ga := BitVec.ofNat 64 (b 64 64), replyPort := Fin.ofNat 32 (b 144 5), lines := lines,
    rack := if rack / 2 ^ 31 = 1 then some (BitVec.ofNat 24 rack) else none, operand := BitVec.ofNat 64 (b 192 64),
    compare := BitVec.ofNat 64 (b 256 64), deadline := b 320 64,
    zeros := b 17 5 + b 149 3 * 32 + b 159 1 * 256 + rack / 2 ^ 24 % 128 * 512,
    data := if carriesLines (flitOpc first) then linesOf lines (assembled first rest 48 192) else [] }

/-! ## Replies (R274) -/

/-- Flits of a reply that brings n lines. -/
def replyFlitsFor (n : Nat) : Nat := if n ≤ 3 then 1 else 1 + (64 * n - 216 + 231) / 232

/-- The payload of a reply's first flit. The lines that are withheld (R287) travel as zeros (log entry 134). -/
def replyPayload (r : Reply) : Nat :=
  let stream := streamOf (r.data.map fun l => l.getD 0)
  r.opc.toNat + r.status.toNat * 2 ^ 16 + (r.saturated.toNat + r.ledgerHit.toNat * 2) * 2 ^ 24 +
    replyFlitsFor r.data.length * 2 ^ 32 + r.detail.toNat * 2 ^ 64 + r.value.toNat * 2 ^ 128 +
    natOfBytes (stream.take 216) * 2 ^ 192

/-- The flits of a reply, on class TC1: the first, then its continuation flits. -/
def replyFlits (port : Nat) (r : Reply) : List Flit :=
  let rest := (streamOf (r.data.map fun l => l.getD 0)).drop 216
  let flit := taggedFlit port 1 r.srcUnit.toNat r.seq.toNat r.inc.toNat
  flit (replyPayload r) :: (List.range ((rest.length + 231) / 232)).map fun i =>
    flit (contPayload r.opc.toNat (i + 1) (rest.drop (232 * i)))

/-- Lines that a reply of so many flits brings. -/
def replyLines (nflits : Nat) : Nat := if nflits ≤ 1 then 3 else (216 + 232 * (nflits - 1)) / 64

/-- A reply from its flits: a LOAD that completes OK brings the lines it asked for, which the source knows. -/
def replyOfFlits (node lines : Nat) (first : Flit) (rest : List Flit) : Reply :=
  let b := pbits first
  { srcNode := BitVec.ofNat 16 node, srcUnit := BitVec.ofNat 16 (flitUnit first), inc := BitVec.ofNat 8 (flitInc first),
    seq := BitVec.ofNat 24 (flitReqSeq first), opc := BitVec.ofNat 16 (flitOpc first), status := BitVec.ofNat 8 (b 16 8),
    saturated := b 24 1 == 1, ledgerHit := b 25 1 == 1, detail := BitVec.ofNat 32 (b 64 32), value := BitVec.ofNat 64 (b 128 64),
    data := if flitOpc first = 1 then (linesOf lines (assembled first rest 24 216)).map some else [] }

/-! ## Assembly (R273) -/

/-- Whether two flits belong to one message: SRC_UNIT, REQ_SEQ, INC and direction. -/
def sameMessage (f g : Flit) : Bool :=
  flitUnit f == flitUnit g && flitReqSeq f == flitReqSeq g && flitInc f == flitInc g && (flitTc f == 1) == (flitTc g == 1)

/-- Flits of a message by its first flit. -/
def flitCount (f : Flit) : Nat :=
  let n := if flitTc f = 1 then pbits f 32 8 else pbits f 24 8
  if 1 ≤ n ∧ n ≤ 18 then n else 1

/-- The message that a flit completes among those that a hub has accepted: its first flit and its continuation flits. -/
def completeMessage (accepted : List Flit) (f : Flit) : Option (Flit × List Flit) :=
  let mine := accepted.filter fun g => sameMessage f g && (flitOpc f != 0x20 || f == g)
  match mine.find? fun g => !flitCont g with
  | none => none
  | some first =>
    let rest := mine.filter flitCont
    if (List.range (flitCount first - 1)).all fun i => rest.any fun g => flitIndex g == i + 1 then some (first, rest) else none

end Sys2Proof.Machine
end

