-- ==== Sys2Proof/Machine/Float.lean ====
section
/-!
DEFINITION. The number formats and their arithmetic (05): every value is exact until it is rounded once.
-/
namespace Sys2Proof.Machine

/-! ## Flags of AFLAGS (R102, R140), as bits -/
def fNV : Nat := 1
def fDZ : Nat := 2
def fOF : Nat := 4
def fUF : Nat := 8
def fNX : Nat := 16
def fSD : Nat := 32

/-- An exact value: (-1)^neg × mag × 2^exp, an infinity, or a NaN, signalling or quiet (R127). -/
inductive FVal where
  | nan (signalling : Bool)
  | inf (neg : Bool)
  | fin (neg : Bool) (mag : Nat) (exp : Int)
deriving DecidableEq, Repr

/-- What overflow and NaN look like in a format (R126, R133). -/
inductive FKind where
  | ieee | e4m3 | mx
deriving DecidableEq, Repr

/-- A floating format (R126). -/
structure Fmt where
  exp : Nat
  mant : Nat
  bias : Nat
  kind : FKind      -- how a result beyond the range is delivered (R133)
  codes : FKind     -- how the encodings with an all-ones exponent read (R126)
  narrow : Bool     -- subject to RND.FTZ (R139)
deriving DecidableEq, Repr

def fmt64 : Fmt := ⟨11, 52, 1023, .ieee, .ieee, false⟩
def fmt32 : Fmt := ⟨8, 23, 127, .ieee, .ieee, false⟩
def fmt16 : Fmt := ⟨5, 10, 15, .ieee, .ieee, true⟩
def fmtBf : Fmt := ⟨8, 7, 127, .ieee, .ieee, true⟩

/-- The floating format of a code (R126); none for the integer codes 11-15 (11 is MXINT8, R128). -/
def fmtOf : Nat → Option Fmt
  | 0 => some fmt64
  | 1 => some fmt32
  | 2 => some fmt16
  | 3 => some fmtBf
  | 4 => some ⟨4, 3, 7, .e4m3, .e4m3, true⟩
  | 5 => some ⟨5, 2, 15, .ieee, .ieee, true⟩
  | 6 => some ⟨4, 3, 7, .mx, .e4m3, true⟩
  | 7 => some ⟨5, 2, 15, .mx, .ieee, true⟩
  | 8 => some ⟨3, 2, 3, .mx, .mx, true⟩
  | 9 => some ⟨2, 3, 1, .mx, .mx, true⟩
  | 10 => some ⟨2, 1, 1, .mx, .mx, true⟩
  | _ => none

/-- Bits of an element of a format code (R126, R129). -/
def fmtBits : Nat → Nat
  | 0 => 64 | 1 => 32 | 2 => 16 | 3 => 16 | 4 => 8 | 5 => 8 | 6 => 8 | 7 => 8 | 8 => 6 | 9 => 6
  | 10 => 4 | 11 => 8 | 12 => 8 | 13 => 4 | 14 => 32 | 15 => 16 | _ => 8

/-- MX formats: codes 6-11 (R126, R128). -/
def isMx (c : Nat) : Bool := 6 ≤ c && c ≤ 11
/-- Integer formats: codes 12-15 (R126). -/
def isInt (c : Nat) : Bool := 12 ≤ c && c ≤ 15
/-- Elements of a format in a v register (R129). -/
def perReg (c : Nat) : Nat := if c = 8 ∨ c = 9 then 320 else 2048 / fmtBits c

def Fmt.width (f : Fmt) : Nat := 1 + f.exp + f.mant
def Fmt.expOnes (f : Fmt) : Nat := 2 ^ f.exp - 1
/-- The exponent of the last mantissa bit of a denormal. -/
def Fmt.qmin (f : Fmt) : Int := 1 - (f.bias : Int) - f.mant
def Fmt.signBit (f : Fmt) (neg : Bool) : Nat := if neg then 2 ^ (f.exp + f.mant) else 0

/-- The canonical NaN, sign clear (R127); an MX element without NaN has none and its block scale says it (R134). -/
def Fmt.canonNan (f : Fmt) : Nat :=
  match f.codes with
  | .ieee => f.expOnes * 2 ^ f.mant + 2 ^ (f.mant - 1)
  | .e4m3 => 0x7F
  | .mx => 0

/-- The encoding of the largest finite magnitude (R126). -/
def Fmt.maxCode (f : Fmt) : Nat :=
  match f.codes with
  | .ieee => f.expOnes * 2 ^ f.mant - 1
  | .e4m3 => 0x7E
  | .mx => 2 ^ (f.exp + f.mant) - 1

def Fmt.infCode (f : Fmt) : Nat := f.expOnes * 2 ^ f.mant

/-- The value of an encoding (R126, R127). -/
def Fmt.decode (f : Fmt) (bits : Nat) : FVal :=
  let neg := bits.testBit (f.exp + f.mant)
  let e := bits / 2 ^ f.mant % 2 ^ f.exp
  let m := bits % 2 ^ f.mant
  if f.codes = .ieee ∧ e = f.expOnes then
    (if m = 0 then .inf neg else .nan (!m.testBit (f.mant - 1)))
  else if f.codes = .e4m3 ∧ e = f.expOnes ∧ m = 2 ^ f.mant - 1 then .nan false
  else if e = 0 then .fin neg m f.qmin
  else .fin neg (2 ^ f.mant + m) (f.qmin + (e - 1 : Nat))

/-- Reads an operand element: with FTZ, a denormal of a narrow format reads as zero of its sign (R139). -/
def Fmt.read (f : Fmt) (ftz : Bool) (bits : Nat) : FVal :=
  match f.decode bits with
  | .fin neg m e => if ftz && f.narrow && decide (m < 2 ^ f.mant) then .fin neg 0 e else .fin neg m e
  | v => v

/-- NV for a signalling NaN among operands (R127). -/
def FVal.nv : FVal → Nat
  | .nan true => fNV
  | _ => 0

def FVal.isNan : FVal → Bool
  | .nan _ => true
  | _ => false

/-- floor(log2(mag × 2^exp)), mag ≠ 0. -/
def ilog2 (m : Nat) (e : Int) : Int := (Nat.log2 m : Int) + e

/-- Whether the magnitude with `rem` of 2^k discarded rounds up (R136, R137), the kept part being `kept`. -/
def roundUp (mode : Nat) (neg : Bool) (kept rem k draw : Nat) : Bool :=
  if rem = 0 then false
  else match mode with
    | 0 => decide (2 ^ k < 2 * rem) || (decide (2 * rem = 2 ^ k) && kept % 2 == 1)
    | 2 => !neg
    | 3 => neg
    | 4 => decide (2 ^ 32 ≤ rem * 2 ^ 32 / 2 ^ k + draw)
    | _ => false

/-- Rounds mag × 2^exp to a multiple of 2^q: the multiple, and whether it is inexact (R136, R137). -/
def roundAt (mode : Nat) (neg : Bool) (m : Nat) (e q : Int) (draw : Nat) : Nat × Bool :=
  if q ≤ e then (m * 2 ^ (e - q).toNat, false)
  else
    let k := (q - e).toNat
    let kept := m / 2 ^ k
    let rem := m % 2 ^ k
    (kept + (if roundUp mode neg kept rem k draw then 1 else 0), decide (rem ≠ 0))

/-- How a value is to be rounded: RND.MODE or RM with 5-7 as 0 (R102), saturation in force (R133), FTZ (R139), draw (R137). -/
structure RndCtl where
  mode : Nat
  sat : Bool
  ftz : Bool
  draw : Nat
deriving DecidableEq, Repr

/-- What is delivered where the rounded magnitude exceeds the largest finite value (R133). -/
def Fmt.overflow (f : Fmt) (c : RndCtl) (neg : Bool) : Nat × Nat :=
  let s := f.signBit neg
  if f.kind = .mx ∨ c.sat = true then (s + f.maxCode, fOF ||| fNX ||| fSD)
  else if f.kind = .e4m3 then (f.canonNan, fOF ||| fNX)
  else if c.mode = 1 ∨ (c.mode = 2 ∧ neg = true) ∨ (c.mode = 3 ∧ neg = false) then (s + f.maxCode, fOF ||| fNX)
  else (s + f.infCode, fOF ||| fNX)

/-- Rounds a value once to a format and delivers it with its flags (R133, R139, R140). -/
def Fmt.round (f : Fmt) (c : RndCtl) : FVal → Nat × Nat
  | .nan sg => (f.canonNan, if sg then fNV else 0)
  | .inf neg =>
    match f.kind with
    | .ieee => (f.signBit neg + f.infCode, 0)
    | .e4m3 => if c.sat then (f.signBit neg + f.maxCode, fSD) else (f.canonNan, fNV)
    | .mx => (f.signBit neg + f.maxCode, fOF ||| fNX ||| fSD)
  | .fin neg m e =>
    if m = 0 then (f.signBit neg, 0)
    else
      let q := max (ilog2 m e - f.mant) f.qmin
      let r := roundAt c.mode neg m e q c.draw
      let code := (q - f.qmin).toNat * 2 ^ f.mant + r.1
      if f.maxCode < code then f.overflow c neg
      else if r.1 < 2 ^ f.mant ∧ q = f.qmin then
        (if c.ftz && f.narrow then (f.signBit neg, fUF ||| fNX)
         else (f.signBit neg + code, if r.2 then fUF ||| fNX else 0))
      else (f.signBit neg + code, if r.2 then fNX else 0)

/-! ## Integers (R126, R133, R145) -/

/-- The two's complement value of the low w bits. -/
def sval (w bits : Nat) : Int :=
  let b := bits % 2 ^ w
  if 2 ^ (w - 1) ≤ b then (b : Int) - 2 ^ w else b

/-- The low w bits of an integer. -/
def sbits (w : Nat) (n : Int) : Nat := (n % (2 ^ w : Int)).toNat

def smin (w : Nat) : Int := -(2 ^ (w - 1) : Int)
def smax (w : Nat) : Int := 2 ^ (w - 1) - 1

def FVal.ofInt (n : Int) : FVal := .fin (decide (n < 0)) n.natAbs 0

/-- Floating to integer (R133). -/
def toInt (w : Nat) (c : RndCtl) : FVal → Nat × Nat
  | .nan _ => (0, fNV)
  | .inf neg => (sbits w (if neg then smin w else smax w), fNV ||| fSD)
  | .fin neg m e =>
    let r := roundAt c.mode neg m e 0 c.draw
    let n : Int := if neg then -(r.1 : Int) else r.1
    if n < smin w then (sbits w (smin w), fNV ||| fSD)
    else if smax w < n then (sbits w (smax w), fNV ||| fSD)
    else (sbits w n, if r.2 then fNX else 0)

/-- A wider integer narrowed (R133). -/
def narrowInt (w : Nat) (n : Int) : Nat × Nat :=
  if n < smin w then (sbits w (smin w), fSD)
  else if smax w < n then (sbits w (smax w), fSD) else (sbits w n, 0)

/-- Delivers an exact integer result of a vector operation (R145). -/
def deliverInt (w : Nat) (sat : Bool) (n : Int) : Nat × Nat :=
  if n < smin w ∨ smax w < n then
    (if sat then (sbits w (if n < smin w then smin w else smax w), fSD) else (sbits w n, fOF))
  else (sbits w n, 0)

/-! ## Exact arithmetic (R140-R144) -/

/-- A finite value as an integer multiple of 2^q, q no greater than its exponent. -/
def FVal.scaled (neg : Bool) (m : Nat) (e q : Int) : Int :=
  let x : Int := (m * 2 ^ (e - q).toNat : Nat)
  if neg then -x else x

/-- The exact sum, with its flags; the sign of an exact zero follows R144. -/
def FVal.add (mode : Nat) (a b : FVal) : FVal × Nat :=
  match a, b with
  | .nan _, _ => (.nan false, a.nv ||| b.nv)
  | _, .nan _ => (.nan false, a.nv ||| b.nv)
  | .inf x, .inf y => if x = y then (.inf x, 0) else (.nan false, fNV)
  | .inf x, _ => (.inf x, 0)
  | _, .inf y => (.inf y, 0)
  | .fin x m e, .fin y n g =>
    let q := min e g
    let t := FVal.scaled x m e q + FVal.scaled y n g q
    if t = 0 then (.fin (if x = y then x else decide (mode = 3)) 0 0, 0)
    else (.fin (decide (t < 0)) t.natAbs q, 0)

def FVal.negate : FVal → FVal
  | .nan s => .nan s
  | .inf n => .inf (!n)
  | .fin n m e => .fin (!n) m e

/-- The exact product, with its flags. -/
def FVal.mul (a b : FVal) : FVal × Nat :=
  match a, b with
  | .nan _, _ => (.nan false, a.nv ||| b.nv)
  | _, .nan _ => (.nan false, a.nv ||| b.nv)
  | .inf x, .inf y => (.inf (x != y), 0)
  | .inf x, .fin y m _ => if m = 0 then (.nan false, fNV) else (.inf (x != y), 0)
  | .fin x m _, .inf y => if m = 0 then (.nan false, fNV) else (.inf (x != y), 0)
  | .fin x m e, .fin y n g => (.fin (x != y) (m * n) (e + g), 0)

/-- ±(a × b) ± c, exact (R110, R144). -/
def FVal.fma (mode : Nat) (negProd negAdd : Bool) (a b c : FVal) : FVal × Nat :=
  let p := FVal.mul a b
  let r := FVal.add mode (if negProd then p.1.negate else p.1) (if negAdd then c.negate else c)
  (r.1, p.2 ||| c.nv ||| r.2)

/-- Whether a < b as numbers, -0 below +0 (R144); neither is a NaN. -/
def FVal.ltZ (a b : FVal) : Bool :=
  match a, b with
  | .inf x, .inf y => x && !y
  | .inf x, _ => x
  | _, .inf y => !y
  | .fin x m e, .fin y n g =>
    let q := min e g
    let s := FVal.scaled x m e q
    let t := FVal.scaled y n g q
    decide (s < t) || (decide (s = t) && decide (m = 0) && x && !y)
  | _, _ => false

/-- Whether a < b as numbers, zeros equal; neither is a NaN. -/
def FVal.lt (a b : FVal) : Bool :=
  match a, b with
  | .fin x m e, .fin y n g => let q := min e g; decide (FVal.scaled x m e q < FVal.scaled y n g q)
  | _, _ => FVal.ltZ a b

/-- Whether a = b as numbers; neither is a NaN. -/
def FVal.eqv (a b : FVal) : Bool := !a.isNan && !b.isNan && !FVal.lt a b && !FVal.lt b a

/-! ## MX blocks (R128, R134, R135) -/

def mxEmax : Nat → Int
  | 6 => 8 | 7 => 15 | 8 => 4 | 9 => 2 | 10 => 2 | _ => 0

/-- The value of an MX element under its scale byte (R128, R135); a scale of 0xFF reads as NaN. -/
def mxScaled (scale : Nat) (v : FVal) : FVal :=
  if scale = 255 then .nan false
  else match v with
    | .fin n m e => .fin n m (e + (scale : Int) - 127)
    | v => v

/-- The value of an element of any format code, before its scale (R126, R128, R139). -/
def elemRead (code : Nat) (ftz : Bool) (bits : Nat) : FVal :=
  match fmtOf code with
  | some f => f.read ftz bits
  | none =>
    if code = 11 then let n := sval 8 bits; .fin (decide (n < 0)) n.natAbs (-6)
    else FVal.ofInt (sval (fmtBits code) bits)

/-- One MX element from its scaled source (R133, R134 step 4). -/
def mxElem (code : Nat) (c : RndCtl) (v : FVal) : Nat × Nat :=
  match fmtOf code with
  | some f => f.round c v
  | none =>
    match v with
    | .fin neg m e =>
      let r := roundAt c.mode neg m (e + 6) 0 c.draw
      if 127 < r.1 then (sbits 8 (if neg then -127 else 127), fOF ||| fNX ||| fSD)
      else (sbits 8 (if neg then -(r.1 : Int) else r.1), if r.2 then fNX else 0)
    | _ => (0, fNV)

/-- The larger of two magnitudes, as (mag, exp). -/
def magMax (a : Nat × Int) (v : FVal) : Nat × Int :=
  match v with
  | .fin _ m e =>
    let q := min a.2 e
    if a.1 * 2 ^ (a.2 - q).toNat < m * 2 ^ (e - q).toNat then (m, e) else a
  | _ => a

/-- The scale byte of a block without NaN or infinity (R134 steps 2 and 3). -/
def mxScale (code : Nat) (vals : List FVal) : Nat :=
  let a := vals.foldl magMax (0, 0)
  if a.1 = 0 then 0
  else (max (-127) (min 127 (ilog2 a.1 a.2 - mxEmax code)) + 127).toNat

/-! ## The tile's generator (R138) -/

/-- One draw: the next state, whose upper half is the draw. -/
def seedNext (s : W64) : W64 :=
  let a := s ^^^ (s <<< 13)
  let b := a ^^^ (a >>> 7)
  b ^^^ (b <<< 17)

def seedDraw (s : W64) : Nat := (seedNext s).toNat / 2 ^ 32

/-- A result of a conversion: bits, flags and the generator after its draws. -/
structure Conv where
  bits : List Nat
  flags : Nat
  seed : W64
deriving DecidableEq, Repr

/-- Converts elements one by one, each taking its draw in mode 4 (R137). -/
def convEach (f : RndCtl → FVal → Nat × Nat) (mode : Nat) (sat ftz draws : Bool) : List FVal → W64 → Conv
  | [], seed => ⟨[], 0, seed⟩
  | v :: r, seed =>
    let take := draws && mode == 4
    let x := f ⟨mode, sat, ftz, if take then seedDraw seed else 0⟩ v
    let rest := convEach f mode sat ftz draws r (if take then seedNext seed else seed)
    ⟨x.1 :: rest.bits, x.2 ||| rest.flags, rest.seed⟩

/-- One block of up to 32 elements to an MX format: its scale byte, then its elements (R134). A block written with scale
0xFF sets NV because a NaN scale is produced (R140), whichever element caused it (log entry 12). In a block of zeros a negative zero
keeps its sign (log entry 142). -/
def convBlock (code mode : Nat) (ftz : Bool) (vals : List FVal) (seed : W64) : Nat × Conv :=
  if vals.any fun v => match v with | .fin _ _ _ => false | _ => true then
    let c := convEach (fun _ _ => (0, 0)) mode true ftz true vals seed
    let isInf := vals.any fun v => match v with | .inf _ => true | _ => false
    (255, { c with flags := fNV ||| (if isInf then fOF else 0) })
  else
    let sc := mxScale code vals
    (sc, convEach (fun rc v => mxElem code rc (mxScaled (254 - sc) v)) mode true ftz true vals seed)

/-- Blocks of 32 (R128). -/
def convBlocks (code mode : Nat) (ftz : Bool) : Nat → List FVal → W64 → List Nat × Conv
  | 0, _, seed => ([], ⟨[], 0, seed⟩)
  | n + 1, vals, seed =>
    let b := convBlock code mode ftz (vals.take 32) seed
    let r := convBlocks code mode ftz n (vals.drop 32) b.2.seed
    (b.1 :: r.1, ⟨b.2.bits ++ r.2.bits, b.2.flags ||| r.2.flags, r.2.seed⟩)

/-- The element function of a conversion to a format that is no MX format (R133). An integer source narrows to an
integer without rounding. -/
def elemTo (src dst : Nat) (c : RndCtl) (v : FVal) : Nat × Nat :=
  match fmtOf dst with
  | some f =>
    if isMx src then
      -- R133: an MX value beyond binary32 gives infinity, or the largest finite value under saturation
      f.round { c with mode := 0 } v
    else f.round c v
  | none =>
    if isInt src then
      (match v with
       | .fin neg m _ => narrowInt (fmtBits dst) (if neg then -(m : Int) else m)
       | _ => (0, 0))
    else toInt (fmtBits dst) c v

/-- A conversion of a list of elements (R130-R135, R137): scale bytes for an MX target. `vals` are the source values with
their scales applied. -/
def convert (src dst mode : Nat) (sat ftz : Bool) (vals : List FVal) (seed : W64) : List Nat × Conv :=
  if isMx dst then convBlocks dst mode ftz (vals.length / 32) vals seed
  else ([], convEach (elemTo src dst) mode sat ftz (!(isInt src && isInt dst)) vals seed)

/-! ## Lanes of the vector unit (R110, R144, R145) -/

/-- Splits the low n·w bits into n elements of w bits (R129). -/
def lanes (w : Nat) : Nat → Nat → List Nat
  | 0, _ => []
  | n + 1, x => x % 2 ^ w :: lanes w n (x / 2 ^ w)

/-- Joins elements of w bits (R129). -/
def joinLanes (w : Nat) : List Nat → Nat
  | [] => 0
  | x :: r => x % 2 ^ w + 2 ^ w * joinLanes w r

/-- Floating lane minimum and maximum (R144). -/
def fminmax (f : Fmt) (c : RndCtl) (isMax : Bool) (a b : FVal) : Nat × Nat :=
  if a.isNan || b.isNan then (f.canonNan, a.nv ||| b.nv)
  else f.round c (if isMax then (if FVal.ltZ a b then b else a) else (if FVal.ltZ b a then b else a))

/-- Floating lane compare under cc (R106, R144): the truth and the flags. cc 0 eq, 1 ne, 2 lt, 3 le, 4 gt, 5 ge, 6 unordered. -/
def fcmp (cc : Nat) (a b : FVal) : Bool × Nat :=
  let un := a.isNan || b.isNan
  let nv := a.nv ||| b.nv
  match cc with
  | 0 => (FVal.eqv a b, nv)
  | 1 => (!FVal.eqv a b, nv)
  | 6 => (un, nv)
  | _ =>
    if un then (false, fNV)
    else (match cc with
      | 2 => FVal.lt a b
      | 3 => !FVal.lt b a
      | 4 => FVal.lt b a
      | _ => !FVal.lt a b, 0)

/-! ## Remote atomics and plaits (R149, R150): nearest even, denormals kept, no flag -/

def rneCtl : RndCtl := ⟨0, false, false, 0⟩

/-- a + b in a format, rounded once to nearest even. -/
def faddBits (f : Fmt) (a b : Nat) : Nat := (f.round rneCtl (FVal.add 0 (f.decode a) (f.decode b)).1).1

/-- The new value of an atomic at its target (R150), by opcode 0x04-0x0E (R116). -/
def atomicNew (opc : Nat) (old operand compare : W64) : W64 :=
  let lo := BitVec.ofNat 32
  match opc with
  | 0x04 => (BitVec.setWidth 32 old + BitVec.setWidth 32 operand).setWidth 64
  | 0x05 => old + operand
  | 0x06 => (lo (faddBits fmt32 (old.toNat % 2 ^ 32) (operand.toNat % 2 ^ 32))).setWidth 64
  | 0x07 => BitVec.ofNat 64 (faddBits fmtBf (old.toNat % 2 ^ 16) (operand.toNat % 2 ^ 16)
      + 2 ^ 16 * faddBits fmtBf (old.toNat / 2 ^ 16 % 2 ^ 16) (operand.toNat / 2 ^ 16 % 2 ^ 16))
  | 0x08 => operand
  | 0x09 => if old = compare then operand else old
  | 0x0A => if BitVec.slt operand old then operand else old
  | 0x0B => if BitVec.slt old operand then operand else old
  | 0x0C => old &&& operand
  | 0x0D => old ||| operand
  | 0x0E => old ^^^ operand
  | _ => old

/-- Bytes that an atomic reads and writes: 4 for FADD32, FADDF32 and FADDBF2, else 8 (R116, R150). -/
def atomicBytes (opc : Nat) : Nat := if opc = 0x04 ∨ opc = 0x06 ∨ opc = 0x07 then 4 else 8

/-- One element of a plait (R149), in its accumulation width of 32 bits. -/
def plaitElem (op a b : Nat) : Nat :=
  match op with
  | 0 => faddBits fmt32 a b
  | 1 => faddBits fmt32 a b
  | 2 => (a + b) % 2 ^ 32
  | 3 => (fminmax fmt32 rneCtl false (fmt32.decode a) (fmt32.decode b)).1
  | 4 => (fminmax fmt32 rneCtl true (fmt32.decode a) (fmt32.decode b)).1
  | 5 => if sval 32 b < sval 32 a then b else a
  | _ => if sval 32 a < sval 32 b then b else a

/-- A line of a plait as accumulation elements: bfloat16 widened exactly to FP32 (R149). -/
def plaitWiden (op : Nat) (l : Line) : List Nat :=
  if op = 1 then (lanes 16 32 l.toNat).map (· * 2 ^ 16) else lanes 32 16 l.toNat

/-- Applies one line; the first arrival is stored unchanged (R149). -/
def plaitApply (op : Nat) (acc : Option (List Nat)) (l : Line) : List Nat :=
  match acc with
  | none => plaitWiden op l
  | some a => List.zipWith (plaitElem op) a (plaitWiden op l)

/-- The result line written (R149). -/
def plaitResult (op : Nat) (acc : List Nat) : Line :=
  if op = 1 then BitVec.ofNat 512 (joinLanes 16 (acc.map fun x => (fmtBf.round rneCtl (fmt32.decode x)).1))
  else BitVec.ofNat 512 (joinLanes 32 acc)

end Sys2Proof.Machine
end

