-- ==== Sys2Proof/Machine/Operands.lean ====
section
/-!
DEFINITION. How a slot issues (R98-R101, R108) and how it names its operands (R103, R106, R109, R115, R116).
-/
namespace Sys2Proof.Machine

/-- Operand bits [lo+n-1:lo] of a slot. -/
def bits (w : BitVec 22) (lo n : Nat) : Nat := w.toNat / 2 ^ lo % 2 ^ n

/-- A signed operand field, sign-extended to 64 bits. -/
def sbits64 (w : BitVec 22) (lo n : Nat) : W64 := (BitVec.ofNat n (bits w lo n)).signExtend 64

/-! ## Registers as they stood before the bundle (R100), and their writes -/

def Pre.s (p : Pre) (i : Nat) : W64 := Tbl.look (fun _ => 0) p.sregs i
/-- p0 reads 1 (R99). -/
def Pre.p (p : Pre) (i : Nat) : Bool := if i = 0 then true else Tbl.look (fun _ => false) p.preds i
def Pre.v (p : Pre) (i : Nat) : VReg := Tbl.look (fun _ => 0) p.vregs i
/-- Sixteen bytes of 0x7F: every scale 1 (R81). -/
def scaleOne : BitVec 128 := 0x7F7F7F7F7F7F7F7F7F7F7F7F7F7F7F7F#128
def Pre.scale (p : Pre) (i : Nat) : BitVec 128 := Tbl.look (fun _ => scaleOne) p.scales i
def Pre.d (p : Pre) (i : Nat) : W32 := Tbl.look (fun _ => 0) p.done i

/-- What the slots of the bundle in issue read. -/
def State.pre (s : State) (u : Nat) : Pre := (s.tile u).pre

def Tile.s (t : Tile) (i : Nat) : W64 := Tbl.look (fun _ => 0) t.sregs i
def Tile.p (t : Tile) (i : Nat) : Bool := if i = 0 then true else Tbl.look (fun _ => false) t.preds i
def Tile.v (t : Tile) (i : Nat) : VReg := Tbl.look (fun _ => 0) t.vregs i
def Tile.scale (t : Tile) (i : Nat) : BitVec 128 := Tbl.look (fun _ => scaleOne) t.scales i
def Tile.d (t : Tile) (i : Nat) : W32 := Tbl.look (fun _ => 0) t.done i
/-- Element (row, col) of accumulator a (R65). -/
def accKey (a row col : Nat) : Nat := 2048 * a + 64 * row + col
def Tile.acc (t : Tile) (a row col : Nat) : W64 := Tbl.look (fun _ => 0) t.accs (accKey a row col)
def Tile.tag (t : Tile) (a : Nat) : AccTag := Tbl.look (fun _ => AccTag.fp32) t.tags a

def Tile.setS (t : Tile) (i : Nat) (x : W64) : Tile := { t with sregs := Tbl.put (fun _ => 0) t.sregs i x }
/-- A write of p0 has no effect (R99). -/
def Tile.setP (t : Tile) (i : Nat) (b : Bool) : Tile :=
  if i = 0 then t else { t with preds := Tbl.put (fun _ => false) t.preds i b }
def Tile.setV (t : Tile) (i : Nat) (x : VReg) : Tile := { t with vregs := Tbl.put (fun _ => 0) t.vregs i x }
def Tile.setScale (t : Tile) (i : Nat) (x : BitVec 128) : Tile :=
  { t with scales := Tbl.put (fun _ => scaleOne) t.scales i x }
def Tile.setAcc (t : Tile) (a row col : Nat) (x : W64) : Tile :=
  { t with accs := Tbl.put (fun _ => 0) t.accs (accKey a row col) x }
def Tile.setTag (t : Tile) (a : Nat) (g : AccTag) : Tile := { t with tags := Tbl.put (fun _ => AccTag.fp32) t.tags a g }
/-- Counts a completed request (R66). -/
def Tile.countDone (t : Tile) (d : Nat) : Tile := { t with done := Tbl.put (fun _ => 0) t.done d (t.d d + 1) }

/-! ## Issue -/

def tdie (u : Nat) : Nat := uDie u
/-- A tile counter (R96). -/
def State.tileBump (s : State) (u i n : Nat) : State := s.bump (Reg.tileCnt (uDie u) (uSite u) i) n
/-- A site memory counter (R182). -/
def State.siteBump (s : State) (u i n : Nat) : State := s.bump (Reg.siteCnt (uDie u) (uSite u) i) n
def State.phase (s : State) (u : Nat) : Nat := s.getF (Reg.tilePhase (uDie u) (uSite u))

/-- Executed cycles of the lap (R83). -/
def State.execCycles (s : State) (u n : Nat) : State :=
  (s.modTile u fun t => { t with cycles := t.cycles + n }).tileBump u 2 n

/-- Fetch reaches an index at or beyond the bundle count (R108). -/
def State.fetchEnd (s : State) (u : Nat) : State :=
  let s := s.illegal u 0 (s.tile u).bundle 1
  s.modTile u fun t => { t.status tsFETCH with issueEnd := true }

/-- The next bundle issues, or fetch ends: the registers its slots read are those before it (R100), its cycle and the cycles it
stalled are executed cycles of the lap, and the errors corrected as it was read are counted (R69). -/
def State.beginBundle (s : State) (u : Nat) (h : SlotHdr) : State :=
  let t := s.tile u
  let count := match s.curImg u with | some i => i.bundles | none => 0
  if count ≤ t.next then s.fetchEnd u
  else
    let s := s.setTile u { t with bundle := t.next, next := t.next + 1,
                                  pre := ⟨t.sregs, t.preds, t.vregs, t.scales, t.done, t.rnd, []⟩ }
    (((s.execCycles u (1 + h.stall)).tileBump u 4 h.slotFull).siteBump u 3 h.bank).tileBump u 8 h.corrected

/-- Free mover slots and free signal slots (R65, R102). -/
def Tile.freeMover (t : Tile) : Nat := 512 - (t.mover.length + t.rows.length)
def Tile.freeSig (t : Tile) : Nat := 64 - t.sigs.length

/-- Whether an X slot is a legal mover instruction, which takes a mover slot (R67, R116). -/
def wantsMover (word : W32) : Bool :=
  let op := slotOp word
  let w := slotArgs word
  if op = 0x14 ∨ op = 0x15 then decide (bits w 12 3 = 0 ∧ bits w 0 2 = 0)
  else (xOpcode op).isSome && decide (bits w 0 1 = 0 ∧ (op = 2 ∨ bits w 1 1 = 0))

/-- Whether an S slot is a legal SIGNAL or RIM_SET, which takes a signal slot (R67, R92, R122). -/
def wantsSignal (word : W32) : Bool :=
  let op := slotOp word
  let w := slotArgs word
  (op == 0x32 && decide (bits w 16 6 = 0 ∧ bits w 0 6 = 0)) || (op == 0x39 && decide (bits w 0 6 = 0))

/-- Whether the guard of a slot word holds as the registers stand (R99). -/
def Tile.guardHolds (t : Tile) (word : W32) : Bool := t.p (slotPred word).val != slotNeg word

/-- Whether the next bundle of the image stalls as a whole because its X or S slot finds no free mover or signal slot: the four
slots of a bundle issue together or stall together (R65, R67). -/
def State.bundleHeld (s : State) (u : Nat) : Bool :=
  let t := s.tile u
  match (s.curImg u).bind fun i => i.body[t.next]? with
  | none => false
  | some b =>
    let x := bundleSlot b .x
    let y := bundleSlot b .s
    (t.freeMover == 0 && wantsMover x && t.guardHolds x) || (t.freeSig == 0 && wantsSignal y && t.guardHolds y)

/-- Whether a slot can issue: its tile runs a lap, and a new bundle needs issue neither ended nor waiting (R83, R120) and a free
slot for what it issues (R67). -/
def State.slotOpen (s : State) (h : SlotHdr) : Bool :=
  let t := s.tile h.tile.unit
  s.phase h.tile.unit == 2 && (!h.fresh || (!t.issueEnd && t.wait.isNone && !s.bundleHeld h.tile.unit))

/-- Whether the guard holds (R99). -/
def State.guard (s : State) (h : SlotHdr) : Bool := (s.pre h.tile.unit).p h.pred.val != h.neg

/-- A tile fault (R69, R159): issue stops, the tile is FAULTED and leaves every course; cause 0 register file,
1 accumulator, 2 instruction-store digest, 3 scratchpad. TILE_FAULT shows SOURCE 3 with ABORTED, the status that R93 gives
the course, and an address that no rule states (log entry 16). -/
def State.faultTile (s : State) (u cause : Nat) : State :=
  let s := (s.tookFree.tileFault u 0x03 3 s.freeWord.toNat).setF (Reg.tilePhase (uDie u) (uSite u)) 4
  let s := s.modTile u fun t => { t with issueEnd := true, wait := none,
                                         member := t.member.map fun m => { m with stopping := some .tileFault } }
  s.raise 0x5005 u [u, cause]

/-- A wait begins: issue stops (R120). -/
def Tile.hold (t : Tile) (w : TWait) (now : Nat) : Tile := { t with wait := some w, waitSince := now, waitTries := 0 }

/-- The state in which a slot reads its operands: the first slot of a new bundle begins the bundle (R100); the errors corrected
as a later slot of it is read are counted (R69). -/
def State.opened (s : State) (h : SlotHdr) : State :=
  if h.fresh then s.beginBundle h.tile.unit h else s.tileBump h.tile.unit 8 h.corrected

/-- One slot (R98-R101): a slot whose guard is false has no effect; an illegal one is not executed. What the error codes
find acts before the slot does (R69, R159): a bundle that cannot be read is fetched again; a scratchpad word that the mover
finds bad fails its request, in `act`. -/
def State.slot (h : SlotHdr) (pos : Nat) (legal : State → Nat → Bool) (act : State → Nat → State) (s : State) : State :=
  let u := h.tile.unit
  if s.slotOpen h then
    if h.fresh && h.ecc == .bundle then s.refetchImage u
    else
      let s := s.opened h
      if h.fresh && (s.tile u).issueEnd then s
      else if s.guard h then
        if legal s u then
          match h.ecc with
          | .register => s.faultTile u 0
          | .accumulator => s.faultTile u 1
          | .spad => if pos = 3 then act (s.siteBump u 6 h.spadCorrected) u else s.faultTile u 3
          | _ => act (s.siteBump u 6 h.spadCorrected) u
        else s.illegal u pos (s.tile u).bundle 0
      else s
  else s

/-- Whether a slot that needs a place (R67) finds none: its guard holds and `full` says so. Such a bundle stalls: the
command has no effect until a place frees. -/
def State.stalls (s : State) (h : SlotHdr) (full : Tile → Bool) : Bool :=
  let t := s.tile h.tile.unit
  let p := if h.fresh then t.p h.pred.val else t.pre.p h.pred.val
  (p != h.neg) && full t

/-! ## Datapath access to the scratchpad (R103-R105) -/

/-- A datapath read sees the bytes as they stood before its bundle's writes (R104: a write is pending to a later cycle). -/
def State.spadRead (s : State) (u a n : Nat) : Nat :=
  let old := (s.pre u).old
  natOfBytes ((List.range n).map fun i =>
    let x := (a + i) % 2 ^ 20
    match Tbl.find old x with
    | some b => b
    | none => s.rdByte (spadBase u + x))

/-- Keeps the bytes that a datapath write of this bundle replaces. -/
def State.saveOld (s : State) (u a n : Nat) : State :=
  let keep := (List.range n).filterMap fun i =>
    let x := (a + i) % 2 ^ 20
    if (Tbl.find (s.pre u).old x).isSome then none else some (x, s.rdByte (spadBase u + x))
  s.modTile u fun t => { t with pre := { t.pre with old := keep ++ t.pre.old } }

/-- A datapath write. -/
def State.spadWrite (s : State) (u a : Nat) (bs : List Byte) : State :=
  (((s.saveOld u a bs.length).checkSeg u Segment.w a bs.length).spadWrBytes u a bs)

/-- The effective address of a base and a signed offset, aligned down (R103). -/
def effAddr (base : W64) (off : Int) (align : Nat) : Nat :=
  let a := (((base.toNat : Int) + off) % (2 ^ 20 : Int)).toNat
  a / align * align

end Sys2Proof.Machine
end

