-- ==== Sys2Proof/Machine/Scalar.lean ====
section
/-!
DEFINITION. The S slot (R106-R108), but for the waits and signals, which are in Sync.lean.
-/
namespace Sys2Proof.Machine

def State.setS (s : State) (u i : Nat) (x : W64) : State := s.modTile u fun t => t.setS i x

/-- A slot without operands: bits [27:0] zero, or it is illegal (R99, R101). -/
def State.nopSlot (h : SlotHdr) (pos : Nat) (word : Nat) (s : State) : State :=
  s.slot h pos (fun _ _ => decide (word % 2 ^ 28 = 0)) (fun s _ => s)

/-- The place of a slot in TSTAT.ILL_SLOT (R102). -/
def SlotPos.num : SlotPos → Nat
  | .s => 0 | .v => 1 | .m => 2 | .x => 3

/-- NOP, and every reserved opcode: a slot whose opcode or operand bits are not all zero is illegal (R99, R101). -/
def execNop (h : SlotHdr) (slot : SlotPos) (word : W32) (s : State) : Out := s.live fun s =>
  .next (s.nopSlot h (SlotPos.num slot) word.toNat)

/-- END (R83): issue ends with the bundle that holds it. -/
def execEndOp (h : SlotHdr) (w : BitVec 22) (s : State) : Out := s.live fun s =>
  .next (s.slot h 0 (fun _ _ => decide (w = 0)) (fun s u => s.modTile u fun t => { t with issueEnd := true }))

/-- SR format: sd ← sa op sb; bits [6:0] zero. -/
def State.opSR (h : SlotHdr) (w : BitVec 22) (f : W64 → W64 → W64) (s : State) : State :=
  s.slot h 0 (fun _ _ => decide (bits w 0 7 = 0)) fun s u =>
    s.setS u (bits w 17 5) (f ((s.pre u).s (bits w 12 5)) ((s.pre u).s (bits w 7 5)))

/-- SI format: sd ← sa op sext(imm12). -/
def State.opSI (h : SlotHdr) (w : BitVec 22) (f : W64 → W64 → W64) (s : State) : State :=
  s.slot h 0 (fun _ _ => true) fun s u =>
    s.setS u (bits w 17 5) (f ((s.pre u).s (bits w 12 5)) (sbits64 w 0 12))

/-- The count of a shift: the low six bits (R107). -/
def shCount (b : W64) : Nat := b.toNat % 64

/-- ADD: sd ← sa plus sb (R107). -/
def execAdd (h : SlotHdr) (w : BitVec 22) (s : State) : Out := s.live fun s => .next (s.opSR h w fun a b => a + b)

/-- SUB: sd ← sa minus sb (R107). -/
def execSub (h : SlotHdr) (w : BitVec 22) (s : State) : Out := s.live fun s => .next (s.opSR h w fun a b => a - b)

/-- MUL: sd ← the low 64 bits of sa × sb (R107). -/
def execMul (h : SlotHdr) (w : BitVec 22) (s : State) : Out := s.live fun s => .next (s.opSR h w fun a b => a * b)

/-- MULHU: sd ← the high 64 bits of the unsigned product (R107). -/
def execMulhu (h : SlotHdr) (w : BitVec 22) (s : State) : Out := s.live fun s => .next (s.opSR h w fun a b => BitVec.ofNat 64 (a.toNat * b.toNat / 2 ^ 64))

/-- AND: sd ← sa and sb (R107). -/
def execAnd (h : SlotHdr) (w : BitVec 22) (s : State) : Out := s.live fun s => .next (s.opSR h w fun a b => a &&& b)

/-- OR: sd ← sa or sb (R107). -/
def execOr (h : SlotHdr) (w : BitVec 22) (s : State) : Out := s.live fun s => .next (s.opSR h w fun a b => a ||| b)

/-- XOR: sd ← sa xor sb (R107). -/
def execXor (h : SlotHdr) (w : BitVec 22) (s : State) : Out := s.live fun s => .next (s.opSR h w fun a b => a ^^^ b)

/-- SHL: sd ← sa shifted left by sb[5:0] (R107). -/
def execShl (h : SlotHdr) (w : BitVec 22) (s : State) : Out := s.live fun s => .next (s.opSR h w fun a b => a <<< shCount b)

/-- SHR: sd ← sa shifted right by sb[5:0], zeros entering (R107). -/
def execShr (h : SlotHdr) (w : BitVec 22) (s : State) : Out := s.live fun s => .next (s.opSR h w fun a b => a >>> shCount b)

/-- SAR: sd ← sa shifted right by sb[5:0], the sign entering (R107). -/
def execSar (h : SlotHdr) (w : BitVec 22) (s : State) : Out := s.live fun s => .next (s.opSR h w fun a b => a.sshiftRight (shCount b))

/-- MIN: sd ← the signed minimum (R107). -/
def execMin (h : SlotHdr) (w : BitVec 22) (s : State) : Out := s.live fun s => .next (s.opSR h w fun a b => if b.slt a then b else a)

/-- MAX: sd ← the signed maximum (R107). -/
def execMax (h : SlotHdr) (w : BitVec 22) (s : State) : Out := s.live fun s => .next (s.opSR h w fun a b => if a.slt b then b else a)

/-- MINU: sd ← the unsigned minimum (R107). -/
def execMinu (h : SlotHdr) (w : BitVec 22) (s : State) : Out := s.live fun s => .next (s.opSR h w fun a b => if b < a then b else a)

/-- MAXU: sd ← the unsigned maximum (R107). -/
def execMaxu (h : SlotHdr) (w : BitVec 22) (s : State) : Out := s.live fun s => .next (s.opSR h w fun a b => if a < b then b else a)

/-- ADDI: sd ← sa plus imm (R107). -/
def execAddi (h : SlotHdr) (w : BitVec 22) (s : State) : Out := s.live fun s => .next (s.opSI h w fun a b => a + b)

/-- ANDI: sd ← sa and imm (R107). -/
def execAndi (h : SlotHdr) (w : BitVec 22) (s : State) : Out := s.live fun s => .next (s.opSI h w fun a b => a &&& b)

/-- ORI: sd ← sa or imm (R107). -/
def execOri (h : SlotHdr) (w : BitVec 22) (s : State) : Out := s.live fun s => .next (s.opSI h w fun a b => a ||| b)

/-- XORI: sd ← sa xor imm (R107). -/
def execXori (h : SlotHdr) (w : BitVec 22) (s : State) : Out := s.live fun s => .next (s.opSI h w fun a b => a ^^^ b)

/-- SHLI: sd ← sa shifted left by imm12[5:0] (R107). -/
def execShli (h : SlotHdr) (w : BitVec 22) (s : State) : Out := s.live fun s => .next (s.opSI h w fun a b => a <<< shCount b)

/-- SHRI: sd ← sa shifted right by imm12[5:0], zeros entering (R107). -/
def execShri (h : SlotHdr) (w : BitVec 22) (s : State) : Out := s.live fun s => .next (s.opSI h w fun a b => a >>> shCount b)

/-- SARI: sd ← sa shifted right by imm12[5:0], the sign entering (R107). -/
def execSari (h : SlotHdr) (w : BitVec 22) (s : State) : Out := s.live fun s => .next (s.opSI h w fun a b => a.sshiftRight (shCount b))

/-- MOVI: sd ← sext(imm17) (R107). -/
def execMovi (h : SlotHdr) (w : BitVec 22) (s : State) : Out := s.live fun s =>
  .next (s.slot h 0 (fun _ _ => true) fun s u => s.setS u (bits w 17 5) (sbits64 w 0 17))

/-- SLI: sd ← (sd << 16) | imm17[15:0]; imm17[16] zero (R107). -/
def execSli (h : SlotHdr) (w : BitVec 22) (s : State) : Out := s.live fun s =>
  .next (s.slot h 0 (fun _ _ => decide (bits w 16 1 = 0)) fun s u =>
    s.setS u (bits w 17 5) (((s.pre u).s (bits w 17 5) <<< 16) ||| BitVec.ofNat 64 (bits w 0 16)))

/-- A condition code of CMP and CMPI (R107). -/
def condCode (cc : Nat) (a b : W64) : Bool :=
  match cc with
  | 0 => a == b
  | 1 => a != b
  | 2 => a.slt b
  | 3 => !a.slt b
  | 4 => decide (a < b)
  | 5 => decide (b ≤ a)
  | _ => (a &&& b) != 0

/-- CMP: pd ← (sa cc sb) (R107). -/
def execCmp (h : SlotHdr) (w : BitVec 22) (s : State) : Out := s.live fun s =>
  .next (s.slot h 0 (fun _ _ => decide (bits w 0 6 = 0 ∧ bits w 16 3 ≠ 7)) fun s u =>
    s.modTile u fun t => t.setP (bits w 19 3)
      (condCode (bits w 16 3) (t.pre.s (bits w 11 5)) (t.pre.s (bits w 6 5))))

/-- CMPI: pd ← (sa cc sext(imm11)) (R107). -/
def execCmpi (h : SlotHdr) (w : BitVec 22) (s : State) : Out := s.live fun s =>
  .next (s.slot h 0 (fun _ _ => decide (bits w 16 3 ≠ 7)) fun s u =>
    s.modTile u fun t => t.setP (bits w 19 3)
      (condCode (bits w 16 3) (t.pre.s (bits w 11 5)) (sbits64 w 0 11)))

/-- The functions of PLOG (R107). -/
def predFn (fn : Nat) (a b : Bool) : Bool :=
  match fn with
  | 0 => a && b
  | 1 => a || b
  | 2 => a != b
  | _ => a && !b

/-- PLOG: pd ← pa fn pb (R107). -/
def execPlog (h : SlotHdr) (w : BitVec 22) (s : State) : Out := s.live fun s =>
  .next (s.slot h 0 (fun _ _ => decide (bits w 0 11 = 0)) fun s u =>
    s.modTile u fun t => t.setP (bits w 19 3) (predFn (bits w 11 2) (t.pre.p (bits w 16 3)) (t.pre.p (bits w 13 3))))

/-- A taken branch issues its target 2 cycles later. One whose target lies at or beyond the bundle count issues nothing: issue
ends as END in the branch's own bundle would end it (R108). -/
def State.branch (s : State) (u target : Nat) : State :=
  let count := match s.curImg u with | some i => i.bundles | none => 0
  (s.modTile u fun t => { t with next := target }).execCycles u (if target < count then 1 else 0)

/-- BR: branch to an absolute bundle index (R108). -/
def execBr (h : SlotHdr) (w : BitVec 22) (s : State) : Out := s.live fun s =>
  .next (s.slot h 0 (fun _ _ => decide (bits w 12 10 = 0)) fun s u => s.branch u (bits w 0 12))

/-- LOOP: sa ← sa − 1; branch if the new sa ≠ 0 (R107, R108). -/
def execLoop (h : SlotHdr) (w : BitVec 22) (s : State) : Out := s.live fun s =>
  .next (s.slot h 0 (fun _ _ => decide (bits w 17 5 = 0)) fun s u =>
    let x := (s.pre u).s (bits w 12 5) - 1
    let s := s.setS u (bits w 12 5) x
    if x = 0 then s else s.branch u (bits w 0 12))

/-- LD: sd ← 8 B at sa + imm12 × 8 (R103, R107). -/
def execLd (h : SlotHdr) (w : BitVec 22) (s : State) : Out := s.live fun s =>
  .next (s.slot h 0 (fun _ _ => true) fun s u =>
    let a := effAddr ((s.pre u).s (bits w 12 5)) ((sbits64 w 0 12).toInt * 8) 8
    (s.checkSeg u Segment.r a 8).setS u (bits w 17 5) (BitVec.ofNat 64 (s.spadRead u a 8)))

/-- ST: 8 B at sa + imm12 × 8 ← sd (R103, R107). -/
def execSt (h : SlotHdr) (w : BitVec 22) (s : State) : Out := s.live fun s =>
  .next (s.slot h 0 (fun _ _ => true) fun s u =>
    let a := effAddr ((s.pre u).s (bits w 12 5)) ((sbits64 w 0 12).toInt * 8) 8
    s.spadWrite u a (bytesOfNat 8 ((s.pre u).s (bits w 17 5)).toNat))

/-- The source ID of a unit (R11). -/
def State.srcId (s : State) (u : Nat) : Nat := s.getF Reg.wtyNode * 2 ^ 16 + u

/-- A special register (R102); one that is not listed reads 0. STIME is the die's copy, which agrees with the master to
within 1 st (R40): the model keeps one count (log entry 14). -/
def State.special (s : State) (u id : Nat) : W64 :=
  let t := s.tile u
  match id with
  | 0x00 => BitVec.ofNat 64 s.clk.now
  | 0x01 => BitVec.ofNat 64 s.clk.frame
  | 0x02 => BitVec.ofNat 64 (s.srcId u)
  | 0x03 => BitVec.ofNat 64 t.cycles
  | 0x04 => BitVec.ofNat 64 (match s.curImg u with | some i => i.bound | none => 0)
  | 0x08 => t.rnd
  | 0x09 => t.aflags
  | 0x0A => t.tstat
  | 0x0B => t.seed
  | 0x20 => BitVec.ofNat 64 (t.freeMover + t.freeSig * 2 ^ 16)
  | _ => if 0x10 ≤ id ∧ id < 0x20 then (t.pre.d (id - 0x10)).setWidth 64 else 0

/-- RDSR: sd ← special register (R102). -/
def execRdsr (h : SlotHdr) (w : BitVec 22) (s : State) : Out := s.live fun s =>
  .next (s.slot h 0 (fun _ _ => decide (bits w 8 4 = 0)) fun s u =>
    s.setS u (bits w 17 5) (s.special u (bits w 0 8)))

/-- The special registers that R102 lists. -/
def specialListed (id : Nat) : Bool :=
  decide (id ≤ 4) || (decide (8 ≤ id) && decide (id ≤ 0xB)) || (decide (0x10 ≤ id) && decide (id ≤ 0x20))

/-- A write of a special register: it replaces the whole register, reserved bits reading zero (R15, R102); a write of 0 to
SEED stores 0x5EED_0001 (R138); one of an identifier that is not listed sets ILL; one of a read-only register has no
effect (R15). -/
def Tile.writeSpecial (t : Tile) (id : Nat) (x : W64) : Tile :=
  match id with
  | 0x08 => { t with rnd := x &&& 0x1F }
  | 0x09 => { t with aflags := x &&& 0x3F }
  | 0x0A => { t with tstat := x &&& 0x0FFF003F }
  | 0x0B => { t with seed := if x = 0 then 0x5EED0001 else x }
  | _ => if specialListed id then t else t.status tsILL

/-- WRSR: special register ← sa (R102). -/
def execWrsr (h : SlotHdr) (w : BitVec 22) (s : State) : Out := s.live fun s =>
  .next (s.slot h 0 (fun _ _ => decide (bits w 8 4 = 0)) fun s u =>
    s.modTile u fun t => t.writeSpecial (bits w 0 8) (t.pre.s (bits w 12 5)))

end Sys2Proof.Machine
end

