-- ==== Sys2Proof/Machine/Mover.lean ====
section
/-!
DEFINITION. The X slot and the mover (R66-R68, R116-R118, R158, R164, R275-R277, R281).
-/
namespace Sys2Proof.Machine

/-! ## Region entries (R263-R265) -/

def Region.zero : Region := ⟨0, 0, false, 0⟩
def State.region (s : State) (g : Nat) : Region := Tbl.look (fun _ => Region.zero) s.regions g
def State.setRegion (s : State) (g : Nat) (r : Region) : State :=
  { s with regions := Tbl.put (fun _ => Region.zero) s.regions g r }
/-- The word in force in a frame (R264). -/
def Region.word (r : Region) (frame : Nat) : W64 :=
  if r.pending ∧ (frame % 2 ^ 16 + 2 ^ 16 - r.atFrame % 2 ^ 16) % 2 ^ 16 < 2 ^ 15 then r.staged else r.active
def rgnValid (w : W64) : Bool := w.getLsbD 0
def rgnPerm (w : W64) (i : Nat) : Bool := w.getLsbD i
def rgnKey (w : W64) : W32 := (w >>> 16).setWidth 32
def rgnStrength (w : W64) : Nat := w.toNat / 64 % 4
def rgnCoalesce (w : W64) : Nat := w.toNat / 256 % 4
/-- The PERM bit of an operation (R263): 1 R, 2 W, 3 A, 4 P. -/
def permBit (opc : Nat) : Nat := if opc = 1 then 1 else if opc = 2 ∨ opc = 0x20 then 2 else 3

/-! ## The mover's requests -/

/-- n lines of the scratchpad from an offset. -/
def State.spadLines (s : State) (u a n : Nat) : List Line :=
  (List.range n).map fun i => BitVec.ofNat 512 (s.spadRd u (a + 64 * i) 64)

/-- Whether a request is an atomic, a store or a contribution, which order release-flagged stores (R275). -/
def ordersRelease (opc : Nat) : Bool := opc != 1

def isAtomicOp (opc : Nat) : Bool := decide (4 ≤ opc) && decide (opc ≤ 0xE)

/-- The request as it goes out, its data and operands read from the scratchpad (R117, R273, R281). -/
def State.moverReq (s : State) (u : Nat) (m : MReq) (deadline : Nat) : Req :=
  let base := s.mkReq u m.seq m.opc m.key m.ga m.lines
  let r := { base with retry := decide (0 < m.retries), deadline := deadline }
  if m.opc = 2 ∨ m.opc = 0x10 then
    { r with data := s.spadLines u m.spad m.lines, nflits := flitsFor m.lines, operand := if m.opc = 0x10 then m.operand else 0 }
  else if isAtomicOp m.opc then
    { r with lines := 0, operand := BitVec.ofNat 64 (s.spadRd u m.spad (atomicBytes m.opc)),
             compare := if m.opc = 9 then BitVec.ofNat 64 (s.spadRd u (m.spad + 8) 8) else 0 }
  else r

def updReq (seq : Nat) (f : MReq → MReq) (l : List MReq) : List MReq := l.map fun m => if m.seq = seq then f m else m

/-- Records a failing completion for the release-flagged stores behind it (R275): those issued after it in its queue, and
those still to come in the lap. -/
def Tile.failQueue (t : Tile) (m : MReq) : Tile :=
  let after := (t.mover.dropWhile fun x => x.seq != m.seq).map fun (x : MReq) => x.seq
  { t with qFailed := setBit t.qFailed m.queue true,
           mover := t.mover.map fun x => if x.queue = m.queue ∧ x.rel ∧ x.seq ∈ after then { x with failed := true } else x }

/-- A mover request completes (R66): its slot frees, its done counter counts, and a status other than OK is recorded. A
contribution names no global address, and no rule gives the address that TILE_FAULT then shows: it is free (log entry 126). -/
def State.completeReq (s : State) (u : Nat) (m : MReq) (status : Nat) : State :=
  let s := s.modTile u fun t =>
    let t := if status ≠ 0 ∧ ordersRelease m.opc then t.failQueue m else t
    { t.countDone m.dc with mover := t.mover.filter fun x => x.seq != m.seq }
  if status = 0 then s
  else if m.opc = 0x10 then s.tookFree.tileFault u status 0 s.freeWord.toNat
  else s.tileFault u status 0 m.ga.toNat

/-- The mover reads a request's source, and the layout is checked (R104, R105). -/
def State.checkSource (s : State) (u : Nat) (m : MReq) : State :=
  if m.opc = 2 ∨ m.opc = 0x10 then s.checkSeg u Segment.mv m.spad (64 * m.lines)
  else if isAtomicOp m.opc then s.checkSeg u Segment.mv m.spad 16 else s

/-- A request whose checks have passed is sent (R281), unless its source bytes are uncorrectable: then it completes POISONED, and
each bad word of a STORE or PLAIT, which port B reads, raises STORE_POISONED (R159). Corrections are counted. -/
def State.issueReq (s : State) (u : Nat) (m : MReq) (found : LineRead) : State :=
  let s := s.checkSource u m
  let s := if m.opc = 1 then s else s.siteBump u 6 found.corrected
  let bad := (List.range (max 1 m.lines)).filter fun i => decide (i ∈ found.failed)
  if m.opc ≠ 1 ∧ !bad.isEmpty then
    let s := s.completeReq u m 0x40
    if isAtomicOp m.opc then s
    else bad.foldl (fun s i => s.raise 0x4108 (s.dieUnit (uDie u)) [uDie u, uSite u, (m.spad / 64 + i) % 16384]) s
  else
    let deadline := s.deadlineFor (aimOf m.opc m.ga)
    let s := s.modTile u fun t =>
      { t with mover := updReq m.seq (fun x => { x with state := .sent, deadline := deadline }) t.mover }
    s.send (s.moverReq u m deadline)

/-- Whether an earlier store, atomic or contribution of a request's queue is outstanding (R275). -/
def Tile.behind (t : Tile) (m : MReq) : Bool :=
  (t.mover.takeWhile fun x => x.seq != m.seq).any fun x => x.queue == m.queue && ordersRelease x.opc

/-- A request whose source checks have passed: a release-flagged store is held behind its queue, or ABORTED (R275). -/
def State.passReq (s : State) (u : Nat) (m : MReq) (found : LineRead) : State :=
  let t := s.tile u
  if m.rel then
    if t.behind m then s.setTile u { t with mover := updReq m.seq (fun x => { x with state := .held }) t.mover }
    else if m.failed then s.completeReq u m 0x03
    else s.issueReq u m found
  else s.issueReq u m found

/-- The check of a region entry before the request leaves the tile (R68, rows 1, 2 and 4 of R265). -/
def lookOk (w : W64) (opc : Nat) : Bool := rgnValid w && rgnPerm w (permBit opc)

/-- A request goes through its lookaside check (R68): a hit is checked, a miss fetches the entry. A contribution, a
request to another node and one to a host window bypass the cache. -/
def State.lookaside (s : State) (u : Nat) (m : MReq) (found : LineRead) : State :=
  let la := gaLa m.ga
  if m.opc = 0x10 ∨ s.isHere (gaNode m.ga) = false ∨ laGoverned la = false then s.passReq u m found
  else
    let t := s.tile u
    let g := granuleOf la
    match t.look.find? (fun e => e.1 == g) with
    | some e =>
      let s := s.setTile u { t with look := e :: t.look.filter fun x => x.1 != g }
      if lookOk (e.2.word s.clk.frame) m.opc then s.passReq u m found else s.completeReq u m 0x11
    | none =>
      let s := s.setTile u { t with mover := updReq m.seq (fun x => { x with state := .entry }) t.mover }
      s.tileBump u 7 1

/-- The source checks of rows 1 and 2 of R118: the status, 0 when both pass. -/
def State.sourceCheck (s : State) (opc : Nat) (sa sb : W64) : Nat :=
  let lines := sb.toNat / 2 ^ 20 % 128
  let transfer := opc == 1 || opc == 2 || opc == 0x10
  let badWord := transfer && (decide (sb.toNat / 2 ^ 27 ≠ 0) || lines == 0 || decide (64 < lines))
  let badPlait := opc == 0x10 && (decide (7 ≤ sa.toNat / 2 ^ 12 % 16) || decide (sa.toNat / 2 ^ 32 ≠ 0))
  let badGa := opc != 0x10 && s.isHere (gaNode sa) && laReserved (gaLa sa)
  if badWord || badPlait || badGa then 0x12
  else if (opc == 1 || opc == 2) && (decide (sa.toNat % 64 ≠ 0) || decide (4096 < sa.toNat % 4096 + 64 * lines)) then 0x13
  else if isAtomicOp opc && decide (sa.toNat % atomicBytes opc ≠ 0) then 0x13
  else 0

/-- A new request takes a mover slot and the next REQ_SEQ (R66, R277). -/
def State.newReq (s : State) (u : Nat) (m : MReq) : State :=
  s.modTile u fun t => { t with seqNext := (t.seqNext + 1) % 2 ^ 24, mover := t.mover ++ [m] }

/-- What the codes find as the mover reads the source of a transfer of an X slot: the corrections are counted with the slot. -/
def slotSource (h : SlotHdr) (lines : Nat) : LineRead :=
  ⟨0, if h.ecc = .spad then [h.spadWord.val % max 1 lines] else [], []⟩

/-- An XM slot (R116-R118): LOAD, STORE, the atomics and PLAIT. -/
def State.opXM (h : SlotHdr) (w : BitVec 22) (opc : Nat) (s : State) : State :=
  if s.stalls h (fun t => t.freeMover == 0) then s
  else s.slot h 3 (fun _ _ => decide (bits w 0 1 = 0 ∧ (opc = 2 ∨ bits w 1 1 = 0))) fun s u =>
    let p := s.pre u
    let sa := p.s (bits w 7 5)
    let sb := p.s (bits w 2 5)
    let t := s.tile u
    let transfer := opc == 1 || opc == 2 || opc == 0x10
    let g := s.getF (Reg.tileGroup (uDie u) (uSite u))
    let m : MReq :=
      { seq := t.seqNext, opc := opc, queue := bits w 19 3, dc := bits w 15 4,
        key := s.getR (Reg.grpKey (uDie u) g (bits w 12 3)),
        ga := if opc = 0x10 then 0 else sa,
        spad := sb.toNat % 2 ^ 20 / 64 * 64,
        lines := if transfer then sb.toNat / 2 ^ 20 % 128 else 0,
        operand := if opc = 0x10 then sa else 0,
        rel := decide (opc = 2 ∧ bits w 1 1 = 1), failed := t.qFailed.testBit (bits w 19 3), state := .sent, retries := 0,
        deadline := 0 }
    let s := s.newReq u m
    let st := s.sourceCheck opc sa sb
    if st ≠ 0 then s.completeReq u m st else s.lookaside u m (slotSource h m.lines)

/-- LOAD: lines from a global address into the scratchpad (R116-R118). -/
def execLoad (h : SlotHdr) (w : BitVec 22) (s : State) : Out := s.live fun s => .next (s.opXM h w 1)

/-- STORE: lines from the scratchpad to a global address; REL holds it behind its queue (R275) (R116-R118). -/
def execStore (h : SlotHdr) (w : BitVec 22) (s : State) : Out := s.live fun s => .next (s.opXM h w 2)

/-- FADD32: int32 fetch-add (R116-R118). -/
def execFadd32 (h : SlotHdr) (w : BitVec 22) (s : State) : Out := s.live fun s => .next (s.opXM h w 4)

/-- FADD64: int64 fetch-add (R116-R118). -/
def execFadd64 (h : SlotHdr) (w : BitVec 22) (s : State) : Out := s.live fun s => .next (s.opXM h w 5)

/-- FADDF32: FP32 fetch-add (R116-R118). -/
def execFaddf32 (h : SlotHdr) (w : BitVec 22) (s : State) : Out := s.live fun s => .next (s.opXM h w 6)

/-- FADDBF2: fetch-add on two bfloat16 values (R116-R118). -/
def execFaddbf2 (h : SlotHdr) (w : BitVec 22) (s : State) : Out := s.live fun s => .next (s.opXM h w 7)

/-- SWAP64: 64-bit swap (R116-R118). -/
def execSwap64 (h : SlotHdr) (w : BitVec 22) (s : State) : Out := s.live fun s => .next (s.opXM h w 8)

/-- CAS64: 64-bit compare-and-swap (R116-R118). -/
def execCas64 (h : SlotHdr) (w : BitVec 22) (s : State) : Out := s.live fun s => .next (s.opXM h w 9)

/-- MIN64: signed 64-bit minimum (R116-R118). -/
def execMin64 (h : SlotHdr) (w : BitVec 22) (s : State) : Out := s.live fun s => .next (s.opXM h w 10)

/-- MAX64: signed 64-bit maximum (R116-R118). -/
def execMax64 (h : SlotHdr) (w : BitVec 22) (s : State) : Out := s.live fun s => .next (s.opXM h w 11)

/-- AND64: 64-bit and (R116-R118). -/
def execAnd64 (h : SlotHdr) (w : BitVec 22) (s : State) : Out := s.live fun s => .next (s.opXM h w 12)

/-- OR64: 64-bit or (R116-R118). -/
def execOr64 (h : SlotHdr) (w : BitVec 22) (s : State) : Out := s.live fun s => .next (s.opXM h w 13)

/-- XOR64: 64-bit xor (R116-R118). -/
def execXor64 (h : SlotHdr) (w : BitVec 22) (s : State) : Out := s.live fun s => .next (s.opXM h w 14)

/-- PLAIT: one contribution to a plait group (R116-R118). -/
def execPlait (h : SlotHdr) (w : BitVec 22) (s : State) : Out := s.live fun s => .next (s.opXM h w 16)

/-! ## Row moves (R35, R164, R169) -/

/-- A row move completes (R66, R118): TILE_FAULT gives the row index as issued. -/
def State.completeRow (s : State) (u : Nat) (r : RowMove) (status : Nat) : State :=
  let s := s.modTile u fun t => { t.countDone r.dc with rows := t.rows.erase r }
  if status = 0 then s else s.tileFault u status 0 r.row.toNat

/-- An XR slot (R116, R118): a row index above 16,383 completes RANGE_FAULT. -/
def State.opXR (h : SlotHdr) (w : BitVec 22) (write : Bool) (s : State) : State :=
  if s.stalls h (fun t => t.freeMover == 0) then s
  else s.slot h 3 (fun _ _ => decide (bits w 12 3 = 0 ∧ bits w 0 2 = 0)) fun s u =>
    let p := s.pre u
    let r : RowMove :=
      { write := write, row := p.s (bits w 7 5), dc := bits w 15 4, spad := (p.s (bits w 2 5)).toNat % 2 ^ 20 / 512 * 512,
        granted := false, since := none, counted := none, due := 0 }
    let s := s.modTile u fun t => { t with rows := t.rows ++ [r] }
    if 16384 ≤ r.row.toNat then s.completeRow u r 0x12 else s

/-- ROWRD: one row of the tile's slice into the scratchpad (R164). -/
def execRowrd (h : SlotHdr) (w : BitVec 22) (s : State) : Out := s.live fun s => .next (s.opXR h w false)

/-- ROWWR: one row from the scratchpad into the tile's slice (R164). -/
def execRowwr (h : SlotHdr) (w : BitVec 22) (s : State) : Out := s.live fun s => .next (s.opXR h w true)

def CDie.zero : CDie := ⟨[], [], [], none, false, [], false, []⟩
def State.cdie (s : State) (d : Nat) : CDie := Tbl.look (fun _ => CDie.zero) s.cdies d
def State.setCdie (s : State) (d : Nat) (c : CDie) : State := { s with cdies := Tbl.put (fun _ => CDie.zero) s.cdies d c }
def Slice.zero : Slice := ⟨[], none, 0⟩
def State.slice (s : State) (d p : Nat) : Slice := Tbl.look (fun _ => Slice.zero) s.slices (292 * d + p)
def State.setSlice (s : State) (d p : Nat) (x : Slice) : State :=
  { s with slices := Tbl.put (fun _ => Slice.zero) s.slices (292 * d + p) x }
def StoreDie.zero : StoreDie := ⟨0, 0, false, []⟩
def State.sdie (s : State) (d : Nat) : StoreDie := Tbl.look (fun _ => StoreDie.zero) s.storeDies d
def State.setSdie (s : State) (d : Nat) (x : StoreDie) : State :=
  { s with storeDies := Tbl.put (fun _ => StoreDie.zero) s.storeDies d x }

/-- Whether two sites lie in one 2 × 2 block that contains the first (R35): the blocks of site a are named by their
south-west corner. -/
def blocksOf (a : Nat) : List (Nat × Nat) :=
  let c := a % 18
  let r := a / 18
  ((List.range 2).flatMap fun i => (List.range 2).map fun j => (c + 1 - i, r + 1 - j)).filterMap fun b =>
    if 1 ≤ b.1 ∧ b.1 ≤ 17 ∧ 1 ≤ b.2 ∧ b.2 ≤ 15 then some (b.1 - 1, b.2 - 1) else none

def inBlock (b : Nat × Nat) (site : Nat) : Bool :=
  (site % 18 == b.1 || site % 18 == b.1 + 1) && (site / 18 == b.2 || site / 18 == b.2 + 1)

/-- Whether the governor admits a move of a HOT tile in a cycle (R35): every block of the tile has had fewer than 2 moves
granted in the 63 cycles before, those granted earlier in the cycle itself counted with them, so that no block has more than 2
grants in 64 consecutive cycles (log entry 18). -/
def governorAdmits (grants : List (Nat × Nat)) (site k : Nat) : Bool :=
  (blocksOf site).all fun b => decide ((grants.filter fun g => decide (k < g.1 + 64 ∧ g.1 ≤ k) && inBlock b g.2).length < 2)

/-- Whether a tile is HOT (R35): its current lap has heat class HOT. -/
def State.isHot (s : State) (u : Nat) : Bool :=
  s.phase u == 2 && (match s.curImg u with | some i => i.hot | none => false)

/-- Whether a slice takes accesses now (R173, R178, R179): its store die is not clearing, and it is not being copied. -/
def State.sliceOpen (s : State) (d p : Nat) : Bool := !(s.sdie d).clearing && (s.slice d p).copyTo.isNone

/-- Whether a held request of another HOT tile of the die goes first in a cycle (R35): it is one that the governor admits, and
it has been held for longer, or for as long at a lower site number. -/
def State.heldBefore (s : State) (u k : Nat) (since : Option Nat) : Bool :=
  let d := uDie u
  (List.range 288).any fun q =>
    let v := 512 * d + q
    match (s.tile v).rows.find? (fun r => !r.granted) with
    | some { since := some c, .. } =>
        decide (v ≠ u) && s.isHot v && s.sliceOpen d q && decide (s.getF (Reg.sliceState d q) ≠ 3) &&
          governorAdmits (s.cdie d).grants q k &&
          (match since with | none => true | some b => decide (c < b ∨ c = b ∧ v < u))
    | _ => false

/-- Replaces the first row move equal to `r`. -/
def setRow (l : List RowMove) (r r' : RowMove) : List RowMove :=
  match l with
  | [] => []
  | x :: l => if x = r then r' :: l else x :: setRow l r r'

/-- Cycles from the grant of a row move to the count of its done counter (R164): by the state of the slice. -/
def rowCycles (sliceState : Nat) (write : Bool) : Nat :=
  (if sliceState = 1 then 1 else if sliceState = 2 then 7 else 0) + (if write then 6 else 10)

/-- Whether the governor holds a row move of a tile in a cycle (R35). -/
def State.governorHolds (s : State) (u k : Nat) (r : RowMove) : Bool :=
  s.isHot u && (!governorAdmits (s.cdie (uDie u)).grants (uSite u) k || s.heldBefore u k r.since)

/-- ROW_MOVE_GRANT (R35, R164, R169): the tile's oldest row move is granted in the cycle in which the governor and the
slice both accept it, the oldest held move of the die first; one that the slice cannot serve completes UNREACHABLE. The cycles for
which the governor held it since it was last asked count in ROW_HOLD_CYCLES, whatever becomes of it. -/
def State.grantRow (s : State) (u k : Nat) : State :=
  let d := uDie u
  match (s.tile u).rows.find? (fun r => !r.granted) with
  | none => s
  | some r =>
    let s := match r.counted with | some c => s.siteBump u 2 (k - c) | none => s
    let put := fun (r' : RowMove) => s.modTile u fun t => { t with rows := setRow t.rows r r' }
    let st := s.getF (Reg.sliceState d (uSite u))
    if st = 3 then s.completeRow u r 0x31
    else if s.governorHolds u k r then
      put { r with since := some (match r.since with | some c => c | none => k), counted := some k }
    else if !s.sliceOpen d (uSite u) then put { r with counted := none }
    else
      let s := put { r with granted := true, counted := none, due := k + rowCycles st r.write }
      let c := s.cdie d
      s.setCdie d { c with grants := (c.grants.filter fun g => decide (k < g.1 + 64)) ++ [(k, uSite u)] }

def execRowMoveGrant (tile : TileId) (govCycle : Nat) (s : State) : Out := s.live fun s => .next (s.grantRow tile.unit govCycle)

/-- The local address of a row of a slice (R163). -/
def rowLa (d p row : Nat) : Nat := 0xF000000000 + d * 0x90000000 + p * 0x800000 + row * 0x200

/-- Reads one line of the local memory as a target does: an invalid line reads zero (R165, R296). -/
def State.readLine (s : State) (la : Nat) : Line := if s.lineValid la then s.rdLine la else 0

/-- Writes one line and sets its valid bit; a write repairs a marked line (R165, R167). -/
def State.storeLine (s : State) (la : Nat) (l : Line) : State := ((s.wrLine la l).setValid la true).setMark la 0

/-- Port B's data of one word, unless port A took the word (R157). -/
def State.portB (s : State) (u a : Nat) (lost : Bool) (l : Line) : State :=
  if lost then s else s.spadWrBytes u a (bytesOfNat 64 l.toNat)

/-- The words that a request lost to port A (R158): counted, and COLLIDE where it would otherwise be OK. -/
def State.collide (s : State) (u status lost : Nat) : State × Nat :=
  let s := s.siteBump u 5 lost
  if status = 0 ∧ 0 < lost then (s.siteBump u 4 1, 0x22) else (s, status)

/-- Whether a line of a read is bad (R167): uncorrectable, or its transfer fails its line check and so do three more. -/
def lineBad (f : LineRead) (la i : Nat) : Bool :=
  decide (i ∈ f.failed) || (match Tbl.find f.moved i with
    | some ts => decide (4 ≤ ts.length) && (ts.take 4).all fun t => lineCheck (la + 64 * i) t.1 != t.2
    | none => false)

/-- How often a line of a read is transferred again (R167): up to three times. -/
def lineAgain (f : LineRead) (la i : Nat) : Nat :=
  if i ∈ f.failed then 3
  else match Tbl.find f.moved i with
    | some ts => min 3 (ts.takeWhile fun t => lineCheck (la + 64 * i) t.1 != t.2).length
    | none => 0

/-- Lines of a slice have been read (R167): corrections are counted, a valid line that is bad is poisoned until it is written
again, and each line that reads as poisoned raises STORE_POISONED. Repeated transfers count in BOND_RETRIES: those of a row
together, since its lines cross in one transfer, those of single lines each (R170, R171). Also the lines that read as
poisoned. -/
def State.readSlice (s : State) (d p la n : Nat) (row : Bool) (found : LineRead) : State × List Nat :=
  let again := (List.range n).map (lineAgain found la)
  let s := (s.bump (Reg.sdCnt d 0) found.corrected).bump (Reg.sdCnt d 2) (if row then again.foldl max 0 else again.sum)
  let failed := (List.range n).filter (lineBad found la)
  let s := failed.foldl (fun s i => if s.lineValid (la + 64 * i) then s.setMark (la + 64 * i) 0x40 else s) s
  let bad := (List.range n).filter fun i =>
    decide (i ∈ failed) || (s.lineValid (la + 64 * i) && s.lineMark (la + 64 * i) != 0)
  let s := if bad.isEmpty then s else s.bump (Reg.sdCnt d 1) 1
  (bad.foldl (fun s i =>
    let x := (la + 64 * i) % 0x800000 / 64
    s.raise 0x4108 (s.dieUnit d) [d, p, x / 8, x % 8]) s, bad)

/-- ROWRD's transfer: each line of the row that is not poisoned is written to the scratchpad (R165, R167). -/
def State.rowRead (s : State) (u : Nat) (r : RowMove) (collided : List Nat) (found : LineRead) : State :=
  let base := rowLa (uDie u) (uSite u) r.row.toNat
  let x := s.readSlice (uDie u) (uSite u) base 8 true found
  let s := (List.range 8).foldl (fun t i =>
    if i ∈ x.2 then t else t.portB u (r.spad + 64 * i) (decide (i ∈ collided)) (x.1.readLine (base + 64 * i))) x.1
  let s := s.checkSeg u Segment.mv r.spad 512
  let lost := ((List.range 8).filter fun i => decide (i ∈ collided) && !decide (i ∈ x.2)).length
  let c := s.collide u (if x.2.isEmpty then 0 else 0x40) lost
  (c.1.siteBump u 0 1).completeRow u r c.2

/-- ROWWR's transfer: the row's eight lines are written and made valid (R165); an uncorrectable source writes nothing (R159). -/
def State.rowWrite (s : State) (u : Nat) (r : RowMove) (found : LineRead) : State :=
  let s := (s.checkSeg u Segment.mv r.spad 512).siteBump u 6 found.corrected
  let bad := (List.range 8).filter fun i => decide (i ∈ found.failed)
  if !bad.isEmpty then
    (bad.foldl (fun s i => s.raise 0x4108 (s.dieUnit (uDie u)) [uDie u, uSite u, r.spad / 64 + i]) s).completeRow u r 0x40
  else
    let base := rowLa (uDie u) (uSite u) r.row.toNat
    let s' := (List.range 8).foldl (fun t i =>
      t.storeLine (base + 64 * i) (BitVec.ofNat 512 (s.spadRd u (r.spad + 64 * i) 64))) s
    (s'.siteBump u 1 1).completeRow u r 0

/-- The granted row move of a tile that is done next (R164): the one whose count is due first, of those due together the one
granted first. -/
def Tile.nextRow (t : Tile) : Option RowMove :=
  (t.rows.filter fun r => r.granted).foldl (fun a r => match a with
    | some x => if r.due < x.due then some r else some x
    | none => some r) none

/-- ROW_MOVE_DONE (R164): a granted row move of the tile completes, in the order in which their counts are due. `collided` names
the lines that port A took; `found` is what the read of the slice, or of the scratchpad for a ROWWR, shows. A move whose slice has
failed meanwhile completes UNREACHABLE (R174). -/
def execRowMoveDone (tile : TileId) (collided : List Nat) (found : LineRead) (s : State) : Out := s.live fun s =>
  let u := tile.unit
  match (s.tile u).nextRow with
  | none => .next s
  | some r => .next (if s.getF (Reg.sliceState (uDie u) (uSite u)) = 3 then s.completeRow u r 0x31
      else if r.write then s.rowWrite u r found else s.rowRead u r collided found)

/-! ## Replies, releases and region entries -/

/-- The lines of a LOAD's reply go to the scratchpad; a marked line leaves its destination unchanged (R287). -/
def State.placeLines (s : State) (u a : Nat) (collided : List Nat) : Nat → List (Option Line) → State
  | _, [] => s
  | i, none :: r => s.placeLines u a collided (i + 1) r
  | i, some l :: r => (s.portB u (a + 64 * i) (decide (i ∈ collided)) l).placeLines u a collided (i + 1) r

/-- The layout check of the lines that a reply brings (R105): a LOAD that its target refused moves no data. -/
def State.checkLines (s : State) (u a : Nat) : Nat → List (Option Line) → State
  | _, [] => s
  | i, none :: r => s.checkLines u a (i + 1) r
  | i, some _ :: r => (s.checkSeg u Segment.mv (a + 64 * i) 64).checkLines u a (i + 1) r

/-- A mover request's reply (R66, R117, R158). -/
def State.moverReply (s : State) (u : Nat) (m : MReq) (r : Reply) (collided : List Nat) : State :=
  if m.opc = 1 then
    let lost := (collided.filter fun i => match r.data[i]? with | some (some _) => true | _ => false).length
    let s := (s.placeLines u m.spad collided 0 r.data).checkLines u m.spad 0 r.data
    let c := s.collide u r.status.toNat lost
    c.1.completeReq u m c.2
  else if isAtomicOp m.opc ∧ r.status = 0 then
    let n := atomicBytes m.opc
    ((s.spadWrBytes u (m.spad + 16) (bytesOfNat n r.value.toNat)).checkSeg u Segment.mv (m.spad + 16) n).completeReq u m 0
  else s.completeReq u m r.status.toNat

/-- A reply of a tile's request has been taken; the source acknowledges it unless it has sent a retry (R279). -/
def State.tookReply (s : State) (u : Nat) (r : Reply) (retries : Nat) : State :=
  let net := { s.net with replies := s.net.replies.erase r }
  { s with net := if retries = 0 then { net with acks := net.acks ++ [(u, r.seq)] } else net }

/-- MOVER_REPLY (R66, R277): the reply that carries a sent request's tag completes it; a reply to the tile's loader is kept there
(R65). -/
def execMoverReply (tile : TileId) (r : Reply) (collided : List Nat) (s : State) : Out := s.live fun s =>
  let u := tile.unit
  match (s.tile u).mover.find? (fun m => m.seq == r.seq.toNat && m.state == .sent && m.opc == r.opc.toNat) with
  | none =>
    match (s.tile u).loader.find? (fun x => x.seq == r.seq.toNat && x.reply.isNone && r.opc == 1) with
    | some x =>
      .next (if r.inc.toNat = s.incOf u then (s.tookReply u r x.retries).loaderReply u x.seq r.status.toNat r.data else s)
    | none => .next s
  | some m => .next (if r.inc.toNat = s.incOf u then (s.moverReply u m r collided).tookReply u r m.retries else s)

/-- STORE_RELEASE (R275): once every earlier request of its queue has completed, a held store is issued, or ABORTED. -/
def execStoreRelease (tile : TileId) (seq : BitVec 24) (found : LineRead) (s : State) : Out := s.live fun s =>
  let u := tile.unit
  let t := s.tile u
  match t.mover.find? (fun m => m.seq == seq.toNat && m.state == .held) with
  | none => .next s
  | some m => .next (if t.behind m then s else if m.failed then s.completeReq u m 0x03 else s.issueReq u m found)

/-- Whether a store die's hubs reach its system area for a lookup: the die is operational and one of its two hubs runs (R176). -/
def State.sysServes (s : State) (d : Nat) : Bool :=
  s.getF (Reg.sdState d) == 1 && ([2 * d, 2 * d + 1].any fun p => s.getF (Reg.hubState p) == 1 || s.getF (Reg.hubState p) == 2)

/-- The store die whose system area answers a lookup of a granule now (R176): that of its partition, or the mirror's while the
partition's own is in reset, reloads or is held out. None while neither can. -/
def State.entryDie (s : State) (g : Nat) : Option Nat :=
  let d := if s.getF (Reg.sdState (g % 8)) = 1 then g % 8 else (g + 4) % 8
  if s.sysServes d then some d else none

/-- LOOKASIDE_FILL (R68, R176): a fetched entry fills the cache, least recently used first out, and the requests that wait for it
are checked in issue order. While no system
area serves the lookup nothing arrives. An entry that cannot be read completes them POISONED (log entry 127). -/
def execLookasideFill (tile : TileId) (fill : LookFill) (s : State) : Out := s.live fun s =>
  let u := tile.unit
  let g := fill.granule.val
  let wait := (s.tile u).mover.filter fun m => m.state == .entry && granuleOf (gaLa m.ga) == g
  let now := fun (s : State) (m : MReq) => match (s.tile u).mover.find? (fun x => x.seq == m.seq) with | some x => x | none => m
  match s.entryDie g with
  | none => .next s
  | some d =>
    if wait.isEmpty then .next s
    else if g ∈ (s.sdie d).badEntries then .next (wait.foldl (fun s m => s.completeReq u (now s m) 0x40) s)
    else
      let r := s.region g
      let s := s.modTile u fun t => { t with look := ((g, r) :: t.look.filter fun e => e.1 != g).take 128 }
      .next (wait.foldl (fun s m =>
        let m := now s m
        let f := match fill.found.find? fun e => e.1.toNat == m.seq with | some e => e.2 | none => .clean
        if lookOk (r.word s.clk.frame) m.opc then s.passReq u m f else s.completeReq u m 0x11) s)

end Sys2Proof.Machine
end

