-- ==== Sys2Proof/Machine/Sync.lean ====
section
/-!
DEFINITION. Waits, signals and rim instructions at the tile and at its hub (R90-R92, R119-R122, R218-R221).
-/
namespace Sys2Proof.Machine

/-! ## Hubs -/

def Hub.zero : Hub :=
  { resetAt := 0, cause := 0, copied := false, waiters := [], unmirrored := [], accepted := [], rim := [], sets := [],
    spokes := [], spokeNext := 0, arrivals := [], copies := [], spokeEnd := none }
def State.hub (s : State) (p : Nat) : Hub := Tbl.look (fun _ => Hub.zero) s.fab.hubs p
def State.setHub (s : State) (p : Nat) (h : Hub) : State :=
  { s with fab := { s.fab with hubs := Tbl.put (fun _ => Hub.zero) s.fab.hubs p h } }
def State.modHub (s : State) (p : Nat) (f : Hub → Hub) : State := s.setHub p (f (s.hub p))
def RimCh.zero : RimCh := ⟨[], [], [], [], [], false, []⟩
def Hub.chan (h : Hub) (c : Nat) : RimCh := Tbl.look (fun _ => RimCh.zero) h.rim c
def Hub.setChan (h : Hub) (c : Nat) (x : RimCh) : Hub := { h with rim := Tbl.put (fun _ => RimCh.zero) h.rim c x }

/-- A reply leaves for its source. -/
def State.reply (s : State) (r : Reply) : State := { s with net := { s.net with replies := s.net.replies ++ [r] } }

/-- A reply of this node to a unit of this node, with no value. -/
def State.mkReply (s : State) (unit seq opc status : Nat) (value : W64) (saturated : Bool) : Reply :=
  { srcNode := BitVec.ofNat 16 (s.getF Reg.wtyNode), srcUnit := BitVec.ofNat 16 unit, inc := BitVec.ofNat 8 (s.incOf unit),
    seq := BitVec.ofNat 24 seq, opc := BitVec.ofNat 16 opc, status := BitVec.ofNat 8 status, saturated := saturated,
    ledgerHit := false, detail := 0, value := value, data := [] }

/-- The operation code that the model gives to rim operations in the replies that end them and in their ledger
entries: R274 lists none (log entry 151). -/
def opcRim : Nat := 0xFF01

/-! ## Waits that the tile judges itself (R90, R119) -/

/-- The tile stops issue until the condition of `wt` holds; a wait that already holds stops nothing. -/
def State.beginWait (s : State) (u : Nat) (wt : TWait) (holds : Bool) : State :=
  if holds then s else s.modTile u fun t => t.hold wt s.clk.now

/-- WAIT_UNTIL: issue stops until stake time reaches sa (R90). -/
def execWaitUntil (h : SlotHdr) (w : BitVec 22) (s : State) : Out := s.live fun s =>
  .next (s.slot h 0 (fun _ _ => decide (bits w 16 6 = 0 ∧ bits w 0 6 = 0)) fun s u =>
    let t := (s.pre u).s (bits w 11 5)
    s.beginWait u (.untilTime t) (decide (t.toNat ≤ s.clk.now)))

/-- WAITD: issue stops until done counter [21:18] reaches imm12 (R119). -/
def execWaitd (h : SlotHdr) (w : BitVec 22) (s : State) : Out := s.live fun s =>
  .next (s.slot h 0 (fun _ _ => decide (bits w 12 6 = 0)) fun s u =>
    let d := bits w 18 4
    s.beginWait u (.done d (bits w 0 12)) (decide (bits w 0 12 ≤ ((s.tile u).d d).toNat)))

/-- WAITDR: issue stops until done counter [21:18] reaches sa[31:0] (R119). -/
def execWaitdr (h : SlotHdr) (w : BitVec 22) (s : State) : Out := s.live fun s =>
  .next (s.slot h 0 (fun _ _ => decide (bits w 17 1 = 0 ∧ bits w 0 12 = 0)) fun s u =>
    let d := bits w 18 4
    let n := ((s.pre u).s (bits w 12 5)).toNat % 2 ^ 32
    s.beginWait u (.done d n) (decide (n ≤ ((s.tile u).d d).toNat)))

/-! ## Sync counters from the tile (R91, R92, R121) -/

/-- The next REQ_SEQ is taken (R277). -/
def Tile.tookSeq (t : Tile) : Tile := { t with seqNext := (t.seqNext + 1) % 2 ^ 24 }

/-- A counter word (R121): counter ID, node, and whether bits [63:32] are zero. -/
def wordCounter (w : W64) : Nat := w.toNat % 2 ^ 16
def wordNode (w : W64) : Nat := w.toNat / 2 ^ 16 % 2 ^ 16
def wordOk (w : W64) : Bool := decide (w.toNat < 2 ^ 32)

/-- A sync request as it leaves the tile: GA holds the counter word and OPERAND the amount or target (R273). -/
def State.syncReq (s : State) (u seq opc : Nat) (word operand : W64) : Req :=
  let base := s.mkReq u seq opc 0 word 0
  let window := if s.isHere (wordNode word) then 8000 else 64000
  { base with operand := operand, deadline := s.clk.now + 4 * window + 16000 }

/-- WAIT (R91, R121): the wait goes to the primary hub, and issue stops until its reply. -/
def execWait (h : SlotHdr) (w : BitVec 22) (s : State) : Out := s.live fun s =>
  .next (s.slot h 0 (fun _ _ => decide (bits w 16 6 = 0 ∧ bits w 0 6 = 0)) fun s u =>
    let word := (s.pre u).s (bits w 11 5)
    let target := (s.pre u).s (bits w 6 5) &&& 0xFFFFFFFFFFFF#64
    if wordOk word && s.isHere (wordNode word) then
      let seq := (s.tile u).seqNext
      let r := s.syncReq u seq 0x1A word target
      (s.modTile u fun t => t.tookSeq.hold (.counter (wordCounter word) target.toNat seq) s.clk.now).send r
    else s.tileFault u 0x12 1 (wordCounter word))

/-- SIGNAL (R92, R121): the amount goes to the counter, and a signal slot is held until it is acknowledged. -/
def execSignal (h : SlotHdr) (w : BitVec 22) (s : State) : Out := s.live fun s =>
  if s.stalls h (fun t => t.freeSig == 0) then .next s
  else .next (s.slot h 0 (fun _ _ => decide (bits w 16 6 = 0 ∧ bits w 0 6 = 0)) fun s u =>
    let word := (s.pre u).s (bits w 11 5)
    let amount := (s.pre u).s (bits w 6 5) &&& 0xFFFFFFFFFFFF#64
    if wordOk word then
      let seq := (s.tile u).seqNext
      let r := s.syncReq u seq 0x18 word amount
      (s.modTile u fun t =>
        { t.tookSeq with sigs := t.sigs ++ [⟨seq, false, word, amount, 0, r.deadline⟩] }).send r
    else s.tileFault u 0x12 1 (wordCounter word))

/-! ## Rim instructions (R122, R218-R221) -/

/-- Whether a tile's group may use rim channels (R78). -/
def State.rimGranted (s : State) (u : Nat) : Bool :=
  s.on (Reg.grpRimGrant (uDie u) (s.getF (Reg.tileGroup (uDie u) (uSite u))))

/-- Whether a hub takes part in a channel (R221). -/
def State.rimHere (s : State) (p c : Nat) : Bool :=
  s.on (Reg.rimValid p c) && (s.getF (Reg.rimMask p c)).testBit p

/-- The status with which a rim instruction of a tile is refused at once; 0 when it is taken (R122). -/
def State.rimRefusal (s : State) (u c : Nat) : Nat :=
  if !s.rimGranted u then 0x11 else if !s.rimHere (s.hubOf u) c then 0x12 else 0

/-- RIM_BAR (R122, R219): the tile arrives at the channel's barrier with the generation of its hub, and waits. -/
def execRimBar (h : SlotHdr) (w : BitVec 22) (s : State) : Out := s.live fun s =>
  .next (s.slot h 0 (fun _ _ => decide (bits w 0 6 = 0)) fun s u =>
    let c := bits w 16 6
    if s.rimRefusal u c = 0x11 then s.tileFault u 0x11 1 c
    else
      let seq := (s.tile u).seqNext
      let s := s.modTile u fun t => t.tookSeq.hold (.rimBar c seq) s.clk.now
      let p := s.hubOf u
      let gen := s.on (Reg.rimGen p c)
      s.modHub p fun hb =>
        let ch := hb.chan c
        hb.setChan c { ch with inbox := ch.inbox ++ [(u, seq, gen)] })

/-- Ports named by a mask. -/
def portsOf (mask : Nat) : List Nat := (List.range 32).filter fun q => mask.testBit q

def RimNet.zero : RimNet := ⟨false, false, [], []⟩
def State.rimNet (s : State) (c : Nat) : RimNet := Tbl.look (fun _ => RimNet.zero) s.fab.rimNet c
def State.setRimNet (s : State) (c : Nat) (x : RimNet) : State :=
  { s with fab := { s.fab with rimNet := Tbl.put (fun _ => RimNet.zero) s.fab.rimNet c x } }

/-- A message to another node. -/
def State.tell (s : State) (node : Nat) (m : NodeMsg) : State :=
  { s with net := { s.net with msgs := s.net.msgs ++ [(node, m)] } }

/-- A flag value of a channel that extends across nodes goes to the root, or from the root to the nodes it knows (R381). -/
def State.tellNodes (s : State) (c v : Nat) : State :=
  let root := s.getF (Reg.rimRoot c)
  if s.isHere root then (s.rimNet c).known.foldl (fun s n => s.tell n (.rimFlag c v)) s else s.tell root (.rimFlag c v)

/-- A hub takes a flag set (R220): it forwards the value to every port in the mask, and acknowledges the setter once every
one of them has acknowledged. -/
def State.rimSetAt (s : State) (p c unit seq : Nat) (v : W32) : State :=
  let s := if s.on (Reg.rimNodesValid c) then s.tellNodes c v.toNat else s
  s.modHub p fun hb => { hb with sets := hb.sets ++ [⟨unit, seq, c, v, portsOf (s.getF (Reg.rimMask p c))⟩] }

/-- RIM_SET (R122, R220): the flag is set to sa[31:0]; a signal slot is held until it is acknowledged. -/
def execRimSet (h : SlotHdr) (w : BitVec 22) (s : State) : Out := s.live fun s =>
  if s.stalls h (fun t => t.freeSig == 0) then .next s
  else .next (s.slot h 0 (fun _ _ => decide (bits w 0 6 = 0)) fun s u =>
    let c := bits w 16 6
    let v := ((s.pre u).s (bits w 11 5)).setWidth 32
    let st := s.rimRefusal u c
    if st ≠ 0 then s.tileFault u st 1 c
    else
      let seq := (s.tile u).seqNext
      let s := s.modTile u fun t =>
        { t.tookSeq with sigs := t.sigs ++ [⟨seq, true, BitVec.ofNat 64 c, v.setWidth 64, 0, s.clk.now + 48000⟩] }
      s.rimSetAt (s.hubOf u) c u seq v)

/-- RIM_WAITF (R122, R220): the wait is judged against the flag's copy at the tile's hub. -/
def execRimWaitf (h : SlotHdr) (w : BitVec 22) (s : State) : Out := s.live fun s =>
  .next (s.slot h 0 (fun _ _ => decide (bits w 0 6 = 0)) fun s u =>
    let c := bits w 16 6
    let v := ((s.pre u).s (bits w 11 5)).setWidth 32
    let st := s.rimRefusal u c
    if st ≠ 0 then s.tileFault u st 1 c
    else
      let p := s.hubOf u
      if v.toNat ≤ s.getF (Reg.rimFlag p c) then s
      else
        let seq := (s.tile u).seqNext
        let s := s.modTile u fun t => t.tookSeq.hold (.rimFlag c v seq) s.clk.now
        s.modHub p fun hb =>
          let ch := hb.chan c
          hb.setChan c { ch with flagWait := ch.flagWait ++ [(u, seq, v.toNat)] })

/-! ## The end of a wait (R120) and of a signal (R92) -/

/-- The reply of a unit's request, by sequence. -/
def State.replyFor (s : State) (u seq : Nat) : Option Reply :=
  s.net.replies.find? fun r => r.srcUnit.toNat == u && r.seq.toNat == seq && s.isHere r.srcNode.toNat

/-- A reply is delivered. -/
def State.dropReply (s : State) (r : Reply) : State := { s with net := { s.net with replies := s.net.replies.erase r } }

/-- The wait ends, and its cycles are executed cycles and wait cycles (R83, R120). -/
def State.endWait (s : State) (u cycles : Nat) : State :=
  ((s.modTile u fun t => { t with wait := none }).execCycles u cycles).tileBump u 3 cycles

/-- The reply that ends a counter or rim wait: a failing status is recorded, SATURATED is shown (R121). -/
def State.waitReply (s : State) (u addr seq cycles : Nat) : State :=
  match s.replyFor u seq with
  | none => s
  | some r =>
    let s := (s.dropReply r).endWait u cycles
    let s := if r.status = 0 then s else s.tileFault u r.status.toNat 1 addr
    if r.saturated then s.modTile u fun t => t.status tsSYNC else s

/-- WAIT_RESUME (R120): the condition of the tile's wait holds; `cycles` is how long it waited. A wait whose condition does
not hold goes on. -/
def execWaitResume (tile : TileId) (cycles : Nat) (s : State) : Out := s.live fun s =>
  let u := tile.unit
  .next (match (s.tile u).wait with
    | some (.untilTime t) => if t.toNat ≤ s.clk.now then s.endWait u cycles else s
    | some (.done d n) => if n ≤ ((s.tile u).d d).toNat then s.endWait u cycles else s
    | some (.counter c _ seq) => s.waitReply u c seq cycles
    | some (.rimBar c seq) => s.waitReply u c seq cycles
    | some (.rimFlag c _ seq) => s.waitReply u c seq cycles
    | some .refetch => s
    | none => s)

/-- The address that TILE_FAULT shows for a signal slot (R95): the counter ID, or the channel. -/
def Sig.addr (g : Sig) : Nat := wordCounter g.target

/-- SIGNAL_ACKNOWLEDGED (R92, R122): a signal slot frees, and a status other than OK is recorded; the refusal of a rim
operation ends the wait that it was for. The reply leaves the fabric, and the source acknowledges it unless it has sent a
retry (R279). -/
def execSignalAcknowledged (tile : TileId) (seq : BitVec 24) (status : Byte) (saturated : Bool) (s : State) : Out := s.live fun s =>
  let u := tile.unit
  let took := fun (s : State) => match s.replyFor u seq.toNat with | some r => s.dropReply r | none => s
  let shown := fun (s : State) (addr : Nat) =>
    let s := if status = 0 then s else s.tileFault u status.toNat 1 addr
    if saturated then s.modTile u fun t => t.status tsSYNC else s
  .next (match (s.tile u).sigs.find? (fun g => g.seq == seq.toNat) with
    | some g =>
      let s := took s
      let s := s.modTile u fun t => { t with sigs := t.sigs.filter fun x => x.seq != g.seq }
      let s := if g.retries = 0 && !g.rim then { s with net := { s.net with acks := s.net.acks ++ [(u, seq)] } } else s
      shown s g.addr
    | none =>
      match (s.tile u).wait with
      | some (.rimBar c q) => if q = seq.toNat ∧ status ≠ 0 then shown ((took s).endWait u 0) c else s
      | some (.rimFlag c _ q) => if q = seq.toNat ∧ status ≠ 0 then shown ((took s).endWait u 0) c else s
      | _ => s)

end Sys2Proof.Machine
end

