-- ==== Sys2Proof/Machine/Fabric.lean ====
section
/-!
DEFINITION. The links of the fabric: flits, credits, replay, lanes and pairs (R184-R203).
-/
namespace Sys2Proof.Machine

/-! ## Pairs (R187-R189, R197) -/

/-- The receive buffer of each class (R197). -/
def fullCredits : List Nat := [40, 40, 40, 2]
def Pair.zero : Pair :=
  { trained := false, nextSeq := 0, replay := [], expect := 0, nakAt := none, credits := fullCredits, owed := [0, 0, 0, 0],
    masked := 0, pl8 := none, ackAt := 0, bulk := false, inputs := [0, 0, 0, 0], failed := false, errors := [], stream := [],
    cwSeq := 0, cw := [] }
def State.pair (s : State) (p q : Nat) : Pair := Tbl.look (fun _ => Pair.zero) s.fab.pairs (32 * p + q)
def State.setPair (s : State) (p q : Nat) (x : Pair) : State :=
  { s with fab := { s.fab with pairs := Tbl.put (fun _ => Pair.zero) s.fab.pairs (32 * p + q) x } }
def State.modPair (s : State) (p q : Nat) (f : Pair → Pair) : State := s.setPair p q (f (s.pair p q))

/-- The colour of an ordered pair (R185). -/
def pairColour (p q : Nat) : Nat := (q + 32 - p) % 32
/-- The port that a receiver hears on a colour (R185). -/
def heardPort (port colour : Nat) : Nat := (port + 32 - colour) % 32

/-- Full width of a profile (R188). -/
def profileWidth (profile : Nat) : Nat := match profile with | 1 => 6 | 3 => 4 | _ => 8
def State.fullWidth (s : State) : Nat := profileWidth (s.getF Reg.glbPlanesOf)

/-- Whether a hub runs its links: it is operational or retraining, and its region is not stopped (R57, R222). -/
def State.hubUp (s : State) (p : Nat) : Bool :=
  let st := s.getF (Reg.hubState p)
  (st == 1 || st == 2) && !(s.clk.stopped.any fun u => u == 0x1000 + p)

/-- Whether a hub serves: it is operational and its region is not stopped (R57, R227). -/
def State.hubServes (s : State) (p : Nat) : Bool := s.getF (Reg.hubState p) == 1 && s.hubUp p

/-- A hub has discarded a flit or a request whose incarnation is not current (R194, R229): it counts, and the frame's event
names the first source die. -/
def State.stale (s : State) (p unit inc : Nat) : State :=
  let die := s.dieOf unit
  (s.bump (Reg.hubCnt p 7) 1).accum 0x200C (0x1000 + p) [s.clk.frame, die, inc, 1] fun same d => match d with
    | [f, a, i, n] => if same && decide (die < a) then [f, die, inc, n + 1] else [f, a, i, n + 1]
    | d => d

/-- Whether a pair has failed (R203): its width is below half of the full width. -/
def State.pairFailed (s : State) (p q : Nat) : Bool := decide (2 * s.getF (Reg.pairWidthF p q) < s.fullWidth)

/-- The lanes of a pair (R187, R201, R202): its active planes that are not masked, and its PL8 lane while PL8 replaces a
plane for all pairs or a lane of this pair. -/
def State.laneSet (s : State) (p q : Nat) : Nat :=
  let x := s.pair p q
  let active := s.getF (Reg.planeActive p)
  ((List.range 8).filter fun i => active.testBit i && !x.masked.testBit i).foldl (fun a i => a + 2 ^ i) 0 +
    (if (active.testBit 8 || x.pl8.isSome) && !x.masked.testBit 8 then 256 else 0)

/-! ## Launching (R192, R195, R197, R198, R203) -/

/-- Whether the fabric carries flits (R6): it is not DARK. -/
def State.carries (s : State) : Bool := s.getF Reg.fabric != 0 || !s.on Reg.glbReady

/-- Whether a port's spare ring serves colour 0 for self-test now (R186, R239). -/
def State.selfTest (s : State) (p : Nat) : Bool :=
  (List.range 9).any fun plane => s.getF (Reg.heatState (66 * (9 * p + plane) + 31)) == 6

/-- The lanes of a pair in the order in which symbols are dealt to them (R190): PL8 at the place of the plane it replaces. -/
def State.laneOrder (s : State) (p q : Nat) : List Nat :=
  let lanes := s.getF (Reg.pairLanes p q)
  let stand := match (s.pair p q).pl8 with | some x => x | none => s.getF (Reg.pl8For p)
  let order := (List.range 8).filterMap fun i =>
    if lanes.testBit i then some i else if i = stand ∧ lanes.testBit 8 then some 8 else none
  if order.isEmpty then [0] else order

/-- The width with which a pair's codewords are dealt. -/
def State.cwWidth (s : State) (p q : Nat) : Nat := (s.laneOrder p q).length

/-- A flit joins the stream of its pair; 640 bytes make a codeword, whose PHASE says where a flit begins in it (R190). -/
def Pair.coded (x : Pair) (w : Nat) (f : Flit) : Pair :=
  let stream := x.stream ++ bytesOfNat 256 f.toNat
  if stream.length < 640 then { x with stream := stream }
  else
    let phase := if x.cwSeq % 2 = 0 then 0 else 1
    { x with stream := stream.drop 640, cwSeq := x.cwSeq + 1, cw := codeword w phase x.cwSeq stream }

/-- A list of four counts with one replaced. -/
def setNth (l : List Nat) (i v : Nat) : List Nat := l.set i v

/-- Where the next hop of a flit from p to q goes (R203). -/
def State.nextHop (s : State) (p q : Nat) : Option Nat :=
  if s.on (Reg.pairRelayed p q) then some (s.getF (Reg.pairRelayPort p q))
  else if s.pairFailed p q then none else some q

/-- Whether a pair takes a launch apart from credit: both hubs run, it is trained, and its replay buffer has room. -/
def State.pairOpen (s : State) (p q : Nat) : Bool :=
  s.hubUp p && s.hubUp q && (s.pair p q).trained && decide ((s.pair p q).replay.length < 48)

/-- A sequenced flit leaves on the pair (p, q) (R192, R195): the encoder writes the fields of the hop, the credits it
returns, and the CRC; a KIND 7 flit keeps its final port. -/
def State.sendFlit (s : State) (p q tc kind dest : Nat) (f : Flit) : State :=
  let rev := s.pair q p
  let ctc := flitCreditTc f
  let n := min (flitCredit f) (rev.owed.getD ctc 0)
  let x := s.pair p q
  let f := fput (fput (fput f 0 5 dest) 5 3 kind) 13 2 tc
  let f := fput (fput (fput f 64 12 x.nextSeq) 76 12 (rev.expect + 4095)) 88 6 n
  let f := fput f 2016 32 (crcOf f)
  let s := s.setPair q p { rev with owed := setNth rev.owed ctc (rev.owed.getD ctc 0 - n) }
  let s := s.modPair p q fun x =>
    { x.coded (s.cwWidth p q) f with
      nextSeq := (x.nextSeq + 1) % 4096, replay := x.replay ++ [(x.nextSeq, f)],
      credits := setNth x.credits tc (x.credits.getD tc 0 - 1), ackAt := if x.replay.isEmpty then s.clk.now else x.ackAt }
  s.bump (Reg.hubCnt p 0) 1

/-- Whether a launch holds its credit (R197). -/
def State.hasCredit (s : State) (p q tc : Nat) : Bool := decide (0 < (s.pair p q).credits.getD tc 0)

/-- The classes in the order in which a slot serves them (R198): rim, replies, then requests and bulk alternately. Replays and
KIND 5 flits, which come before replies, leave with the commands that bring them about. -/
def Pair.order (x : Pair) : List Nat := if x.bulk then [3, 1, 2, 0] else [3, 1, 0, 2]

/-- The inputs of a hub in the order in which a class takes its next flit from them: after the one served last (R198). -/
def Pair.inputOrder (x : Pair) (tc : Nat) : List Nat := (List.range 3).map fun i => (x.inputs.getD tc 0 + 1 + i) % 3

/-- The flit that a slot takes (R198): of the first class that has a ready flit and credit, the first of the input whose turn it
is. -/
def Pair.pick (x : Pair) (ready : List ReadyFlit) : Option ReadyFlit :=
  x.order.findSome? fun tc =>
    if x.credits.getD tc 0 = 0 then none
    else (x.inputOrder tc).findSome? fun i => ready.find? fun f => f.tc.val == tc && f.input.val == i

/-- The turns after a slot: those of the class's inputs, and of TC0 and TC2 where both had a flit and credit. -/
def Pair.tookTurn (x : Pair) (ready : List ReadyFlit) (f : ReadyFlit) : Pair :=
  let could := fun (tc : Nat) => decide (0 < x.credits.getD tc 0) && ready.any fun g => g.tc.val == tc
  { x with inputs := setNth x.inputs f.tc f.input,
           bulk := if could 0 && could 2 && (f.tc == 0 || f.tc == 2) then f.tc == 0 else x.bulk }

/-- Whether a flit can be ready for a pair: KIND 1 to 4 or 7 between two ports, KIND 6 on colour 0 alone (R186). -/
def launchable (src dst : Nat) (f : Flit) : Bool :=
  if src = dst then flitKind f == 6 else flitKind f != 0 && flitKind f != 5 && flitKind f != 6

/-- The follow-up copies that wait at a hub for a port, as ready flits of its own engines. -/
def State.readyCopies (s : State) (p q : Nat) : List ReadyFlit :=
  ((s.hub p).copies.filter fun c => c.port == q).map fun c => ⟨2, Fin.ofNat 4 c.tc, c.flit⟩

/-- A follow-up copy has left, or no such copy waits (R208): the request that it carries is on its way. -/
def State.copyLeft (s : State) (p q : Nat) (f : Flit) : State :=
  match (s.hub p).copies.find? (fun c => c.port == q && c.flit == f) with
  | some c => (s.modHub p fun h => { h with copies := h.copies.erase c }).send c.req
  | none => s

/-- Whether a launch on a pair is possible apart from credit: between two ports the pair is open and the fabric not DARK; on
colour 0 the port's self-test runs (R186). -/
def State.launchFree (s : State) (p q : Nat) : Bool :=
  if p = q then s.hubUp p && s.selfTest p && decide ((s.pair p q).replay.length < 48) else s.carries && s.pairOpen p q

/-- Where the flits from p to q go next: colour 0 brings self-test flits back to their sender. -/
def State.launchHop (s : State) (p q : Nat) : Option Nat := if p = q then some q else s.nextHop p q

/-- FLIT_LAUNCH (R198): of the flits that are ready for port dst at the vertical link and in the hub, those of the hub's queued
follow-up copies among them, the slot takes one by the selection order; it leaves through the relay while the pair is relayed (R203). A slot in which a ready
flit lacks credit counts in CREDIT_WAIT. -/
def execFlitLaunch (src dst : PortN) (link own : List ReadyFlit) (s : State) : Out := s.live fun s =>
  let p := src.val
  let q := dst.val
  .next (match s.launchHop p q with
    | none => s
    | some hop =>
      let ready := (link ++ own ++ s.readyCopies p q).filter fun f => launchable p q f.flit
      if !s.launchFree p hop then s
      else
        let s := if ready.all fun f => s.hasCredit p hop f.tc then s else s.bump (Reg.hubCnt p 8) 1
        match (s.pair p hop).pick ready with
        | none => s
        | some f =>
          let kind := flitKind f.flit
          let s := s.modPair p hop fun x => x.tookTurn ready f
          let s := (s.sendFlit p hop f.tc (if hop = q then kind else 7) q f.flit).copyLeft p q f.flit
          if kind = 7 then s.bump (Reg.hubCnt p 9) 1 else s)

/-! ## Acknowledgement and replay (R195) -/

/-- Flits up to and including an acknowledged sequence leave the replay buffer. -/
def Pair.acked (x : Pair) (seq now : Nat) : Pair :=
  if x.replay.any (fun e => e.1 == seq) then { x with replay := (x.replay.dropWhile fun e => e.1 != seq).drop 1, ackAt := now } else x

/-- Credits return to the sender. -/
def Pair.returned (x : Pair) (tc n : Nat) : Pair := { x with credits := setNth x.credits tc (x.credits.getD tc 0 + n) }

/-- Flits from a sequence on are replayed, each counted (R195): they join the pair's stream again. -/
def State.replayFrom (s : State) (p q seq : Nat) : State :=
  let again := (s.pair p q).replay.dropWhile fun e => e.1 != seq
  let w := s.cwWidth p q
  let s := s.modPair p q fun x => { again.foldl (fun (x : Pair) e => x.coded w e.2) x with ackAt := s.clk.now }
  s.bump (Reg.hubCnt p 2) again.length

/-- LINK_CONTROL_FLIT (R195, R197): a KIND 5 flit reaches src from dst, with the acknowledgement, the NAK and the credits of
the pair (src, dst). -/
def execLinkControlFlit (src dst : PortN) (ackSeq : BitVec 12) (nak : Option (BitVec 12)) (credits : List Nat) (s : State) :
    Out := s.live fun s =>
  if !s.hubUp src ∨ !s.hubUp dst ∨ !(s.pair src dst).trained then .next s
  else
    let s := s.modPair src dst fun x =>
      (List.range 4).foldl (fun (x : Pair) tc =>
        let n := min (credits.getD tc 0) (x.owed.getD tc 0)
        { x.returned tc n with owed := setNth x.owed tc (x.owed.getD tc 0 - n) }) (x.acked ackSeq.toNat s.clk.now)
    .next (match nak with
      | some q => s.replayFrom src dst q.toNat
      | none => s)

/-- REPLAY_TIMEOUT (R195): 256 st have passed without an acknowledgement, and the sender replays all it holds. -/
def execReplayTimeout (src dst : PortN) (s : State) : Out := s.live fun s =>
  let x := s.pair src dst
  .next (match x.replay with
    | [] => s
    | e :: _ => if s.hubUp src ∧ x.trained ∧ x.ackAt + 256 ≤ s.clk.now then s.replayFrom src dst e.1 else s)

/-! ## Receiving (R186, R191-R195) -/

/-- A NAK for the expected sequence, unless one was sent within 256 st (R195). -/
def State.sendNak (s : State) (p q : Nat) : State :=
  s.modPair p q fun x =>
    match x.nakAt with
    | some t => if s.clk.now < t + 256 then x else { x with nakAt := some s.clk.now }
    | none => { x with nakAt := some s.clk.now }

/-- The acknowledgement and the credits in a flit's header reach the reverse pair (R192, R197). -/
def State.headerBack (s : State) (src port : Nat) (f : Flit) : State :=
  s.modPair port src fun x => (x.acked (flitAckSeq f) s.clk.now).returned (flitCreditTc f) (flitCredit f)

/-- The flit is taken in order (R195): its sequence is acknowledged, its buffer place frees, and the acknowledgement and
the credits that it carries reach the reverse pair. -/
def State.takeFlit (s : State) (src port : Nat) (f : Flit) : State :=
  let tc := flitTc f
  let s := s.modPair src port fun x =>
    { x with expect := (x.expect + 1) % 4096, nakAt := none, owed := setNth x.owed tc (x.owed.getD tc 0 + 1) }
  s.headerBack src port f

/-- A discarded flit that counts in DEST_MISMATCH. -/
def State.mismatch (s : State) (port : Nat) : State := s.bump (Reg.hubCnt port 6) 1

/-- The lane errors of a codeword of the pair (src, p) (R191, R196): each counts at the receiver, which remembers those of
the last 1 ms. -/
def State.laneErrors (s : State) (src p : Nat) (c : CwRead) : State :=
  let order := s.laneOrder src p
  let planes := (cwLaneErrors c order.length).map fun i => order.getD i 0
  let s := s.modPair src p fun x =>
    { x with errors := x.errors.filter (fun e => decide (s.clk.now < e.2 + 1000000)) ++ planes.map fun l => (l, s.clk.now) }
  if planes.isEmpty then s else s.bump (Reg.hubCnt p 19) planes.length

/-- A codeword of the pair (src, p) is decoded (R191): its corrected symbols count, or it counts as uncorrectable. -/
def State.decoded (s : State) (src p : Nat) (c : CwRead) : State :=
  if !c.fresh then s
  else
    let s := s.laneErrors src p c
    if c.failed then s.bump (Reg.hubCnt p 5) 1
    else if c.corrected.isEmpty then s else s.bump (Reg.hubCnt p 4) c.corrected.length

/-- The lines that a LOAD of a tile or an engine asked for. -/
def State.linesAsked (s : State) (unit seq lines : Nat) : Nat :=
  match s.net.reqs.find? (fun r => r.srcUnit.toNat == unit && r.seq.toNat == seq),
      (s.tile unit).mover.find? (fun m => m.seq == seq), (s.tile unit).loader.find? (fun x => x.seq == seq),
      s.engine.find? (fun e => e.unit == unit && e.seq == seq) with
  | some r, _, _, _ => r.lines
  | none, some m, _, _ => m.lines
  | none, none, some x, _ => x.lines
  | none, none, none, some e => e.req.lines
  | none, none, none, none => lines

/-- A message all of whose flits a hub has accepted is assembled (R273): a request reaches its target, a reply its source, where
neither stands there already. REPLY_ACK has a command of its own. -/
def State.assembleAt (s : State) (p : Nat) (f : Flit) : State :=
  if flitKind f = 4 ∨ flitKind f = 6 ∨ flitOpc f = 0x21 then s
  else
    match completeMessage (s.hub p).accepted f with
    | none => s
    | some (first, rest) =>
      let s := s.modHub p fun h => { h with accepted := h.accepted.filter fun g => !(sameMessage f g && (g == first || rest.any (· == g))) }
      if flitTc f = 1 then
        let r := replyOfFlits (s.getF Reg.wtyNode) (s.linesAsked (flitUnit first) (flitReqSeq first) (replyLines (flitCount first))) first rest
        let known := s.net.replies.any fun x => x.srcNode == r.srcNode && x.srcUnit == r.srcUnit && x.seq == r.seq && x.inc == r.inc
        if known then s else { s with net := { s.net with replies := s.net.replies ++ [r] } }
      else
        let r := reqOfFlits 0xFFFF first rest
        if r ∈ s.net.reqs then s else s.send r

/-- Whether a hub hears a flit on a colour (R6, R186, R189): the pair is trained and the fabric not DARK, or the port's self-test
runs on colour 0. -/
def State.hears (s : State) (src p : Nat) : Bool :=
  s.hubUp p && (if src = p then s.selfTest p else s.carries && (s.pair src p).trained)

/-- FLIT_RECEIVE: the checks of R193, in order. The flit begins in the codeword `word` and goes on in `more`, as
decoded (R191). -/
def execFlitReceive (port : PortN) (colour : PortN) (flit : Flit) (word : CwRead) (more : List CwRead) (s : State) : Out := s.live fun s =>
  let words := word :: more
  let p := port.val
  let src := heardPort p colour
  let kind := flitKind flit
  if !s.hears src p then .next s
  else
    let s := words.foldl (fun s c => s.decoded src p c) s
    if words.any (fun c => c.failed) ∨ crcOf flit ≠ flitCrc flit then .next ((s.bump (Reg.hubCnt p 3) 1).sendNak src p)
    else if kind = 0 ∨ kind = 5 then .next (s.headerBack src p flit)
    else if (kind = 6) ≠ (colour = 0) then .next (s.mismatch p)
    else if 1 ≤ kind ∧ kind ≤ 4 ∧ (flitDest flit ≠ p ∨ flitSrc flit ≠ src) then
      let first := flitSrc flit
      .next ((s.mismatch p).accum 0x2007 (0x1000 + p) [s.clk.frame, 1, first, colour.val] fun same d => match d with
        | [f, n, a, c] => if same && decide (first < a) then [f, n + 1, first, colour.val] else [f, n + 1, a, c]
        | d => d)
    else if flitLinkSeq flit ≠ (s.pair src p).expect then .next (s.sendNak src p)
    else
      let s := s.takeFlit src p flit
      if flitInc flit ≠ s.incOf (flitUnit flit) then .next (s.stale p (flitUnit flit) (flitInc flit))
      else
        let s := (s.bump (Reg.hubCnt p 1) 1).modHub p fun h => { h with accepted := h.accepted ++ [flit] }
        .next (if kind = 7 then s else s.assembleAt p flit)

/-! ## Lanes, planes and pairs (R189, R196, R200-R203) -/

/-- HUB_STATUS.DEGRADED of a port, and the FABRIC bit (R227, R389, R390): a trained pair is below full width or relayed, or
a lane stays masked (R247). -/
def State.refreshFabric (s : State) (p : Nat) : State :=
  let low := (List.range 32).any fun q =>
    q != p && (s.pair p q).trained && (decide (s.getF (Reg.pairWidthF p q) < s.fullWidth) || s.on (Reg.pairRelayed p q))
  let s := s.setB (Reg.hubDegraded p) low
  s.setDegraded 3 (!s.fab.lost.isEmpty || (List.range 32).any fun q => s.on (Reg.hubDegraded q))

/-- The relay of a failed pair (R203): the lowest other port whose two pairs run at full width. -/
def State.relayFor (s : State) (p q : Nat) : Option Nat :=
  (List.range 32).find? fun r => r != p && r != q && (s.pair p r).trained && (s.pair r q).trained &&
    s.getF (Reg.pairWidthF p r) == s.fullWidth && s.getF (Reg.pairWidthF r q) == s.fullWidth

/-- Shows the relay of a failed pair. -/
def State.showRelay (s : State) (p q : Nat) : State :=
  match s.relayFor p q with
  | some r => (s.setB (Reg.pairRelayed p q) true).setF (Reg.pairRelayPort p q) r
  | none => (s.setB (Reg.pairRelayed p q) false).setF (Reg.pairRelayPort p q) 0

/-- The relays of the pairs that have failed follow the widths of the others (R203). -/
def State.refreshRelays (s : State) : State :=
  s.fab.pairs.foldl (fun s e =>
    let p := e.1 / 32
    let q := e.1 % 32
    if e.2.trained && s.pairFailed p q then s.showRelay p q else s) s

/-- A pair starts training: launches are held and its replay buffer is kept (R189). -/
def State.retrain (s : State) (p q : Nat) : State :=
  if (s.pair p q).trained then (s.modPair p q fun x => { x with trained := false }).bump (Reg.hubCnt p 20) 1 else s

/-- A lane is masked (R200, R201). -/
def State.maskLane (s : State) (p q plane : Nat) : State :=
  if (s.pair p q).masked.testBit plane then s
  else
    let s := s.modPair p q fun x =>
      { x with masked := setBit x.masked plane true, pl8 := if plane = 8 then none else x.pl8 }
    s.retrain p q

/-- A masked lane returns: the pair retrains onto it and frees a PL8 lane that stood in for it (R201). -/
def State.unmaskLane (s : State) (p q plane : Nat) : State :=
  let s := s.modPair p q fun x =>
    { x with masked := setBit x.masked plane false, pl8 := if x.pl8 = some plane then none else x.pl8 }
  let s := s.setF (Reg.pairSuspect p q) (setBit (s.getF (Reg.pairSuspect p q)) plane false)
  let s := { s with fab := { s.fab with lost := s.fab.lost.filter fun l => l != 9 * (32 * p + q) + plane } }
  s.retrain p q

/-- Whether PL8's lane of a pair can take a masked lane's place (R201, R202): not that of a lane masked for want of its laser
(R237). -/
def State.pl8Free (s : State) (p q plane : Nat) : Bool :=
  let x := s.pair p q
  decide (plane < 8) && x.masked.testBit plane && x.pl8.isNone && !x.masked.testBit 8 && s.getF (Reg.pl8For p) == 15 &&
    !s.light.laserMasked.contains (9 * (32 * p + q) + plane)

/-- PL8's lane takes a masked lane's place (R201). -/
def State.spareLane (s : State) (p q plane : Nat) : State :=
  if s.pl8Free p q plane then
    let s := (s.modPair p q fun x => { x with pl8 := some plane }).retrain p q
    s.raise 0x2003 (0x1000 + p) [p, pairColour p q, plane]
  else s

/-- Lane errors of a pair's lane within the last 1 ms (R196). -/
def State.recentErrors (s : State) (p q plane : Nat) : Nat :=
  ((s.pair p q).errors.filter fun e => e.1 == plane && decide (s.clk.now < e.2 + 1000000)).length

/-- LANE_SUSPECT (R196): a lane has met eight lane errors within 1 ms; the pair retrains without it, with its PL8 lane at once
while PL8 is pre-warmed (R201). `errors` is their number, as the receiver has counted it (log entry 10). -/
def execLaneSuspect (src dst : PortN) (plane : PlaneN) (errors : Nat) (s : State) : Out := s.live fun s =>
  let p := src.val
  let q := dst.val
  if errors ≠ s.recentErrors p q plane ∨ p = q ∨ (s.getF (Reg.pairSuspect p q)).testBit plane ∨ errors < 8 then .next s
  else
    let s := s.setF (Reg.pairSuspect p q) (setBit (s.getF (Reg.pairSuspect p q)) plane true)
    let s := s.raise 0x2001 (0x1000 + q) [p, pairColour p q, plane.val, errors]
    let s := s.maskLane p q plane
    .next (if s.on (Reg.prewarm p) then s.spareLane p q plane else s)

/-- PAIR_RETRAIN (R189): a pair in service starts training. -/
def execPairRetrain (src dst : PortN) (s : State) : Out := s.live fun s => .next (s.retrain src dst)

/-- A pair trains on its lane set (R189, R200), and fails or recovers by its width (R203). -/
def State.trainPair (s : State) (p q : Nat) : State :=
  if p = q ∨ (s.pair p q).trained ∨ !s.hubUp p ∨ !s.hubUp q ∨ !s.carries then s
  else
    let lanes := s.laneSet p q
    let w := popcount 9 lanes
    let full := s.fullWidth
    let was := s.getF (Reg.pairLanes p q)
    let failedBefore := (s.pair p q).failed
    let s := (s.setF (Reg.pairLanes p q) lanes).setF (Reg.pairWidthF p q) w
    let s := s.modPair p q fun x => { x with trained := true, credits := fullCredits, owed := [0, 0, 0, 0], failed := decide (2 * w < full) }
    let s := match (s.pair p q).replay with
      | [] => s
      | e :: _ => s.replayFrom p q e.1
    let s := if lanes = was then s else s.raise 0x2002 (0x1000 + p) [p, q, w, lanes]
    if 2 * w < full then
      let s := s.showRelay p q
      let r := if s.on (Reg.pairRelayed p q) then s.getF (Reg.pairRelayPort p q) else 0xFF
      if failedBefore then s else s.raise 0x2005 (0x1000 + p) [p, q, r]
    else
      let s := (s.setB (Reg.pairRelayed p q) false).setF (Reg.pairRelayPort p q) 0
      if failedBefore then s.raise 0x2006 (0x1000 + p) [p, q, w] else s

/-- A pair trains, and the relays and the FABRIC bit follow. -/
def State.pairTrained (s : State) (p q : Nat) : State := ((s.trainPair p q).refreshRelays).refreshFabric p

/-- The links of a compute hub in reset have retrained (R223): it reloads, STATE 2. -/
def State.hubRetrained (s : State) (p : Nat) : State :=
  if p < 16 ∧ s.getF (Reg.hubState p) = 0 ∧ 3 ≤ s.getF Reg.glbPhase then
    (s.setF (Reg.hubState p) 2).setB (Reg.hubCtrlReset p) false
  else s

/-- PAIR_WIDTH (R200): a pair finishes training. The first pair of a compute hub to do so ends its reset (R223). -/
def execPairWidth (src dst : PortN) (s : State) : Out := s.live fun s => .next ((s.hubRetrained src).pairTrained src dst)

/-- Every pair of the package, by its ports. -/
def allPairs : List (Nat × Nat) := (List.range 32).flatMap fun p => (List.range 32).filterMap fun q => if p = q then none else some (p, q)

/-- Every pair trains. -/
def State.trainAll (s : State) : State :=
  let s := (allPairs.foldl (fun s e => s.trainPair e.1 e.2) s).refreshRelays
  (List.range 32).foldl (fun s p => s.refreshFabric p) s

/-- Replaces a field of PLANE_MAP in every hub. -/
def State.setPlaneMap (s : State) (f : Nat → Fld) (v : Nat) : State := (List.range 32).foldl (fun s p => s.setF (f p) v) s

/-- A whole plane is lost (R202): PL8 replaces it for every pair unless PL8 replaces another, and the pairs retrain. -/
def State.losePlane (s : State) (plane : Nat) : State :=
  let failed := s.getF (Reg.planeFailed 0)
  if failed.testBit plane then s
  else
    let s := s.setPlaneMap Reg.planeFailed (setBit failed plane true)
    let active := s.getF (Reg.planeActive 0)
    let takes := decide (plane < 8) && s.getF (Reg.pl8For 0) == 15 && !failed.testBit 8 && active.testBit plane
    let s := if takes then
        (s.setPlaneMap Reg.pl8For plane).setPlaneMap Reg.planeActive (setBit (setBit active plane false) 8 true)
      else s.setPlaneMap Reg.planeActive (setBit active plane false)
    let s := allPairs.foldl (fun s e => s.retrain e.1 e.2) s
    if takes then s.raise 0x2004 0x101C [plane] else s

end Sys2Proof.Machine
end

