-- ==== Sys2Proof/Machine/Routes.lean ====
section
/-!
DEFINITION. Route tables: which fibres carry a flit to another node (R373).
-/
namespace Sys2Proof.Machine

/-- A route-table entry (R373): its words. -/
def State.routeEntry (s : State) (version node : Nat) : W32 × W32 :=
  Tbl.look (fun _ => (0, 0)) s.withy.routes (65536 * version + node)
def routeValid (e : W32 × W32) : Bool := e.2.getLsbD 31
def routeLevel (e : W32 × W32) : Nat := e.2.toNat / 2 ^ 16 % 2
def routeNext (e : W32 × W32) : Nat := e.2.toNat % 2 ^ 16

/-- A fibre runs: STATE is 2 or 3. -/
def State.fibreUp (s : State) (n f : Nat) : Bool := s.getF (Reg.fibState n f) == 2 || s.getF (Reg.fibState n f) == 3

/-- A fibre runs to a node: by its number 16 n + f. -/
def State.fibreTo (s : State) (k node : Nat) : Bool :=
  s.fibreUp (k / 16) (k % 16) && s.getF (Reg.fibPeerNode (k / 16) (k % 16)) == node

/-- The fibres usable for a destination node by a version of the table (R373), by number 16 n + f. -/
def State.usableFibres (s : State) (version node : Nat) : List Nat :=
  let e := s.routeEntry version node
  if routeValid e && s.on Reg.wtyAligned && node != s.getF Reg.wtyNode && node != 0xFFFF then
    (List.range 32).filter fun k => e.1.getLsbD k && s.fibreTo k (routeNext e)
  else []

/-- WTY_TIME_OFFSET (R379, R383): a signed 64-bit number in two registers. -/
def State.wtyOffset (s : State) : Int := (BitVec.ofNat 64 (s.getF Reg.wtyOffsetLo + s.getF Reg.wtyOffsetHi * 2 ^ 32)).toInt

/-- The node of a request's target: that of its counter word or of its address. -/
def reqNode (r : Req) : Nat := if r.opc.toNat / 8 = 3 then wordNode r.ga else gaNode (aimOf r.opc.toNat r.ga)

end Sys2Proof.Machine
end

