-- ==== Sys2Proof/Machine/Desc.lean ====
section
/-!
DEFINITION. Descriptors and their completion (R331-R336, R350): the operations that rings, courses and plaits share.
-/
namespace Sys2Proof.Machine

def Sq.zero : Sq := ⟨0, [], [], 0, 0, 0, 0⟩
def State.sq (s : State) (n : Nat) : Sq := Tbl.look (fun _ => Sq.zero) s.host.sq n
def State.setSq (s : State) (n : Nat) (q : Sq) : State :=
  { s with host := { s.host with sq := Tbl.put (fun _ => Sq.zero) s.host.sq n q } }
def State.modSq (s : State) (n : Nat) (f : Sq → Sq) : State := s.setSq n (f (s.sq n))
def Cq.zero : Cq := ⟨0, [], 0, 0⟩
def State.cq (s : State) (m : Nat) : Cq := Tbl.look (fun _ => Cq.zero) s.host.cq m
def State.setCq (s : State) (m : Nat) (q : Cq) : State :=
  { s with host := { s.host with cq := Tbl.put (fun _ => Cq.zero) s.host.cq m q } }
def State.modCq (s : State) (m : Nat) (f : Cq → Cq) : State := s.setCq m (f (s.cq m))

/-- The unit whose ID a ring's requests carry (R348). -/
def ringUnit (n : Nat) : Nat := 0x1300 + n

/-- `len` bytes of a line from byte `off`. -/
def dfield (l : Line) (off len : Nat) : Nat := l.toNat / 2 ^ (8 * off) % 2 ^ (8 * len)

def descOpcode (l : Line) : Nat := dfield l 0 2
def descFlag (l : Line) (i : Nat) : Bool := (dfield l 2 1).testBit i
def descTag (l : Line) : Nat := dfield l 4 4

/-- A started descriptor of a ring, by number. -/
def State.started (s : State) (n num : Nat) : Option Started := (s.sq n).started.find? fun d => d.num == num

def State.modStarted (s : State) (n num : Nat) (f : Started → Started) : State :=
  s.modSq n fun q => { q with started := q.started.map fun d => if d.num = num then f d else d }

/-- A descriptor leaves its ring: STARTED and INFLIGHT count the started descriptors (R356). -/
def State.countStarted (s : State) (n : Nat) : State :=
  let q := s.sq n
  let total := (s.host.sq.map fun e => e.2.started.length).sum
  (s.setF (Reg.sqStarted n) (min 255 q.started.length)).setF Reg.ringInflight (min 4096 total)

/-- Tells the FENCEs that wait for a descriptor that it has completed (R347). -/
def Started.heard (now : Nat) (id : Nat × Nat) (d : Started) : Started :=
  if id ∈ d.waits then { d with waits := d.waits.erase id, latest := max d.latest now } else d

/-- A frame with records waiting counts once in CQ_FULL_WAITS (R351). -/
def State.countFull (s : State) : State :=
  if s.host.fullFrame = some s.clk.frame then s
  else { s with host := { s.host with fullFrame := some s.clk.frame } }.bump (Reg.ringCnt 7) 1

/-- Whether records wait for a slot of a completion ring (R351). -/
def State.fullWaits (s : State) (m : Nat) : Bool := !(s.cq m).waiting.isEmpty && s.on (Reg.cqFull m)

/-- Records wait for a slot: the frame counts, and CQ_FULL is raised (R351, R359). -/
def State.noteFull (s : State) (m : Nat) : State :=
  if s.fullWaits m then s.countFull.raiseLimited 0x6003 (0x1200 + s.controller) m [m, (s.cq m).waiting.length] else s

/-- A started descriptor completes (R350): it counts, its record waits for room unless it is QUIET and OK, and the
descriptors behind it learn of a status other than OK (R334). -/
def State.finish (s : State) (n num status flags progress detail : Nat) : State :=
  match s.started n num with
  | none => s
  | some d =>
    if d.finished then s
    else
      let s := s.bump (Reg.ringCnt 1) 1
      let s := if status = 0 then s else s.bump (Reg.ringCnt 2) 1
      let quiet := descFlag d.line 2 && status == 0
      let heard := s.host.sq.map fun e => (e.1, { e.2 with started := e.2.started.map (Started.heard s.clk.now (n, num)) })
      let s := { s with host := { s.host with sq := heard } }
      let draining := s.getF (Reg.sqState n) == 2
      let s := s.modSq n fun q =>
        { q with started := if quiet then q.started.filter (fun x => x.num != num)
                            else q.started.map fun x => if x.num = num then { x with finished := true } else x,
                 queue := if status = 0 then q.queue else q.queue.map fun x => { x with failedPrev := true },
                 notStarted := q.notStarted + (if draining && status == 0x02 then 1 else 0),
                 partials := q.partials + (if draining && status == 0x01 then 1 else 0) }
      let s := s.countStarted n
      if quiet then s
      else
        let s := s.modCq (s.getF (Reg.sqCq n)) fun c =>
          { c with waiting := c.waiting ++
              [⟨n, num, descTag d.line, status, flags + (if d.redone then 4 else 0), progress, s.clk.now, detail,
                descFlag d.line 3⟩] }
        s.noteFull (s.getF (Reg.sqCq n))

/-- All bits of a record's detail (R350). -/
def allBits : Nat := 2 ^ 64 - 1

/-- The bits of a LAUNCH's detail beside its group: the deciding member and the frame of its start (R350). -/
def launchOpen : Nat := 2 ^ 64 - 1 - 0xFFFF0000

/-- As `finish`, where no rule states the detail of the record: the bits of `unstated` are a free value (log entry 53). -/
def State.finishOpen (s : State) (n num status flags progress known unstated : Nat) : State :=
  s.tookFree.finish n num status flags progress (known + (s.freeWord.toNat &&& unstated))

/-- A request of a COPY or FILL has failed (R338): the one at the lowest offset is kept. -/
def State.failCopy (s : State) (n num off status addr : Nat) : State :=
  s.modStarted n num fun d =>
    { d with fail := match d.fail with
        | some (o, st, a) => if o ≤ off then some (o, st, a) else some (off, status, addr)
        | none => some (off, status, addr) }

/-- The number that a 32-bit frame field resolves to (R47). -/
def State.resolveFrame (s : State) (f : Nat) : Int :=
  let d : Nat := (f + 2 ^ 32 - s.clk.frame % 2 ^ 32) % 2 ^ 32
  if d < 2 ^ 31 then (s.clk.frame : Int) + d else (s.clk.frame : Int) + d - 2 ^ 32

/-- Whether the frame to which a field resolved is the current one or past. The frame number wraps at 2^48 (R47), and a resolved
frame lies within 2^31 frames of the one in which it was resolved, so less than half the cycle separates the two. -/
def State.frameReached (s : State) (n : Int) : Bool := decide (((s.clk.frame : Int) - n) % 2 ^ 48 < 2 ^ 47)

end Sys2Proof.Machine
end

