-- ==== Sys2Proof/Machine/Course.lean ====
section
/-!
DEFINITION. Courses and laps (R76-R97, R124, R125).
-/
namespace Sys2Proof.Machine

/-! ## Groups and members (R76, R80) -/

/-- The active tiles of a group, in member order: die-major, then by logical number. -/
def State.groupTiles (s : State) (g : Nat) : List Nat :=
  (List.range 8).flatMap fun d =>
    if s.on (Reg.grpValid d g) then
      let first := s.getF (Reg.grpFirst d g)
      ((List.range (s.getF (Reg.grpLast d g) + 1 - first)).filterMap fun i =>
        let l := first + i
        if l < 288 ∧ s.on (Reg.mapValid d l) then some (d * 512 + s.getF (Reg.mapSite d l)) else none)
    else []

/-- Whether a tile can take part in a course: it is not faulted and its die is not isolated (R80). -/
def State.fitMember (s : State) (u : Nat) : Bool := s.phase u != 4 && (s.cdie (uDie u)).fencedAt.isNone

def State.modCourse (s : State) (g : Nat) (f : Course → Course) : State :=
  { s with courses := s.courses.map fun c => if c.claimed ∧ c.group = g then f c else c }

def setPhase (s : State) (u p : Nat) : State := s.setF (Reg.tilePhase (uDie u) (uSite u)) p

/-- Claims a tile for a course: its loader begins with entry 0 (R79, R80). -/
def State.claimTile (s : State) (c : Course) (count : Nat) (u index : Nat) : State :=
  let m : Member :=
    { group := c.group, index := index, count := count, listGa := c.listGa, listKey := c.listKey, nextEntry := 0,
      loaded := none, current := none, runsLeft := 0, ready := false, fetch := .entry, lastEnded := false, begun := 0,
      ended := 0, stopping := none }
  let s := s.modTile u fun t => { t with member := some m }
  ((setPhase s u 1).setF (Reg.tileGroup (uDie u) (uSite u)) c.group).startFetch u .entry

/-- The lowest index of a course that could be claimed now: no other course of its group is claimed, and every member is
idle (R80). -/
def State.claimable (s : State) (c : Course) : Bool :=
  !c.claimed && !(s.courses.any fun (x : Course) => x.claimed && x.group == c.group) &&
  (s.groupTiles c.group).all fun u => !s.fitMember u || (s.phase u == 0 && (s.tile u).member.isNone)

/-- Claims a course's members. A group without an active tile completes RANGE_FAULT (R80). -/
def State.claimCourse (s : State) (c : Course) : State :=
  let all := s.groupTiles c.group
  if all.isEmpty then
    ({ s with courses := s.courses.erase c }).finishOpen c.ring c.num 0x12 0 0 (c.group * 2 ^ 16) launchOpen
  else
    let c' := { c with claimed := true, members := all.filter s.fitMember }
    let s := { s with courses := s.courses.map fun x => if x = c then c' else x }
    all.zipIdx.foldl (fun s e => if s.fitMember e.1 then s.claimTile c' all.length e.1 e.2 else s) s

/-- The members that a course waiting to start does not have yet although they can take part: tiles that were faulted or whose
die was isolated when the others were claimed (R80). -/
def State.lateMembers (s : State) (c : Course) : List (Nat × Nat) :=
  (s.groupTiles c.group).zipIdx.filter fun e => s.fitMember e.1 && !decide (e.1 ∈ c.members)

/-- Claims the late members of a course that are idle. -/
def State.claimLate (s : State) (c : Course) : State :=
  let count := (s.groupTiles c.group).length
  ((s.lateMembers c).filter fun e => s.phase e.1 == 0 && (s.tile e.1).member.isNone).foldl (fun s e =>
    (s.modCourse c.group fun c => { c with members := c.members ++ [e.1] }).claimTile c count e.1 e.2) s

/-- Claims every course that can be claimed, in order of LAUNCH, and the late members of those that wait to start. -/
def State.claimCourses (s : State) : State :=
  let s := s.courses.foldl (fun s c => if s.claimable c then s.claimCourse c else s) s
  s.courses.foldl (fun s c => if c.claimed ∧ !c.running then s.claimLate c else s) s

/-! ## Banks (R65, R82, R85) -/

/-- The bank that does not issue. -/
def Tile.setBankImg (t : Tile) (bank1 : Bool) (i : Option BankImg) : Tile :=
  if bank1 then { t with bank1 := i } else { t with bank0 := i }

/-- STK_BOUND_MAX: the largest B of the images held (R62, R85). -/
def State.updateBoundMax (s : State) : State :=
  let b := s.tiles.map fun e => max (match e.2.bank0 with | some i => i.bound | none => 0)
    (match e.2.bank1 with | some i => i.bound | none => 0)
  s.setF Reg.boundMax (b.foldl max 0)

/-! ## Leaving a course (R86, R88, R93, R94) -/

/-- The row of R93 and the status with which a member left. -/
def Leave.row : Leave → Nat × Nat
  | .tileFault => (2, 0x03)
  | .fitReject => (3, 0x20)
  | .overrun => (4, 0x21)
  | .malformed => (5, 0xF0)
  | .fetchFault st => (6, st)
  | .isolated => (1, 0x01)
  | .ringDisabled => (1, 0x01)

/-- A member is out of its course: its course keeps how, and its laps ended; the tile is idle unless it is faulted, and its banks
hold no image that a course still queues (R85; log entry 128). -/
def State.leave (s : State) (u : Nat) : State :=
  match (s.tile u).member with
  | none => s
  | some m =>
    let s := s.modCourse m.group fun c =>
      { c with progress := c.progress ++ [m.ended],
               statuses := match m.stopping with
                 | some l => if m.lastEnded then c.statuses else c.statuses ++ [(l.row.1, u, l.row.2)]
                 | none => c.statuses }
    let s := s.modTile u fun t => { t with member := none, bank0 := none, bank1 := none, wait := none, loader := [] }
    let s := if s.phase u = 4 then s else setPhase s u 0
    s.updateBoundMax

/-- Whether every mover slot, signal slot and row move has completed (R83). -/
def Tile.drained (t : Tile) : Bool := t.mover.isEmpty && t.rows.isEmpty && t.sigs.isEmpty

/-- A member that is to stop leaves when no lap runs and its mover, signal and loader requests have completed (R86, R93). -/
def State.leaveIfDone (s : State) (u : Nat) : State :=
  match (s.tile u).member with
  | some m => if m.stopping.isSome && s.phase u != 2 && (s.tile u).drained && (s.tile u).loaderBusy == 0 then s.leave u else s
  | none => s

/-- Of two reasons to leave, the one that R93 puts first. -/
def Leave.first (a : Option Leave) (b : Leave) : Leave :=
  match a with
  | some x => if b.row.1 < x.row.1 then b else x
  | none => b

/-- A member lets its current lap end and starts no further lap (R79, R86). Of several reasons it keeps the first of R93. -/
def State.stopMember (s : State) (u : Nat) (why : Leave) : State :=
  let s := s.modTile u fun t =>
    { t with member := t.member.map fun m => { m with stopping := some (Leave.first m.stopping why), fetch := .idle } }
  s.leaveIfDone u

/-- A wait is withdrawn from the hubs (R88). -/
def State.withdraw (s : State) (u seq : Nat) : State :=
  let s := (List.range 32).foldl (fun s p =>
    if s.hub p = Hub.zero then s
    else s.modHub p fun h =>
      { h with waiters := h.waiters.filter (fun w => !(w.unit == u && w.seq == seq && s.isHere w.node)),
               rim := h.rim.map fun e => (e.1, { e.2 with
                 waiting := e.2.waiting.filter (fun w => !(w.1 == u && w.2 == seq)),
                 flagWait := e.2.flagWait.filter (fun w => !(w.1 == u && w.2.1 == seq)) }) }) s
  { s with net := { s.net with reqs := s.net.reqs.filter fun r =>
      !(r.opc == 0x1A && r.srcUnit.toNat == u && r.seq.toNat == seq && s.isHere r.srcNode.toNat) } }

def TWait.seq : TWait → Option Nat
  | .counter _ _ q => some q
  | .rimBar _ q => some q
  | .rimFlag _ _ q => some q
  | _ => none

/-! ## The loader (R79, R82, R84) -/

/-- Where a member's next course entry stands (R79). -/
def Member.entryGa (m : Member) : Nat := m.listGa.toNat + 32 * m.nextEntry

/-- The entry of 32 bytes in the line that holds it (R79). -/
def Member.entryOf (m : Member) (line : List Byte) : CourseEntry := entryOfBytes ((line.drop (m.entryGa % 64)).take 32)

/-- COURSE_ENTRY_FETCHED (R79): the line with the entry has arrived at the loader, and the entry is checked; its image is fetched
next, under the key slot that it names, or the member leaves. The command reports the fetch's status and the number of the entry, as
the loader has them (log entry 10). -/
def execCourseEntryFetched (tile : TileId) (status entry : Nat) (s : State) : Out := s.live fun s =>
  let u := tile.unit
  .next (match (s.tile u).member, (s.tile u).loaded .entry with
    | some m, some (found, line) =>
      if found ≠ status ∨ m.nextEntry ≠ entry then s else
      let s := s.modTile u fun t => t.endFetch .entry
      let e := m.entryOf line
      if m.fetch ≠ .entry then s.leaveIfDone u
      else if status ≠ 0 then (s.tileFault u status 2 m.entryGa).stopMember u (.fetchFault status)
      else if e.rpt = 0 ∨ e.zeros ≠ 0 ∨ e.imageGa.toNat % 256 ≠ 0 ∨ (m.nextEntry = 65535 ∧ !e.last) then
        s.stopMember u .malformed
      else (s.modTile u fun t => { t with member := some { m with loaded := some e, fetch := .image } }).startFetch u .image
    | _, _ => s)

/-- The first test of the fit check that an image fails; 0 when it passes (R84, R125). -/
def State.fitCheck (s : State) (img : LapImage) : Nat :=
  if img.magic ≠ 0x504C4650 ∨ img.version ≠ 1 ∨ s.getF Reg.pkgLevel < 1 then 1
  else if digestOf ((img.body.take img.bundles.toNat).flatMap fun b => bytesOfNat 16 b.toNat) ≠ img.digest then 2
  else if img.bound.toNat < 1 ∨ s.getF Reg.lapBudget < img.bound.toNat then 3
  else if img.bundles.toNat < 1 ∨ 4096 < img.bundles.toNat then 4
  else if img.bundles.toNat ≤ img.entry.toNat then 5
  else if img.segs.any (fun g => g.length.toNat != 0 && decide (16384 < g.offset.toNat + g.length.toNat)) then 6
  else if 1 < img.heat.toNat then 7
  else 0

/-- IMAGE_LOADED (R84-R86): the image of the entry in hand has arrived and is fit-checked; its bank becomes ready, or the member
leaves. A fetch that completed with a fault code ends the member's course as R88 sets out (R84); where R88 stops the lap at once, R79
and R86 let the current lap end, and the model does so here too (log entry 129). The command reports the fetch's status and the number
of the entry, as the loader has them (log entry 10). -/
def execImageLoaded (tile : TileId) (status entry : Nat) (s : State) : Out := s.live fun s =>
  let u := tile.unit
  .next (match (s.tile u).member, (s.tile u).loaded .image with
    | some m, some (found, bytes) =>
      if found ≠ status ∨ m.nextEntry ≠ entry then s else
      let s := s.modTile u fun t => t.endFetch .image
      let img := imageOfBytes bytes
      match m.loaded with
      | none => s.leaveIfDone u
      | some e =>
        if m.fetch ≠ .image then s.leaveIfDone u
        else if status ≠ 0 then (s.tileFault u status 2 e.imageGa.toNat).stopMember u (.fetchFault status)
        else
          let cause := s.fitCheck img
          if cause ≠ 0 then
            let s := s.raise 0x5001 u [u, m.group, m.nextEntry, cause, img.bound.toNat, s.getF Reg.lapBudget]
            s.stopMember u .fitReject
          else
            let b : BankImg :=
              { bound := img.bound.toNat, hot := img.heat == 1, entry := img.entry.toNat, bundles := img.bundles.toNat,
                segs := img.segs, digest := img.digest, body := img.body.take img.bundles.toNat }
            let other := !s.curBank u
            (s.modTile u fun t =>
              { t.setBankImg other (some b) with member := some { m with ready := true, fetch := .idle } }).updateBoundMax
    | _, _ => s)

/-- The digest of the bundles of an image as it has been fetched (R125). -/
def bodyDigest (bytes : List Byte) (bundles : Nat) : BitVec 256 := digestOf ((bytes.drop 256).take (16 * bundles))

/-- IMAGE_REFETCH_DONE (R69): the image has been fetched again; where its digest agrees the tile resumes, or the tile faults; the
cycles are executed cycles of the lap. `status` is that of the fetch, as the loader has it (log entry 10). A refetch that completes with a fault code brings no image, so its digest does not agree
(log entry 130). -/
def execImageRefetchDone (tile : TileId) (status cycles : Nat) (s : State) : Out := s.live fun s =>
  let u := tile.unit
  .next (match (s.tile u).loaded .refetch with
    | none => s
    | some (found, bytes) =>
      if found ≠ status then s else
      let s := s.modTile u fun t => t.endFetch .refetch
      if (s.tile u).wait = some .refetch then
        let s := s.execCycles u cycles
        let good := match s.curImg u with
          | some i => decide (status = 0 ∧ bodyDigest bytes i.bundles = i.digest)
          | none => false
        if good then s.modTile u fun t => { t with wait := none } else s.faultTile u 2
      else s.leaveIfDone u)

/-! ## The start and the end of a lap (R80-R83, R89) -/

/-- The registers that a course start clears (R81). -/
def Tile.courseStart (t : Tile) : Tile :=
  { t with sregs := [], preds := [], vregs := [], scales := [], accs := [], tags := [], done := [], rnd := 0, aflags := 0,
           tstat := 0, seed := 0, pre := Pre.zero }

/-- SEED at the start of a course: (UNIT << 32) | 0x5EED_0001 (R138). -/
def seedStart (node u : Nat) : W64 := BitVec.ofNat 64 ((node * 2 ^ 16 + u) * 2 ^ 32 + 0x5EED0001)

/-- A lap starts (R81): s1-s5, the done counters, and the lap's own records. -/
def Tile.lapStart (t : Tile) (m : Member) (e : CourseEntry) (frame entry : Nat) : Tile :=
  let t := { t with done := [], cycles := 0, boundSeen := false, illSeen := false, bundle := entry, next := entry,
                    issueEnd := false, qFailed := 0, wait := none, lapIndex := m.begun,
                    member := some { m with begun := m.begun + 1 } }
  ((((t.setS 1 e.arg).setS 2 (BitVec.ofNat 64 m.index)).setS 3 (BitVec.ofNat 64 m.count)).setS 4
    (BitVec.ofNat 64 m.begun)).setS 5 (BitVec.ofNat 64 (frame % 2 ^ 32))

/-- The lap due at a tile starts, or is late (R82). -/
def State.startLap (s : State) (u : Nat) : State :=
  let t := s.tile u
  match t.member with
  | none => s
  | some m =>
    let d := uDie u
    let x := uSite u
    let go := fun (s : State) (m : Member) (e : CourseEntry) =>
      let entry := match s.curImg u with | some i => i.entry | none => 0
      let s := s.modTile u fun t => t.lapStart m e s.clk.frame entry
      ((setPhase s u 2).setB (Reg.tileSpilled d x) false).setF (Reg.tileSpills d x) 0
    match m.current, decide (0 < m.runsLeft) with
    | some e, true =>
      let last := m.runsLeft == 1
      let next := last && !e.last
      let s := go s { m with runsLeft := m.runsLeft - 1, fetch := if next then .entry else m.fetch } e
      if next then s.startFetch u .entry else s
    | _, _ =>
      match m.loaded, m.ready with
      | some e, true =>
        let s := s.setB (Reg.tileBank d x) (!s.curBank u)
        let runs := e.rpt.toNat - 1
        let next := decide (runs = 0 ∧ !e.last)
        let s := go s { m with current := some e, loaded := none, ready := false, runsLeft := runs, nextEntry := m.nextEntry + 1,
                               fetch := if next then .entry else .idle } e
        if next then s.startFetch u .entry else s
      | _, _ => (s.tileBump u 5 1).accItem 0x5004 (s.dieUnit d) u

/-- The tiles of a group that a course which starts now leaves out (R80): those that are faulted or whose die is isolated. -/
def State.leftOut (s : State) (c : Course) : List (Nat × Nat × Nat) :=
  ((s.groupTiles c.group).filter fun u => !s.fitMember u && !decide (u ∈ c.members)).map fun u => (1, u, 0x01)

/-- COURSE_START (R80, R81): at the lap instant, in or after the start frame, with every member idle and entry 0 loaded, the
members start lap 0; a member that cannot take part then is left out, which makes the course PARTIAL. It waits for FABRIC = 2
(R6, R254). -/
def execCourseStart (g : GroupN) (s : State) : Out := s.live fun s =>
  match s.courses.find? (fun c => c.claimed && c.group == g.val && !c.running) with
  | none => .next s
  | some c =>
    let mine := fun u => match (s.tile u).member with | some m => m.group == g.val | none => false
    let live := c.members.filter mine
    let ready := live.all fun u => s.phase u == 1 && (match (s.tile u).member with | some m => m.ready | none => false)
    if s.frameReached c.startFrame ∧ s.getF Reg.fabric = 2 ∧ (s.lateMembers c).isEmpty ∧ s.clk.running ∧ !s.clk.lapDue ∧ s.clk.now = s.clk.tick + s.getF Reg.lapOffset ∧
        ready then
      let s := s.modCourse g.val fun c =>
        { c with running := true, began := s.clk.frame, statuses := c.statuses ++ s.leftOut c }
      let node := s.getF Reg.wtyNode
      .next (live.foldl (fun s u =>
        let s := s.modTile u fun t => { t.courseStart with seed := seedStart node u }
        let base := (Reg.faultStatus (uDie u) (uSite u)).addr
        let s := ((s.setR base 0).setR (base + 8) 0).setR (base + 12) 0
        s.startLap u) s)
    else .next s

/-- LAP_END (R83): END has issued and every request and signal has completed; the lap is counted and the tile idles. -/
def execLapEnd (tile : TileId) (drainCycles : Nat) (s : State) : Out := s.live fun s =>
  let u := tile.unit
  let beyond : Bool := match s.curImg u with | some i => decide (i.bundles ≤ (s.tile u).next) | none => false
  let s := if s.phase u = 2 ∧ !(s.tile u).issueEnd ∧ (s.tile u).wait.isNone ∧ beyond = true then s.fetchEnd u else s
  let t := s.tile u
  match t.member with
  | none => .next s
  | some m =>
    if s.phase u = 2 ∧ t.issueEnd ∧ t.wait.isNone ∧ t.drained then
      let s := (s.execCycles u drainCycles).tileBump u 0 1
      let last := match m.current with | some e => e.last && m.runsLeft == 0 | none => true
      let m := { m with ended := m.ended + 1, lastEnded := last }
      let s := setPhase (s.modTile u fun t => { t with member := some m }) u 3
      .next (if last then (s.leave u).claimCourses else if m.stopping.isSome then (s.leave u).claimCourses else s)
    else .next s

/-- LAP_BOUND_EXCEEDED (R89): the executed cycles pass B. `cycles` is the lap's count as it stands, with a wait or a stall
that has not ended. -/
def execLapBoundExceeded (tile : TileId) (cycles : Nat) (s : State) : Out := s.live fun s =>
  let u := tile.unit
  let t := s.tile u
  let bound := match s.curImg u with | some i => i.bound | none => 0
  if s.phase u = 2 ∧ !t.boundSeen ∧ bound < max t.cycles cycles then
    let s := (s.modTile u fun t => { t with boundSeen := true }).tileBump u 6 1
    .next (s.accItem 0x5003 (s.dieUnit (uDie u)) u)
  else .next s

/-! ## The lap instant (R48, R53, R87, R88) -/

/-- The cycles of a wait that is cut short (R83, R88, R96): executed cycles, and wait cycles unless the tile waits for a refetch.
The model keeps no clock edges: their number is free, up to that of the time waited at the clock in force (log entry 131). -/
def State.waitedCycles (s : State) (u : Nat) : State :=
  match (s.tile u).wait with
  | none => s
  | some w =>
    let n := s.freeWord.toNat % ((s.clk.now - (s.tile u).waitSince) * s.getF Reg.computeMhz / 1000 + 2)
    let s := s.tookFree.execCycles u n
    if w = .refetch then s else s.tileBump u 3 n

/-- Adds the tile to LAP_OVERRUN, and stops a lap at its spill limit (R87, R88). -/
def State.overrun (s : State) (u : Nat) : State :=
  let d := uDie u
  let x := uSite u
  let s := s.tileBump u 1 1
  let before := s.getF (Reg.tileSpills d x)
  let s := (s.satF (Reg.tileSpills d x) 1).setB (Reg.tileSpilled d x) true
  let s := s.accItem 0x5002 (s.dieUnit d) u
  let t := s.tile u
  match t.member with
  | none => s
  | some m =>
    if s.getF (Reg.grpSpillLimit d m.group) ≤ before then
      let s := match t.wait.bind TWait.seq with | some q => s.withdraw u q | none => s
      let s := s.waitedCycles u
      let s := s.modTile u fun t => { t with issueEnd := true, wait := none }
      let s := (setPhase s u 3).raise 0x5008 u [u, m.group, t.lapIndex]
      s.stopMember u .overrun
    else s

/-- The allowance of the lap window that ends at this lap instant (R53): the one in force before it ends. Where the lap instant
falls on the tick that changes the allowance, that is the one before the change (R49; log entry 124). -/
def State.windowAllow (s : State) : Nat :=
  if s.getF Reg.lapOffset = 0 ∧ s.clk.allowTick = s.clk.tick + 1 then s.clk.allowOld else s.getF Reg.stretchAllow

/-- The latched stretch tally of a tile (R53, R63): the latched count, and whether it is over the allowance. -/
def State.latchStretch (s : State) (d x : Nat) : State :=
  let n := Tbl.look (fun _ => 0) s.clk.stretch (d * 512 + x)
  let high := decide (s.windowAllow < n)
  if s.getF (Reg.siteState d x) = 0 then s
  else if n = s.getF (Reg.stretchTally d x) ∧ high = s.on (Reg.stretchOver d x) then s
  else (s.setF (Reg.stretchTally d x) (min n (2 ^ 18 - 1))).setB (Reg.stretchOver d x) high

/-- STRETCH_HIGH for each die with a tile over the allowance (R53, R479). -/
def State.stretchHigh (s : State) (d : Nat) : State :=
  let highs := (List.range 288).filterMap fun x =>
    let n := Tbl.look (fun _ => 0) s.clk.stretch (d * 512 + x)
    if s.windowAllow < n then some n else none
  if highs.isEmpty then s else s.raise 0x1008 0xFFFF [d, s.clk.lapWindow, highs.length, highs.foldl max 0]

/-- The lap instant (R48, R49 step 8, R53, R87): tallies latch, running laps overrun, and laps due start. -/
def State.lapInstant (s : State) : State :=
  let s := s.reach (s.clk.tick + s.getF Reg.lapOffset)
  let s := (List.range 8).foldl (fun s d => (List.range 288).foldl (fun s x => s.latchStretch d x) s) s
  let s := (List.range 8).foldl (fun s d => s.stretchHigh d) s
  let clk := { s.clk with lapDue := false, stretch := [], lapWindow := s.clk.frame }
  let s := { s with clk := clk }
  let units := s.tiles.map Prod.fst
  let s := units.foldl (fun s u => if s.phase u = 2 then s.overrun u else s) s
  let s := units.foldl (fun s u =>
    let due := match (s.tile u).member with | some m => m.stopping.isNone && decide (0 < m.begun) | none => false
    if s.phase u = 3 ∧ due = true then s.startLap u else s) s
  s.raiseAcc atLapInstant

/-- LAP_INSTANT. -/
def execLapInstant (s : State) : Out := s.live fun s => .next (if s.clk.running ∧ s.clk.lapDue then s.lapInstant else s)

/-! ## Course completion (R93) -/

/-- The status of a course and the unit that decided it (R93). -/
def Course.status (c : Course) : Nat × Nat :=
  match (List.range 7).findSome? (fun row => c.statuses.find? fun x => x.1 == row) with
  | some x => (x.2.2, x.2.1)
  | none =>
    match c.faults with
    | [] => (0, 0)
    | f :: r =>
      let first := r.foldl (fun (a : Nat × Nat × Nat) b => if b.1 < a.1 ∨ (b.1 = a.1 ∧ b.2.1 < a.2.1) then b else a) f
      (first.2.2, first.2.1)

/-- COURSE_COMPLETE (R93): every member has ended its last lap or left, and no request can still be applied. -/
def execCourseComplete (g : GroupN) (s : State) : Out := s.live fun s =>
  match s.courses.find? (fun c => c.claimed && c.group == g.val) with
  | none => .next s
  | some c =>
    let s := c.members.foldl (fun s u => s.leaveIfDone u) s
    let here := fun u => match (s.tile u).member with | some m => m.group == g.val | none => false
    if c.members.any here ∨ s.clk.now < c.notBefore then .next s
    else
      match s.courses.find? (fun c => c.claimed && c.group == g.val) with
      | none => .next s
      | some c =>
        let progress := match c.progress with | [] => 0 | p :: r => r.foldl min p
        let st := c.status
        let s := { s with courses := s.courses.erase c }
        let detail := st.2 + g.val * 2 ^ 16
        -- a course that has not started has no frame in which it did
        .next (if c.running then s.finish c.ring c.num st.1 0 progress (detail + c.began % 2 ^ 32 * 2 ^ 32)
          else s.finishOpen c.ring c.num st.1 0 progress detail ((2 ^ 32 - 1) * 2 ^ 32)).claimCourses

end Sys2Proof.Machine
end

