-- ==== Sys2Proof/Machine/Stack.lean ====
section
/-!
DEFINITION. Memory stacks, the coalescer and the skim engine (R290-R320).
-/
namespace Sys2Proof.Machine

/-! ## Places (R261, R292) -/

def scUnit (k : Nat) : Nat := 0x1100 + k
/-- The stack and the stack page of a local address below 0xF0_0000_0000. -/
def laStack (la : Nat) : Nat := la / 4096 % 12
def laPage (la : Nat) : Nat := la / 4096 / 12
/-- The local address of a stack page. -/
def pageLa (k q : Nat) : Nat := (12 * q + k) * 4096
def pageChan (q : Nat) : Nat := q % 128
/-- Bank group b = 8 · channel + group. -/
def pageGroup (q : Nat) : Nat := 8 * (q % 128) + q / 128 % 8
def pageSlot (q : Nat) : Nat := q / 1024

/-- The error strength t of a code (R299). -/
def codeT (c : Nat) : Nat := match c with | 0 => 8 | 1 => 16 | 2 => 32 | _ => 48

def Sc.zero : Sc :=
  { cached := [], fetching := [], dirty := [], commits := [], lastCommit := [], groups := [], acc := 0, quota := 0, early := [],
    visits := 0, wear := 0, high := [], loads := [], verified := 0, expired := 0, resets := [], cause := 0, resetAt := 0,
    faults := [], crcFails := [], area := [], verifyAt := 0, recA := none, recB := none, flushAt := none, flushed := 0 }
def State.sc (s : State) (k : Nat) : Sc := Tbl.look (fun _ => Sc.zero) s.scs k
def State.setSc (s : State) (k : Nat) (c : Sc) : State := { s with scs := Tbl.put (fun _ => Sc.zero) s.scs k c }
def State.modSc (s : State) (k : Nat) (f : Sc → Sc) : State := s.setSc k (f (s.sc k))

/-- START 0 and GAP 20,481 at manufacture (R310). -/
def BankGrp.zero : BankGrp := ⟨0, 20481, 0⟩
def Sc.group (c : Sc) (b : Nat) : BankGrp := Tbl.look (fun _ => BankGrp.zero) c.groups b
def Sc.setGroup (c : Sc) (b : Nat) (g : BankGrp) : Sc := { c with groups := Tbl.put (fun _ => BankGrp.zero) c.groups b g }

/-- phys(l) of R310. -/
def BankGrp.phys (g : BankGrp) (l : Nat) : Nat :=
  let x := (l + g.start) % 20481
  if g.gap ≤ x then x + 1 else x

/-- The key of a physical slot's metadata. -/
def slotKey (k b x : Nat) : Nat := k * 2 ^ 25 + b * 20482 + x
def PageMeta.zero : PageMeta := ⟨0, 0, 0, 20481, 0, 0⟩
def State.slotMeta (s : State) (key : Nat) : PageMeta := Tbl.look (fun _ => PageMeta.zero) s.pageMeta key
def State.setSlotMeta (s : State) (key : Nat) (m : PageMeta) : State :=
  { s with pageMeta := Tbl.put (fun _ => PageMeta.zero) s.pageMeta key m }
/-- The slot that holds a stack page. -/
def State.pageKey (s : State) (k q : Nat) : Nat := slotKey k (pageGroup q) (((s.sc k).group (pageGroup q)).phys (pageSlot q))
def State.pageMetaOf (s : State) (k q : Nat) : PageMeta := s.slotMeta (s.pageKey k q)

/-- The stack page whose slot a system page of a bank group takes (R293). -/
def sysPage (b : Nat) : Nat := 20480 * 1024 + b % 8 * 128 + b / 8

/-- A ledger and its entries, by holder. -/
def Ledger.zero : Ledger := ⟨[], 0⟩
def State.ledger (s : State) (h : Nat) : Ledger := Tbl.look (fun _ => Ledger.zero) s.fab.ledgers h
def State.setLedger (s : State) (h : Nat) (l : Ledger) : State :=
  { s with fab := { s.fab with ledgers := Tbl.put (fun _ => Ledger.zero) s.fab.ledgers h l } }

/-- The region word in force for a stack page. -/
def State.pageWord (s : State) (k q : Nat) : W64 := (s.region (granuleOf (pageLa k q))).word s.clk.frame

/-- The strength code with which a page is written: that of its region, and that of t = 48 for a system page (R293). -/
def State.pageCode (s : State) (k q : Nat) : Nat := if q < 20971520 then rgnStrength (s.pageWord k q) else 3

/-- A stamp: stake time in units of 16 st (R297). -/
def State.stamp (s : State) : Nat := s.clk.now / 16 % 2 ^ 48

/-- The metadata of a slot that is written now (R297). -/
def State.freshMeta (s : State) (k b key code wc : Nat) : State :=
  let g := (s.sc k).group b
  s.setSlotMeta key ⟨wc, s.getF (Reg.scPowerOn k), g.start, g.gap, s.stamp, code⟩

/-- A physical slot is written once more (R297). -/
def State.wroteKey (s : State) (k b key code : Nat) : State :=
  s.freshMeta k b key code (min (2 ^ 24 - 1) ((s.slotMeta key).writeCount + 1))

/-- A page write of a bank group counts toward the next move of its gap (R310). -/
def State.groupWrite (s : State) (k b : Nat) : State :=
  s.modSc k fun c => let g := c.group b; c.setGroup b { g with writes := g.writes + 1 }

/-- A page's slot is written: its metadata, and its bank group's count (R297, R310). -/
def State.wroteSlot (s : State) (k q code : Nat) : State :=
  (s.wroteKey k (pageGroup q) (s.pageKey k q) code).groupWrite k (pageGroup q)

/-! ## The committed contents of a line -/

def State.medLine (s : State) (la : Nat) (l : Line) (valid : Bool) (mark : Nat) : State :=
  let bytes := bytesOfNat 64 l.toNat
  let medium := bytes.zipIdx.foldl (fun m e => Tbl.put memD m (la + e.2) e.1) s.mem.medium
  let v := Tbl.put (fun _ => false) s.mem.medValid (la / 64) valid
  let mk := Tbl.put (fun _ => 0) s.mem.medMark (la / 64) mark
  { s with mem := { s.mem with medium := medium, medValid := v, medMark := mk } }

/-- The lines of a page as accesses see them. -/
def State.pageLines (s : State) (k q : Nat) : List (Line × Bool × Nat) :=
  (List.range 64).map fun i =>
    let la := pageLa k q + 64 * i
    (s.rdLine la, s.lineValid la, s.lineMark la)

/-- The status with which an uncorrectable slot is marked (R300 step 5). -/
def State.markStatus (s : State) (k key : Nat) : Nat := if (s.slotMeta key).powerOn = s.getF (Reg.scPowerOn k) then 0x40 else 0x41

/-- A marked slot is rewritten with its WRITE_COUNT at 2^24 − 1, counted and reported (R300 step 5). -/
def State.markSlot (s : State) (k q b key code foundBy : Nat) : State :=
  let st := s.markStatus k key
  let s := s.freshMeta k b key code (2 ^ 24 - 1)
  let s := s.bump (Reg.scCnt k (if st = 0x40 then 5 else 6)) 1
  s.raise (if st = 0x40 then 0x4306 else 0x4307) (scUnit k) [q, foundBy]

/-- An uncorrectable user page is marked (R300 step 5): every line that `keep` does not name becomes valid, zero and marked, in
the medium and as accesses see it. Answers the status too. -/
def State.markPage (s : State) (k q keep foundBy : Nat) : State × Nat :=
  let key := s.pageKey k q
  let st := s.markStatus k key
  let s := (List.range 64).foldl (fun s i =>
    let la := pageLa k q + 64 * i
    let s := s.medLine la 0 true st
    if keep.testBit i then s else ((s.wrLine la 0).setValid la true).setMark la st) s
  ((s.markSlot k q (pageGroup q) key (s.pageCode k q) foundBy).groupWrite k (pageGroup q), st)

/-- Corrected bits are counted, and a page at the rewrite threshold joins the early queue (R300 step 2). -/
def State.corrected (s : State) (k q c : Nat) : State :=
  let s := if c = 0 then s else s.bump (Reg.scCnt k 4) c
  let t := codeT (s.pageMetaOf k q).code
  if 0 < c ∧ t / 2 ^ (s.getF (Reg.rwShift k)) ≤ c ∧ (s.sc k).early.length < 256 ∧ q ∉ (s.sc k).early then
    s.modSc k fun x => { x with early := x.early ++ [q] }
  else s

/-! ## The coalescer (R301-R305) -/

/-- Whether a channel has failed (R295). -/
def State.chanFailed (s : State) (k q : Nat) : Bool := s.getF (Reg.chanState k (pageChan q)) == 2

def Sc.isDirty (c : Sc) (q : Nat) : Bool := c.dirty.any fun d => d.page == q
def Sc.isCached (c : Sc) (q : Nat) : Bool := c.cached.any fun p => p == q
def Sc.isFetching (c : Sc) (q : Nat) : Bool := c.fetching.any fun f => f.1 == q

/-- Whether a page may become dirty: its channel is below its cap of 160 dirty pages, or 80 at half width (R301). -/
def State.dirtyRoom (s : State) (k q : Nat) : Bool :=
  let c := s.sc k
  let cap := if s.getF (Reg.chanState k (pageChan q)) = 1 then 80 else 160
  c.isDirty q || decide ((c.dirty.filter fun d => pageChan d.page == pageChan q).length < cap)

/-- The buffer of a group (R212). -/
def plaitBytes (op lines expect : Nat) : Nat :=
  (if op = 1 then 2 else 1) * lines * 64 + 64 + ((expect + 7) / 8 + 63) / 64 * 64

/-- Bytes of buffer in use at a port. -/
def State.plaitUsed (s : State) (port : Nat) : Nat :=
  (s.fab.plaits.map fun e => match e.2 with
    | some x => if x.port = port ∧ x.phase < 3 then plaitBytes x.op x.lines x.expect else 0
    | none => 0).sum

/-- The cache places that coalesce stores: 64 MiB less the buffers of the plait groups reduced at the stack's port (R212,
R301). -/
def State.cachePlaces (s : State) (k : Nat) : Nat := 16384 - (s.plaitUsed (16 + k) + 4095) / 4096

/-- Whether a page's place can be taken for another (R301). -/
def Sc.replaceable (c : Sc) (q : Nat) : Bool := !c.isDirty q && !c.isFetching q

/-- Whether a cache place can be had among n: one is free, or clean pages can be replaced (R301). -/
def Sc.placeFor (c : Sc) (n q : Nat) : Bool :=
  c.isCached q || decide (c.cached.length < n + (c.cached.filter c.replaceable).length)

/-- The least recently used clean pages leave until n places suffice (R301), but for those kept. -/
def Sc.fit (c : Sc) (n : Nat) (keep : List Nat) : Sc :=
  let out := (c.cached.reverse.filter fun p => !keep.contains p && c.replaceable p).take (c.cached.length - n)
  { c with cached := c.cached.filter fun p => !out.contains p }

/-- The page takes a place, or becomes the most recently used (R301). -/
def Sc.touch (c : Sc) (n q : Nat) : Sc := { c with cached := q :: c.cached.filter fun p => p != q }.fit n [q]

/-- The ledger slot of an entry: the lowest free one in the ledger pages of the page's own channel, or the lowest of all (R304). -/
def freeLedgerSlot (used : List Nat) (ch : Nat) : Option Nat :=
  match (List.range 512).find? fun i => !used.contains (512 * ch + i) with
  | some i => some (512 * ch + i)
  | none => (List.range 65536).find? fun i => !used.contains i

/-- The tag of an entry. -/
def LedgerEntry.tag (e : LedgerEntry) : Nat × Nat × Nat × Nat := (e.node, e.unit, e.inc, e.seq)

/-- Whether an entry is one that the commit of a page writes. -/
def LedgerEntry.waitsFor (e : LedgerEntry) (q : Nat) : Bool := e.page == q && !e.durable

/-- The entries with slots for those that a commit of a page writes (R304). -/
def placeEntries (q : Nat) (used : List Nat) : List LedgerEntry → List LedgerEntry
  | [] => []
  | e :: r =>
    if e.waitsFor q && e.slot.isNone then
      match freeLedgerSlot used (pageChan q) with
      | some x => { e with slot := some x } :: placeEntries q (x :: used) r
      | none => e :: placeEntries q used r
    else e :: placeEntries q used r

/-- A commit is queued: the page is snapshotted with its ledger entries, and is no longer dirty (R304). -/
def State.queueCommit (s : State) (k q : Nat) : State :=
  match (s.sc k).dirty.find? (fun d => d.page == q) with
  | none => s
  | some d =>
    let lines := s.pageLines k q
    let l := s.ledger (scUnit k)
    let entries := placeEntries q (l.entries.filterMap fun e => e.slot) l.entries
    let mine := entries.filter fun e => e.waitsFor q
    let m : Commit :=
      { page := q, since := d.since, lines := lines, entries := mine.map LedgerEntry.tag,
        queuedAt := s.clk.now, ledgerPages := (mine.filterMap fun e => e.slot.map (· / 128)).eraseDups }
    let frame := s.clk.frame
    (s.setLedger (scUnit k) { l with entries := entries }).modSc k fun c =>
      { c with dirty := c.dirty.filter (fun x => x.page != q), commits := c.commits ++ [m],
               lastCommit := Tbl.put (fun _ => 0) c.lastCommit q (frame + 1) }

/-- A page becomes dirty, with its due frame (R303); under write-through, and during a flush (R312), its commit is queued as
soon as its fetch is complete. -/
def State.makeDirty (s : State) (k q : Nat) : State :=
  let c := s.sc k
  let co := rgnCoalesce (s.pageWord k q)
  let through := co == 1 || s.getF (Reg.scState k) == 2
  if c.isDirty q then s
  else
    let last := Tbl.look (fun _ => 0) c.lastCommit q
    let settle := if co = 2 then s.getF (Reg.settleLong k) else s.getF (Reg.settleNormal k)
    let due := if last = 0 then s.clk.frame + 1 else max (s.clk.frame + 1) (last - 1 + settle)
    s.modSc k fun c => { c with dirty := c.dirty ++ [⟨q, due, s.clk.now, through⟩] }

/-- Queues a write-through page whose fetch is complete. -/
def State.throughCommit (s : State) (k q : Nat) : State :=
  let c := s.sc k
  if !c.isFetching q && c.dirty.any (fun d => d.page == q && d.through) then s.queueCommit k q else s

/-- A store's line is applied in the coalescer (R302): a miss takes a place and starts the fetch. -/
def State.coalesce (s : State) (la : Nat) (l : Line) : State :=
  let k := laStack la
  let q := laPage la
  let i := la / 64 % 64
  let places := s.cachePlaces k
  let s := s.modSc k fun c =>
    let c := if c.isCached q then c else { c with fetching := c.fetching ++ [(q, 0)] }
    let c := c.touch places q
    { c with fetching := c.fetching.map fun f => if f.1 = q then (f.1, setBit f.2 i true) else f }
  (s.makeDirty k q).storeLine la l

/-- Pages whose due frame has come are queued (R303, step 7 of R49). -/
def State.queueDue (s : State) (k : Nat) : State :=
  (s.sc k).dirty.foldl (fun s d => if d.due ≤ s.clk.frame ∧ !d.through then s.queueCommit k d.page else s) s

/-- The watermark W of a controller (R305). -/
def State.durable (s : State) (k : Nat) : Nat :=
  let c := s.sc k
  ((c.dirty.map fun d => d.since) ++ (c.commits.map fun d => d.since)).foldl min s.clk.now

/-- A commit queued at the same instant finds the ledger pages of another written (R304). -/
def Commit.shares (m x : Commit) : Commit :=
  if x.queuedAt = m.queuedAt then { x with ledgerPages := x.ledgerPages.filter fun j => !m.ledgerPages.contains j } else x

/-- A ledger entry as the medium holds it (R278). -/
def entryWord (e : LedgerEntry) : BitVec 256 :=
  BitVec.ofNat 256 (e.node % 2 ^ 16 + e.unit % 2 ^ 16 * 2 ^ 16 + e.inc % 2 ^ 8 * 2 ^ 32 + e.seq % 2 ^ 24 * 2 ^ 40 +
    e.opc % 2 ^ 16 * 2 ^ 64 + e.status % 2 ^ 8 * 2 ^ 80 + (e.saturated.toNat + e.offPackage.toNat * 2) * 2 ^ 88 +
    e.value.toNat * 2 ^ 128 + e.expires % 2 ^ 64 * 2 ^ 192)

/-- Whether a unit is one of the control engines: an I/O engine or a ring unit (R404). -/
def isControlUnit (u : Nat) : Bool := decide (0x1200 ≤ u ∧ u < 0x1400)

/-- The entry that a ledger slot of the medium holds, as a controller loads it (R313); none where it is free. -/
def entryOf (slot : Nat) (w : BitVec 256) : Option LedgerEntry :=
  let f := fun lo n => w.toNat / 2 ^ lo % 2 ^ n
  let control := isControlUnit (f 16 16)
  if w = 0 then none
  else
    some { node := f 0 16, unit := f 16 16, inc := f 32 8, seq := f 40 24, opc := f 64 16, status := f 80 8, saturated := f 88 1 == 1,
           offPackage := f 89 1 == 1, value := BitVec.ofNat 64 (f 128 64), expires := f 192 64, spilled := false, page := 2 ^ 30,
           durable := true, slot := some slot, control := control, latest := f 192 64 - (if control then 256000 else 2000),
           acked := false }

/-- Ledger page j of the medium is written with its 128 slots (R293, R304): the entries that are durable, those of the commit, and
those of the commits queued with it, which it serves too. A slot that no such entry holds is written as free. -/
def State.writeLedgerPage (s : State) (k j : Nat) (m : Commit) : State :=
  let served := m.entries ++ ((s.sc k).commits.filter fun x => x.queuedAt == m.queuedAt).flatMap fun x => x.entries
  let mine := (s.ledger (scUnit k)).entries.filter fun e => e.durable || decide (e.tag ∈ served)
  let word := fun i => match mine.find? fun e => e.slot == some i with | some e => entryWord e | none => 0
  (s.modSc k fun c => { c with area := (List.range 128).foldl (fun t i =>
    Tbl.put (fun _ => 0) t (128 * j + i) (word (128 * j + i))) c.area }).wroteSlot k (sysPage (2 * j)) 3

/-- A commit completes (R304): its ledger pages are written, its snapshot is the medium's, its ledger entries are durable. A
flush counts the pages that it writes (R312). -/
def State.commit (s : State) (k : Nat) (m : Commit) : State :=
  let flushing := decide (s.getF (Reg.scState k) = 2)
  let s := s.modSc k fun c =>
    { c with commits := (c.commits.erase m).map m.shares,
             flushed := if flushing then c.flushed + 1 + m.ledgerPages.length else c.flushed }
  let s := m.ledgerPages.foldl (fun s j => s.writeLedgerPage k j m) s
  let s := m.lines.zipIdx.foldl (fun s e => s.medLine (pageLa k m.page + 64 * e.2) e.1.1 e.1.2.1 e.1.2.2) s
  let s := s.wroteSlot k m.page (s.pageCode k m.page)
  let l := s.ledger (scUnit k)
  let entries := l.entries.map fun e => if e.tag ∈ m.entries then { e with durable := true } else e
  let s := s.setLedger (scUnit k) { l with entries := entries }
  s.bump (Reg.scCnt k 1) 1

/-- The queued commits of working channels complete, oldest first (R312). -/
def State.commitAll (s : State) (k : Nat) : State :=
  (List.range (s.sc k).commits.length).foldl (fun s _ =>
    match (s.sc k).commits.find? (fun x => !s.chanFailed k x.page) with
    | some x => s.commit k x
    | none => s) s

/-! ## Controller resets and path faults (R300, R315-R317) -/

def causeNum : Cause → Nat
  | .register => 0 | .selfCheck => 1 | .clock => 2 | .regulator => 3 | .dieReset => 4

/-- A controller's reset begins; the third within 1 s fails it (R315, R317). A clock that cannot be realigned fails the reset that it
caused, and another follows (R60). -/
def State.scReset (s : State) (k cause : Nat) : State :=
  let failed := cause == 2 && (s.sc k).cause == 2
  if (s.getF (Reg.scState k) = 0 ∧ !failed) ∨ s.getF (Reg.scState k) = 3 ∨ s.on (Reg.identHeldOut (16 + k)) then s
  else
    let recent := (s.sc k).resets.filter (fun t => decide (s.clk.now < t + 1000000000)) ++ [s.clk.now]
    let s := s.modSc k fun c => { c with resets := recent, cause := cause, resetAt := s.clk.now }
    if 3 ≤ recent.length then
      let s := (s.setF (Reg.scState k) 3).setF (Reg.dieState (16 + k)) 4
      let s := s.raise 0x4303 (scUnit k) [recent.length]
      -- a further flush is attempted once (R317)
      let s := (s.sc k).dirty.foldl (fun s d => s.queueCommit k d.page) s
      let s := s.commitAll k
      (s.setDegraded 5 true).setDegraded 10 true
    else ((s.setF (Reg.scState k) 0).setB (Reg.scCtrlReset k) true).setF (Reg.dieState (16 + k)) 0

/-- A fault of the controller's path: the eighth within 1 ms is a self-check failure, which resets it (R300 step 4, R315). -/
def State.pathFault (s : State) (k q line : Nat) : State :=
  let recent := (s.sc k).faults.filter (fun t => decide (s.clk.now < t + 1000000)) ++ [s.clk.now]
  let s := (s.modSc k fun c => { c with faults := recent }).bump (Reg.scCnt k 13) 1
  let s := s.raise 0x4304 (scUnit k) [q, line, recent.length]
  if 8 ≤ recent.length then (s.modSc k fun c => { c with faults := [] }).scReset k 1 else s

/-! ## Commits and fetches -/

/-- Whether a dirty page is committed early (R301): it is the oldest, and every place of the cache holds a page that is not clean; or
its channel holds as many dirty pages as it may. -/
def State.commitsEarly (s : State) (k q : Nat) : Bool :=
  let c := s.sc k
  let mine := (c.dirty.filter fun d => pageChan d.page == pageChan q).length
  let cap := if s.getF (Reg.chanState k (pageChan q)) = 1 then 80 else 160
  let full := decide (s.cachePlaces k ≤ c.cached.length) && !c.cached.any c.replaceable
  c.isDirty q && !c.isFetching q && ((full && (c.dirty.head?.map fun d => d.page) == some q) || decide (cap ≤ mine))

/-- COMMIT_DONE (R304): a queued commit completes; a dirty page for which a place or a share of its channel is wanted is committed
early (R301). A page of a failed channel cannot be committed (R295). -/
def execCommitDone (k : StackN) (page : Nat) (s : State) : Out :=
  if s.chanFailed k page then .next s
  else
    match (s.sc k).commits.find? (fun m => m.page == page) with
    | some m => .next (s.commit k m)
    | none =>
      if s.commitsEarly k page then
        let s := (s.queueCommit k page).bump (Reg.scCnt k 2) 1
        .next (match (s.sc k).commits.find? (fun m => m.page == page) with | some m => s.commit k m | none => s)
      else .next s

/-- How often the transfer of a slot was repeated (R295). -/
def slotRepeats : SlotRead → Nat
  | .repeated n _ r => n.val + slotRepeats r
  | _ => 0

/-- The signals to which the failed transfers of a slot are traced (R295). -/
def slotSignals : SlotRead → List Nat
  | .repeated n signal r => List.replicate n.val signal.val ++ slotSignals r
  | _ => []

/-- What the transfer that passed its CRC shows. -/
def slotShown : SlotRead → SlotRead
  | .repeated _ _ r => slotShown r
  | r => r

/-- A slot of a channel has been transferred: repeats count in CHANNEL_RETRIES, and the channel remembers the failures of the last
1 ms (R295, R300 step 1). -/
def State.transferred (s : State) (k ch : Nat) (res : SlotRead) : State :=
  if slotRepeats res = 0 then s
  else
    let fails := (slotSignals res).map fun i => (ch, i, s.clk.now)
    (s.modSc k fun c => { c with crcFails := c.crcFails.filter (fun e => decide (s.clk.now < e.2.2 + 1000000)) ++ fails }).bump
      (Reg.scCnt k 12) (slotRepeats res)

/-- PAGE_FETCH_DONE (R300, R302): the fetched page lies beneath the lines stored meanwhile; an uncorrectable one is marked;
under write-through it is queued for commit. -/
def execPageFetchDone (k : StackN) (page : Nat) (res : SlotRead) (s : State) : Out := s.live fun s =>
  match (s.sc k).fetching.find? (fun f => f.1 == page) with
  | none => .next s
  | some f =>
    let s := (s.transferred k (pageChan page) res).bump (Reg.scCnt k 0) 1
    let done := fun (s : State) =>
      (s.modSc k fun c => { c with fetching := c.fetching.filter fun x => x.1 != page }).throughCommit k page
    .next (match slotShown res with
      | .good n => done (s.corrected k page n)
      | .pathFault line => s.pathFault k page line
      | _ => done (s.markPage k page f.2 0).1)

/-! ## The skim and verify passes (R306-R309, R314) -/

/-- The number of physical slots of a stack (R293). -/
def slotCount : Nat := 20973570

/-- Step 7 of R49: the quota advances, and SKIM_BEHIND tells that more than 65,536 visits are owed (R306). -/
def State.skimTick (s : State) (k : Nat) : State :=
  if s.getF (Reg.scState k) ≠ 1 then s
  else
    let c := s.sc k
    let acc := c.acc + slotCount * s.fp
    let pass := s.getF (Reg.passMin k) * 60000000000
    let due := if pass = 0 then 0 else acc / pass
    let rest := if pass = 0 then acc else acc % pass
    let behind := decide (65536 < c.quota + due)
    let s := s.setSc k { c with acc := rest, quota := c.quota + due }
    let s := s.setB (Reg.scSkimBehind k) behind
    if behind then s.raiseLimited 0x4309 (scUnit k) k [c.quota + due] else s

/-- Enters a page into the load list (R308). -/
def Sc.enterLoad (c : Sc) (e : LoadEntry) : Sc :=
  let rest := c.loads.filter fun x => x.page != e.page
  let bigger := rest.takeWhile fun x => decide (e.hard ≤ x.hard)
  { c with loads := (bigger ++ [e] ++ rest.drop bigger.length).take 1024 }

/-- A rewrite after row 4: the read-back gives h (R308). -/
def State.readBack (s : State) (k q h n : Nat) : State :=
  let code := s.pageCode k q
  let t := codeT code
  let s := if q < 20971520 ∧ t / 2 ^ (s.getF (Reg.reportShift k)) ≤ h then s.modSc k fun c => c.enterLoad ⟨q, h, n, code⟩ else s
  if t / 2 ≤ h ∧ q ∉ (s.sc k).high then (s.modSc k fun c => { c with high := q :: c.high }).raise 0x4305 (scUnit k) [q, h, t]
  else s

/-- What a number of the pass names (R293, R306): stack pages by their number, the system pages in the numbers of their logical
slot, then the gap slots of the bank groups and record slots A and B. -/
inductive SlotKind where
  | user | system | gap | record | none
deriving DecidableEq, Repr

def slotKind (page : Nat) : SlotKind :=
  if page < 20971520 then .user else if page < 20972544 then .system else if page < 20973568 then .gap
  else if page < slotCount then .record else .none

/-- The bank group of a numbered slot: gap slot b is that of bank group b, and the record slots lie in bank groups 0 and 512. -/
def slotGroup (page : Nat) : Nat :=
  match slotKind page with
  | .gap => page - 20972544
  | .record => if page = 20973568 then 0 else 512
  | _ => pageGroup page

/-- The physical slot that a number of the pass names. -/
def State.visitKey (s : State) (k page : Nat) : Nat :=
  match slotKind page with
  | .gap => slotKey k (slotGroup page) ((s.sc k).group (slotGroup page)).gap
  | .record => slotKey k 1024 (page - 20973568)
  | _ => s.pageKey k page

/-- A rewrite of a numbered slot; a record slot lies outside the rotation (R293, R310). -/
def State.rewrite (s : State) (k page code : Nat) : State :=
  let b := slotGroup page
  let s' := s.wroteKey k b (s.visitKey k page) code
  match slotKind page with
  | .record => s'
  | _ => s'.groupWrite k b

/-- An uncorrectable slot that no user page holds is marked (R300 step 5): the ledger entries in a ledger page, or the record,
are no longer in the medium. -/
def State.markSpecial (s : State) (k page foundBy : Nat) : State :=
  let b := slotGroup page
  let key := s.visitKey k page
  let code := match slotKind page with | .gap => (s.slotMeta key).code | _ => 3
  let s := s.markSlot k page b key code foundBy
  match slotKind page with
  | .system =>
    let l := s.ledger (scUnit k)
    let lost := fun (e : LedgerEntry) => match e.slot with | some x => 2 * (x / 128) == b | none => false
    let entries := l.entries.map fun e => if lost e then { e with durable := false } else e
    let area := fun (c : Sc) => c.area.filter fun e => 2 * (e.1 / 128) != b
    ((s.setLedger (scUnit k) { l with entries := entries }).modSc k fun c => { c with area := area c }).groupWrite k b
  | .record => s.modSc k fun c => if page = 20973568 then { c with recA := none } else { c with recB := none }
  | _ => s

/-- What a visit does with the slot it read (R307). -/
def State.visitPage (s : State) (k q n hard foundBy : Nat) (res : SlotRead) : State :=
  let m := s.slotMeta (s.visitKey k q)
  let user := decide (slotKind q = .user)
  let code := s.pageCode k q
  let dirty := (s.sc k).isDirty q || (s.sc k).commits.any fun x => x.page == q
  let age := (s.stamp + 2 ^ 48 - m.stamp) % 2 ^ 48
  let old := m.powerOn != s.getF (Reg.scPowerOn k)
  let minute := 60000000000 / 16
  let expires := s.markStatus k (s.visitKey k q) == 0x41
  let marked := fun (s : State) =>
    if dirty then s
    else
      let s := if user then (s.markPage k q 0 foundBy).1 else s.markSpecial k q foundBy
      if expires && foundBy == 2 then s.modSc k fun c => { c with expired := c.expired + 1 } else s
  match res with
  | .pathFault line => s.pathFault k q line
  | .good _ =>
    if dirty ∨ slotKind q = .gap then s
    else if old || decide (s.getF (Reg.refreshMin k) * minute < age) then (s.rewrite k q code).bump (Reg.scCnt k 8) 1
    else if m.code ≠ code then (s.rewrite k q code).bump (Reg.scCnt k 10) 1
    else if codeT m.code / 2 ^ (s.getF (Reg.rwShift k)) ≤ n ∧ s.getF (Reg.passMin k) * minute ≤ age then
      ((s.rewrite k q code).bump (Reg.scCnt k 9) 1).readBack k q hard n
    else s
  | _ => marked s

/-- The physical slot that the nth visit of a pass reads (R293, R306): channel, then bank group, then slot, and the record slots last. -/
def passKey (k n : Nat) : Nat :=
  if n < 1024 * 20482 then slotKey k (8 * (n % 128) + n / 128 % 8) (n / 1024) else slotKey k 1024 (n - 1024 * 20482)

/-- SKIM_VISIT (R307): one visit of the skim or the verify pass, while the controller serves. A visit of the skim takes one
of its quota; one for which no quota is left is the early visit of a queued page, beside the pass (R300). -/
def execSkimVisit (k : StackN) (kind : VisitKind) (page : Nat) (res : SlotRead) (hard : Nat) (s : State) : Out := s.live fun s =>
  let c := s.sc k
  let verify := match kind with | .verify => true | .skim => false
  let early := c.quota == 0 && c.early.any fun p => p == page
  let turn := decide (s.visitKey k page = passKey k (if verify then c.verified else c.visits))
  if s.getF (Reg.scState k) ≠ 1 ∨ slotCount ≤ page ∨ !(turn || (early && !verify)) then .next s
  else if (if verify then !s.on (Reg.scVerifyActive k) else c.quota == 0 && !early) then .next s
  else
    let wc := (s.slotMeta (s.visitKey k page)).writeCount
    let s := (s.transferred k (slotGroup page / 8) res).bump (Reg.scCnt k 7) 1
    let n := match slotShown res with | .good n => n | _ => 0
    let s := s.visitPage k page n hard (if verify then 2 else 1) (slotShown res)
    let s := if n = 0 then s else s.bump (Reg.scCnt k 4) n
    let c := s.sc k
    .next (if verify then
      let s := s.setSc k { c with verified := c.verified + 1 }
      s.setF (Reg.scVerify k) (min 100 ((c.verified + 1) * 100 / slotCount))
    else
      let c := { c with quota := c.quota - 1, early := c.early.filter (fun p => p != page), wear := max c.wear wc,
                        visits := if early then c.visits else c.visits + 1 }
      if c.visits = slotCount then (s.setSc k { c with visits := 0, wear := 0, high := [] }).setF (Reg.maxWear k) c.wear
      else s.setSc k c)

/-- VERIFY_DONE (R314): the pass has visited every slot; `seconds` is its duration, in whole seconds (log entry 10). -/
def execVerifyDone (k : StackN) (seconds : Nat) (s : State) : Out := s.live fun s =>
  if s.on (Reg.scVerifyActive k) ∧ slotCount ≤ (s.sc k).verified ∧ seconds = (s.clk.now - (s.sc k).verifyAt) / 1000000000 then
    let s := (s.setB (Reg.scVerifyActive k) false).setF (Reg.scVerify k) 100
    .next (s.raise 0x4308 (scUnit k) [seconds, (s.sc k).expired])
  else .next s

/-- GAP_MOVE (R310): after 256 page writes in a bank group the gap moves by one slot; gap moves stop during a flush. -/
def execGapMove (k : StackN) (bg : Fin 1024) (s : State) : Out := s.live fun s =>
  let b := bg.val
  let g := (s.sc k).group b
  if g.writes < 256 ∨ s.getF (Reg.scState k) ≠ 1 then .next s
  else
    let src := if g.gap = 0 then 20481 else g.gap - 1
    let g' : BankGrp := if g.gap = 0 then ⟨(g.start + 1) % 20481, 20481, g.writes - 256⟩ else ⟨g.start, g.gap - 1, g.writes - 256⟩
    let m := s.slotMeta (slotKey k b src)
    let dst := slotKey k b g.gap
    let wc := min (2 ^ 24 - 1) ((s.slotMeta dst).writeCount + 1)
    let s := s.modSc k fun c => c.setGroup b g'
    .next ((s.freshMeta k b dst m.code wc).bump (Reg.scCnt k 11) 1)

/-! ## Channels (R295) -/

/-- Failed transfers of a channel traced to a signal within the last 1 ms (R295). -/
def State.signalFails (s : State) (k ch signal : Nat) : Nat :=
  ((s.sc k).crcFails.filter fun e => e.1 == ch && e.2.1 == signal && decide (s.clk.now < e.2.2 + 1000000)).length

/-- CHANNEL_SPARED (R295): eight failures within 1 ms are traced to one signal; a spare replaces the failing signal; else the channel runs on a byte lane whose signals are
healthy, or fails. `laneHealthy` gives the two byte lanes. -/
def execChannelSpared (k : StackN) (ch : Fin 128) (signal : Fin 17) (laneHealthy : List Bool) (s : State) : Out := s.live fun s =>
  let st := s.getF (Reg.chanState k ch)
  let used := s.getF (Reg.chanSpares k ch)
  let degraded := fun (s : State) =>
    let n := ((List.range 128).filter fun c => s.getF (Reg.chanState k c) != 0).length
    (((s.setF (Reg.scChannelsDegraded k) n).setB (Reg.scDegraded k) (decide (0 < n)))).setDegraded 5 true
  if st = 2 ∨ s.signalFails k ch signal < 8 then .next s
  else if st = 0 ∧ used < 2 then
    .next ((s.setF (Reg.chanSpares k ch) (used + 1)).raise 0x430A (scUnit k) [ch.val, signal.val, used + 1])
  else
    let healthy := fun i => laneHealthy.getD i false && !(st == 1 && s.getF (Reg.chanHalf k ch) == i)
    if healthy 0 ∨ healthy 1 then
      let lane := if healthy 0 then 0 else 1
      let s := (s.setF (Reg.chanState k ch) 1).setF (Reg.chanHalf k ch) lane
      .next (degraded (s.raise 0x430B (scUnit k) [ch.val, lane]))
    else
      let s := s.setF (Reg.chanState k ch) 2
      let stuck := ((s.sc k).dirty.filter fun d => pageChan d.page == ch.val).length +
        ((s.sc k).commits.filter fun d => pageChan d.page == ch.val).length
      .next (degraded (s.raise 0x430C (scUnit k) [ch.val, stuck]))

/-! ## Power failure and power-up (R312-R314) -/

/-- The bank-group table as a record holds it. -/
def Sc.groupTable (c : Sc) : List (Nat × Nat × Nat) := c.groups.map fun e => (e.1, e.2.start, e.2.gap)

def recSeq (r : Option ScRecord) : Nat := match r with | some r => r.seq | none => 0

/-- Writes the record to the slot that holds the older one (R312, R313). -/
def State.writeRecord (s : State) (k : Nat) (clean : Bool) : State :=
  let r := fun (c : Sc) => (⟨max (recSeq c.recA) (recSeq c.recB) + 1, s.getF (Reg.scPowerOn k), clean, s.clk.now, c.groupTable⟩ : ScRecord)
  let first := decide (recSeq (s.sc k).recA ≤ recSeq (s.sc k).recB)
  let s := s.wroteKey k (if first then 0 else 512) (slotKey k 1024 (if first then 0 else 1)) 3
  s.modSc k fun c => if first then { c with recA := some (r c) } else { c with recB := some (r c) }

/-- The flush that a fall of PWRFAIL_N asks for counts its pages and its time from that fall (R312). -/
def Sc.flushFrom (fell : Nat) (c : Sc) : Sc := if c.flushAt.isSome then c else { c with flushAt := some fell, flushed := 0 }

/-- A flush begins (R312): background work stops and every dirty page is queued. One that a controller's reset interrupts or
delays goes on after it. -/
def State.stackFlush (s : State) (k fell : Nat) : State :=
  if s.getF (Reg.scState k) = 0 ∧ s.on (Reg.scCtrlReset k) then s.modSc k (Sc.flushFrom fell)
  else if s.getF (Reg.scState k) ≠ 1 then s
  else
    let s := s.setF (Reg.scState k) 2
    let s := (s.sc k).dirty.foldl (fun s d => s.queueCommit k d.page) s
    s.modSc k (Sc.flushFrom fell)

/-- PWRFAIL_FLUSH (R312): PWRFAIL_N has been low for 1 µs. -/
def State.pwrfailFlush (s : State) (k : Nat) : State :=
  ({ s with pins := { s.pins with pwrfailN := false } }.stackFlush k (s.clk.now - 1000)).updatePins

def execPwrfailFlush (k : StackN) (s : State) : Out := s.live fun s => .next (s.pwrfailFlush k)

/-- PWRFAIL_FLUSH_DONE (R312): the queued pages are written, then the record with CLEAN = 1. -/
def execPwrfailFlushDone (k : StackN) (s : State) : Out :=
  match (s.sc k).flushAt with
  | none => .next s
  | some t =>
    if s.getF (Reg.scState k) ≠ 2 then .next s
    else
      let s := (s.sc k).dirty.foldl (fun s d => s.queueCommit k d.page) s
      let s := s.commitAll k
      let s := (s.writeRecord k true).modSc k fun c => { c with flushAt := none }
      .next (s.raise 0x4301 (scUnit k) [(s.sc k).flushed, s.clk.now - t])

/-- PWRFAIL_RELEASE (R312): PWRFAIL_N is high again; the record is written with CLEAN = 0 and background work resumes. -/
def execPwrfailRelease (k : StackN) (s : State) : Out := s.live fun s =>
  let s := { s with pins := { s.pins with pwrfailN := true } }.modSc k fun c => { c with flushAt := none }
  if s.getF (Reg.scState k) ≠ 2 then .next s.updatePins
  else .next (((s.writeRecord k false).setF (Reg.scState k) 1).updatePins)

/-- The bank groups from the table of a record. -/
def tableGroups (t : List (Nat × Nat × Nat)) : Tbl BankGrp := t.map fun e => (e.1, ⟨e.2.1, e.2.2, 0⟩)

/-- The bank groups from a scan of every slot (R313): START and GAP of each group's newest write, by POWER_ON, then STAMP. The writes
since its last gap move are in no record and no slot, and count afresh (log entry 150). -/
def scannedGroups (k : Nat) (slots : Tbl PageMeta) : Tbl BankGrp :=
  let mine := (slots.filter fun e => e.1 / 2 ^ 25 == k && decide (e.1 % 2 ^ 25 < 1024 * 20482)).map fun e => (e.1 % 2 ^ 25 / 20482, e.2)
  ((mine.map Prod.fst).eraseDups).foldl (fun t b =>
    let newest := (mine.filter fun e => e.1 == b).foldl (fun (a : PageMeta) e =>
      if a.powerOn < e.2.powerOn ∨ (a.powerOn = e.2.powerOn ∧ a.stamp ≤ e.2.stamp) then e.2 else a) PageMeta.zero
    Tbl.put (fun _ => BankGrp.zero) t b ⟨newest.start, newest.gap, 0⟩) []

/-- SC_POWER_UP (R313): the newer record is taken; after an unclean one the slots are scanned; the ledger is loaded; the
record is written with CLEAN = 0, and service and the verify pass begin. -/
def execScPowerUp (k : StackN) (scanSt : Nat) (s : State) : Out := s.live fun s =>
  if s.getF (Reg.scState k) ≠ 0 ∨ s.getF (Reg.dieState (16 + k.val)) = 1 ∨ s.on (Reg.identHeldOut (16 + k.val)) then .next s
  else
    let c := s.sc k
    let newer := if recSeq c.recA < recSeq c.recB then c.recB else c.recA
    let clean := match newer with | some r => r.clean | none => false
    let count := match newer with | some r => r.powerOn | none => 0
    let written := match newer with | some r => r.stime | none => 0
    let s := s.setB (Reg.scUnclean k) (!clean)
    let s := if clean then s else s.raise 0x430D (scUnit k) [scanSt]
    let entries := (c.area.filterMap fun e => entryOf e.1 e.2).map fun e =>
      { e with expires := if clean then s.clk.now + (e.expires - written) else s.clk.now + 274000
               latest := if clean then s.clk.now + (e.latest - written) else s.clk.now }
    let s := (s.setLedger (scUnit k) ⟨entries, 0⟩).setF (Reg.ledgerOccupancy (scUnit k)) entries.length
    let s := s.setF (Reg.scPowerOn k) (count + 1)
    let groups := match clean, newer with
      | true, some r => tableGroups r.groups
      | _, _ => scannedGroups k s.pageMeta
    let s := s.modSc k fun c => { c with verified := 0, expired := 0, verifyAt := s.clk.now, groups := groups }
    let s := s.writeRecord k false
    let s := ((s.setF (Reg.scState k) 1).setB (Reg.scVerifyActive k) true).setF (Reg.scVerify k) 0
    .next (s.setF (Reg.dieState (16 + k.val)) 1)

/-! ## Controller resets (R315-R317) -/

/-- SC_CTRL.RESET with DISCARD = 1 (R316): every dirty page is flushed, then the controller resets. -/
def State.scDiscardReset (s : State) (k : Nat) : State :=
  if s.on (Reg.scDiscard k) ∧ (s.getF (Reg.scState k) = 1 ∨ s.getF (Reg.scState k) = 2) then
    let s := (s.sc k).dirty.foldl (fun s d => s.queueCommit k d.page) s
    (s.commitAll k).scReset k 3
  else s

/-- SC_RESET (R315, R316): a write of SC_CTRL.RESET, which discards under DISCARD, a self-check failure or a clock loss. -/
def execScReset (k : StackN) (cause : Cause) (s : State) : Out := s.live fun s =>
  .next (if cause = .register then
      (if !s.answers (Reg.sc k) then s else if s.on (Reg.scDiscard k) then s.scDiscardReset k else s.scReset k 0)
    else s.scReset k (min 2 (causeNum cause)))

/-- SC_DISCARD_RESET (R316). -/
def execScDiscardReset (k : StackN) (s : State) : Out := s.live fun s => .next (s.written (Reg.sc k) fun s => s.scDiscardReset k)

/-- A quarantine begins (R284). -/
def State.quarantine (s : State) (holder cause : Nat) : State :=
  let s := (s.setLedger holder ⟨[], s.clk.now + 272000⟩).setF (Reg.ledgerOccupancy holder) 0
  s.raise 0x4201 holder [holder, cause]

/-- A valid cached line with an uncorrectable error in the retained domain is marked POISONED, and is committed so (R315). -/
def State.loseCached (s : State) (k q line : Nat) : State :=
  let la := pageLa k q + 64 * line
  if (s.sc k).isCached q ∧ s.lineValid la then (s.makeDirty k q).setMark la 0x40 else s

/-- SC_RESET_DONE (R315, R316, R398): service resumes with what the retained domain held but for the lines that `lost` names, by
page and line; a discard has erased the ledger. A flush that PWRFAIL_N asks for follows (R312). -/
def execScResetDone (k : StackN) (lost : List (Nat × Fin 64)) (s : State) : Out := s.live fun s =>
  if s.getF (Reg.scState k) ≠ 0 ∨ !s.on (Reg.scCtrlReset k) then .next s
  else
    let c := s.sc k
    let s := ((s.setF (Reg.scState k) 1).setB (Reg.scCtrlReset k) false).wrapF (Reg.scResetCount k) 1
    let s := ((s.wrapF (Reg.dieInc (16 + k)) 1).restartSeqs (16 + k)).setF (Reg.dieState (16 + k)) 1
    let s := (s.setB (Reg.clockLost (16 + k)) false).setB (Reg.dieResetBit (16 + k)) false
    let s := lost.foldl (fun s e => s.loseCached k e.1 e.2) s
    let s := s.raise 0x4302 (scUnit k) [c.cause, s.clk.now - c.resetAt]
    let s := if c.cause = 3 then ((s.setB (Reg.scDiscard k) false).modSc k fun c => { c with area := [] }).quarantine (scUnit k) 0 else s
    .next (if s.pins.pwrfailN then s else s.stackFlush k s.clk.now)

end Sys2Proof.Machine
end

