-- ==== Sys2Proof/Machine/Target.lean ====
section
/-!
DEFINITION. Requests at their targets, the ledgers and the region table (R260-R289).
-/
namespace Sys2Proof.Machine

/-! ## Targets (R261, R269) -/

def hubUnit (p : Nat) : Nat := 0x1000 + p
/-- Die and slice of a user-space address (R163), die and site of a scratchpad window (R160). -/
def laSlice (la : Nat) : Nat × Nat := ((la - 0xF000000000) / 0x90000000, (la - 0xF000000000) % 0x90000000 / 0x800000)
def laWindow (la : Nat) : Nat × Nat := ((la - 0xF480000000) / 0x100000 / 288, (la - 0xF480000000) / 0x100000 % 288)
def laIsStack (la : Nat) : Bool := decide (la < 0xF000000000)
def laIsSlice (la : Nat) : Bool := decide (0xF000000000 ≤ la ∧ la < 0xF480000000)

/-- The hub of a die and a column that acts now: its partner while it is reset or reloads (R206, R223, R269). -/
def State.actingHub (s : State) (p : Nat) : Nat :=
  if p < 16 ∧ s.getF (Reg.hubState p) ≠ 1 ∧ s.getF (Reg.hubState (p ^^^ 1)) = 1 then p ^^^ 1 else p

/-- The port behind which a governed address lies. -/
def laPort (la : Nat) : Nat :=
  if laIsStack la then 16 + laStack la
  else
    let e := if laIsSlice la then laSlice la else laWindow la
    2 * e.1 + (if e.2 % 18 < 9 then 0 else 1)

/-- The unit that checks and records requests to a governed address (R269, R278). -/
def State.laHolder (s : State) (la : Nat) : Nat :=
  if laIsStack la then scUnit (laStack la) else hubUnit (s.actingHub (laPort la))

/-- The port of a request's target (R283): a governed address, a counter, or an I/O hub for the rest. -/
def State.targetPort (s : State) (r : Req) : Nat :=
  if r.opc.toNat = 0x18 ∨ r.opc.toNat = 0x19 ∨ r.opc.toNat = 0x1A then
    (if s.isHere (wordNode r.ga) then wordCounter r.ga / 4096 else s.ioPort)
  else if r.opc.toNat = 0x10 then
    (match Tbl.look (fun _ => (none : Option Nat)) s.fab.route (r.operand.toNat % 4096) with
      | some p => p
      | none => r.replyPort.val)
  else if s.isHere (gaNode r.ga) && laGoverned (gaLa r.ga) then laPort (gaLa r.ga)
  else s.ioPort

/-! ## Ledgers (R278-R284) -/

/-- The entries that a ledger can hold. -/
def ledgerCap (holder : Nat) : Nat :=
  if 0x1100 ≤ holder ∧ holder < 0x1200 then 65536 else if holder < 0x1100 then 4096 + 65536 else 16384

def LedgerEntry.isTag (e : LedgerEntry) (node unit inc seq : Nat) : Bool :=
  e.node == node && e.unit == unit && e.inc == inc && e.seq == seq

def LedgerEntry.hasTag (e : LedgerEntry) (r : Req) : Bool := e.isTag r.srcNode.toNat r.srcUnit.toNat r.inc.toNat r.seq.toNat

/-- Stores a ledger; LEDGER_OCCUPANCY counts its live entries (R288). -/
def State.putLedger (s : State) (h : Nat) (l : Ledger) : State :=
  (s.setLedger h l).setF (Reg.ledgerOccupancy h) (min (2 ^ 17 - 1) l.entries.length)

/-- The other hub of a compute die, which holds a copy of the ledger (R205, R278). -/
def partnerHolder (h : Nat) : Option Nat := if 0x1000 ≤ h ∧ h < 0x1010 then some (h ^^^ 1) else none

/-- Frees the entries of one ledger that `gone` selects. -/
def State.freeIn (s : State) (h : Nat) (gone : LedgerEntry → Bool) : State :=
  let l := s.ledger h
  if l.entries.any gone then s.putLedger h { l with entries := l.entries.filter fun e => !gone e } else s

/-- Frees the entries that `gone` selects, at a compute hub those of both hubs of its die. -/
def State.freeEntries (s : State) (h : Nat) (gone : LedgerEntry → Bool) : State :=
  match partnerHolder h with
  | some p => (s.freeIn h gone).freeIn p gone
  | none => s.freeIn h gone

/-- An entry is acknowledged: it is freed, but that of a control unit lives until the latest DEADLINE that it has answered has
passed (R279, R404). -/
def State.ackEntry (s : State) (e : LedgerEntry) : Option LedgerEntry :=
  if e.control && decide (s.clk.now ≤ e.latest) then some { e with acked := true, expires := e.latest + 1 } else none

/-- The entries of one ledger that `mine` selects are acknowledged. -/
def State.ackIn (s : State) (h : Nat) (mine : LedgerEntry → Bool) : State :=
  let l := s.ledger h
  if l.entries.any mine then s.putLedger h { l with entries := l.entries.filterMap fun e => if mine e then s.ackEntry e else some e } else s

/-- The entries that `mine` selects are acknowledged, at a compute hub those of both hubs of its die. -/
def State.ackEntries (s : State) (h : Nat) (mine : LedgerEntry → Bool) : State :=
  match partnerHolder h with
  | some p => (s.ackIn h mine).ackIn p mine
  | none => s.ackIn h mine

/-- A control unit's entry has answered one more copy (R404). -/
def LedgerEntry.answered (e : LedgerEntry) (r : Req) : LedgerEntry :=
  if e.control then
    let t := max e.latest r.deadline
    { e with latest := t, expires := if e.acked then t + 1 else t + 256000 }
  else e

/-- The entries that answer a copy of a request take note of it (R404). -/
def State.noteCopy (s : State) (h : Nat) (r : Req) : State :=
  let note := fun (s : State) (h : Nat) =>
    let l := s.ledger h
    s.setLedger h { l with entries := l.entries.map fun e => if e.hasTag r then e.answered r else e }
  match partnerHolder h with
  | some p => note (note s h) p
  | none => note s h

/-- The entry that matches a request's tag, in the ledger or, at a compute hub, in the copy of its partner's. -/
def State.findEntry (s : State) (h : Nat) (r : Req) : Option LedgerEntry :=
  match (s.ledger h).entries.find? (fun e => e.hasTag r), partnerHolder h with
  | none, some p => (s.ledger p).entries.find? fun e => e.hasTag r
  | o, _ => o

/-- What a target answers (R274). -/
structure Answer where
  status : Nat
  applied : Bool
  saturated : Bool
  detail : Nat
  value : W64
  data : List (Option Line)
deriving DecidableEq, Repr

/-- An answer with a status alone. -/
def Answer.refuse (status detail : Nat) : Answer := ⟨status, false, false, detail, 0, []⟩

/-- The reply to a request. -/
def Answer.toReply (a : Answer) (r : Req) (hit : Bool) : Reply :=
  { srcNode := r.srcNode, srcUnit := r.srcUnit, inc := r.inc, seq := r.seq, opc := r.opc, status := BitVec.ofNat 8 a.status,
    saturated := a.saturated, ledgerHit := hit, detail := BitVec.ofNat 32 a.detail, value := a.value, data := a.data }

/-- A compute hub keeps 4,096 entries in the hub and spills its oldest (R279). -/
def spillOldest (holder : Nat) (l : List LedgerEntry) : List LedgerEntry :=
  if holder < 0x1010 ∧ 4096 ≤ (l.filter fun e => !e.spilled).length then
    match l.find? (fun e => !e.spilled) with
    | some o => l.map fun e => if e = o then { e with spilled := true } else e
    | none => l
  else l

/-- Records an applied request (R278): it expires 2,000 st after its DEADLINE (R279), or 256 µs for a control unit (R404). -/
def State.record (s : State) (h : Nat) (r : Req) (a : Answer) (page : Nat) : State :=
  let l := s.ledger h
  let e : LedgerEntry :=
    { node := r.srcNode.toNat, unit := r.srcUnit.toNat, inc := r.inc.toNat, seq := r.seq.toNat, opc := r.opc.toNat,
      status := a.status, saturated := a.saturated, offPackage := r.remote, value := a.value,
      expires := r.deadline + (if isControlUnit r.srcUnit.toNat then 256000 else 2000), spilled := false, page := page,
      durable := false, slot := none, control := isControlUnit r.srcUnit.toNat, latest := r.deadline, acked := false }
  (s.putLedger h { l with entries := spillOldest h l.entries ++ [e] }).bump (Reg.ledgerCnt h 0) 1

def reqSrcId (r : Req) : Nat := r.srcNode.toNat * 2 ^ 16 + r.srcUnit.toNat

/-- The request leaves the fabric. -/
def State.tookReq (s : State) (r : Req) : State := { s with net := { s.net with reqs := s.net.reqs.erase r } }

/-! ## The queues of a target (R285) -/

/-- The hub of a target. -/
def State.holderHub (s : State) (h : Nat) : Nat :=
  if h < 0x1100 then h - 0x1000 else if h < 0x1200 then 16 + (h - 0x1100) else s.portFor (28 + 2 * (h - 0x1200))

/-- Whether a request waits for its turn (R285): another source has had a request queued at the target since this request's
source was last served, so that no source waits behind more than one request of another. -/
def State.turnHeld (s : State) (h : Nat) (r : Req) : Bool :=
  s.fab.queued.any fun q =>
    q.holder == h && decide (reqSrcId q.req ≠ reqSrcId r) && decide (q.req ∈ s.net.reqs) && decide (reqSrcId r ∈ q.passed)

/-- The requests that still wait in the targets' buffers. -/
def State.stillQueued (s : State) : List Queued := s.fab.queued.filter fun q => decide (q.req ∈ s.net.reqs)

/-- A request joins its target's queue, or keeps its place there; one that does not stand in the fabric has no place. -/
def State.enqueue (s : State) (h : Nat) (r : Req) (full : Option Nat) : State :=
  let l := s.stillQueued
  let l := if l.any fun q => q.holder == h && q.req == r then
      l.map fun q => if q.holder = h ∧ q.req = r then { q with full := full } else q
    else if r ∈ s.net.reqs then l ++ [⟨h, r, [], full⟩] else l
  { s with fab := { s.fab with queued := l } }

/-- A target has served a request: it leaves the queue, and the others there have waited behind its source once more. -/
def State.servedReq (s : State) (h : Nat) (r : Req) : State :=
  let l := (s.stillQueued.filter fun q => !(q.holder == h && q.req == r)).map fun (q : Queued) =>
    if q.holder = h then { q with passed := addTo q.passed (reqSrcId r) } else q
  { s with fab := { s.fab with queued := l } }

/-- Cycles of a target's clock in a span (R57): a controller's, a hub's or an I/O engine's, at the rate its region runs. -/
def State.holderCycles (s : State) (h span : Nat) : Nat :=
  let step := Tbl.look (fun _ => 0) s.clk.regionStep h
  let tenths := if h < 0x1100 then (if step = 0 then 16 else 12)
    else if h < 0x1200 then (if step = 0 then 15 else 10) else (if step = 0 then 10 else 8)
  span * tenths / 10

/-- The cycles for which a queued request has waited for a free entry since they were last counted (R288). -/
def State.fullCycles (s : State) (h : Nat) (r : Req) : Nat :=
  match s.fab.queued.find? (fun q => q.holder == h && q.req == r) with
  | some { full := some t, .. } => s.holderCycles h (s.clk.now - t)
  | _ => 0

/-- Whether a request has been taken from its queue and waits only for its region entry (R266) or its page (R302). -/
def State.takenUp (s : State) (h : Nat) (r : Req) : Bool :=
  (s.fab.rgnWait.any fun w => w.holder == h && w.req == r) ||
    (decide (0x1100 ≤ h ∧ h < 0x1200) && (s.sc (h - 0x1100)).fetching.any fun f => f.1 == laPage (gaLa r.ga))

/-- A request at its target (R194, R282, R285): discarded when its incarnation is stale or its DEADLINE has passed, answered
from the ledger, refused during a quarantine, held while it is another source's turn or the ledger is full, or served by
`act`, which answers nothing while the request must wait. A waiting request stays in the target's buffers: its command leaves the
machine as `act` leaves it. `answer` sends the reply, or keeps it until a mirror has confirmed; `again` sends a reply from the
ledger. -/
def State.atTargetBy (s : State) (again answer : State → Reply → State) (h : Nat) (r : Req) (records : Bool) (page : Nat)
    (act : State → State × Option Answer) : State :=
  if s.isHere r.srcNode.toNat ∧ r.inc.toNat ≠ s.incOf r.srcUnit.toNat then
    (s.tookReq r).stale (s.holderHub h) r.srcUnit.toNat r.inc.toNat
  else
    let took := fun (s : State) =>
      let s := (s.tookReq r).servedReq h r
      if r.retry then s.bump (Reg.ledgerCnt h 4) 1 else s
    if r.deadline < s.clk.now then
      let s := (took s).bump (Reg.ledgerCnt h 5) 1
      s.accum 0x4204 h [s.clk.frame, 1, (reqSrcId r)] (accCount (reqSrcId r))
    else
      let s := match r.rack with
        | some q => s.ackEntries h fun e => e.isTag r.srcNode.toNat r.srcUnit.toNat r.inc.toNat q.toNat
        | none => s
      let l := s.ledger h
      match s.findEntry h r with
      | some e =>
        let s := ((took s).noteCopy h r).bump (Reg.ledgerCnt h 1) 1
        again s ((⟨e.status, false, e.saturated, 0, e.value, []⟩ : Answer).toReply r true)
      | none =>
        if records ∧ r.retry ∧ s.clk.now < l.quarantineEnd then
          again ((took s).bump (Reg.ledgerCnt h 7) 1) ((Answer.refuse 0x33 0).toReply r false)
        else if s.turnHeld h r then s.enqueue h r none
        else
          let s := let n := s.fullCycles h r
            if n = 0 then s else s.bump (Reg.ledgerCnt h 3) n
          if records ∧ ledgerCap h ≤ l.entries.length then s.enqueue h r (some s.clk.now)
          else
            match act s with
            | (s, none) => if s.takenUp h r then s.servedReq h r else s.enqueue h r none
            | (s, some a) =>
              let s := took s
              let s := if records ∧ a.applied then s.record h r a page else s
              answer s (a.toReply r false)

/-- A request of this package at its target that answers at once. -/
def State.atTarget (s : State) (h : Nat) (r : Req) (records : Bool) (page : Nat) (act : State → State × Option Answer) : State :=
  s.atTargetBy State.reply State.reply h r records page act

/-! ## The region check (R263-R266) -/

/-- The PERM bit a request needs (R263): a plait's result and status stores, which come from a hub, need P. -/
def reqPerm (r : Req) : Nat :=
  if r.opc = 2 ∧ 0x1000 ≤ r.srcUnit.toNat ∧ r.srcUnit.toNat < 0x1020 then 4 else permBit r.opc.toNat

/-- The target's check (R265): 0 when it passes. -/
def regionCheck (w : W64) (r : Req) : Nat :=
  if !rgnValid w then 0x11
  else if r.remote && !rgnPerm w 5 then 0x11
  else if rgnKey w ≠ 0 ∧ r.key ≠ rgnKey w then 0x10
  else if !rgnPerm w (reqPerm r) then 0x11
  else 0

def State.rgnCached (s : State) (h : Nat) : List Nat := Tbl.look (fun _ => []) s.fab.rgnCache h
def rgnCacheCap (h : Nat) : Nat := if 0x1100 ≤ h then 4096 else 1024
/-- The granule becomes the most recently used of its target's cache. -/
def State.rgnTouch (s : State) (h g : Nat) : State :=
  let c := (g :: (s.rgnCached h).filter fun x => x != g).take (rgnCacheCap h)
  { s with fab := { s.fab with rgnCache := Tbl.put (fun _ => []) s.fab.rgnCache h c } }

/-- A request failed the checks of R265 or R262: ACCESS_FAULT of this frame (R289). -/
def State.accessFault (s : State) (h status source granule : Nat) : State :=
  s.accum 0x4203 h [s.clk.frame, 1, status, source, granule] fun same d => match d with
    | [f, n, st, src, g] => if same && decide (source < src) then [f, n + 1, status, source, granule] else [f, n + 1, st, src, g]
    | d => d

/-! ## Serving (R165-R168, R269, R270, R302) -/

/-- The answer to a LOAD of lines already marked: POISONED before MEDIUM_EXPIRED, the marked lines withheld (R287). -/
def State.loadAnswer (s : State) (la n : Nat) : Answer :=
  let mark := fun i => if s.lineValid (la + 64 * i) then s.lineMark (la + 64 * i) else 0
  let marks := (List.range n).map mark
  let st := if marks.any (· == 0x40) then 0x40 else if marks.any (· == 0x41) then 0x41 else 0
  ⟨st, true, false, 0, 0, (List.range n).map fun i => if mark i = 0 then some (s.readLine (la + 64 * i)) else none⟩

/-- Whether the lines of a request are held by the coalescer: the page is cached, and a page still being fetched holds the
lines stored since (R302). -/
def Sc.holds (c : Sc) (q first n : Nat) : Bool :=
  c.isCached q && (match c.fetching.find? (fun f => f.1 == q) with
    | some f => (List.range n).all fun i => f.2.testBit (first + i)
    | none => true)

/-- A cached line matches neither its check nor a mark (R300): a clean page is dropped and read from the medium; a line of a page
that the cache alone holds is marked POISONED, and is committed so. -/
def State.cachedFault (s : State) (k q line la n : Nat) : State × Option Answer :=
  let c := s.sc k
  let s := s.pathFault k q line
  let alone := c.isDirty q || c.commits.any fun x => x.page == q
  let s := if alone then ((s.makeDirty k q).setMark (pageLa k q + 64 * line) 0x40).bump (Reg.scCnt k 3) n
    else (s.modSc k fun c => { c with cached := c.cached.filter fun p => p != q }).bump (Reg.scCnt k 0) 1
  (s, some (s.loadAnswer la n))

/-- A LOAD from a stack (R300, R302). -/
def State.stackLoad (s : State) (r : Req) (res : SlotRead) : State × Option Answer :=
  let la := gaLa r.ga
  let k := laStack la
  let q := laPage la
  let c := s.sc k
  let fault := match slotShown res with
    | .pathFault line => if s.lineValid (pageLa k q + 64 * line) ∧ s.lineMark (pageLa k q + 64 * line) = 0 then some line.val else none
    | _ => none
  if c.holds q (la / 64 % 64) r.lines then
    match fault with
    | some line => s.cachedFault k q line la r.lines
    | none =>
      let s := (s.modSc k fun c => c.touch (s.cachePlaces k) q).bump (Reg.scCnt k 3) r.lines
      (s, some (s.loadAnswer la r.lines))
  else if s.chanFailed k q then (s, some (Answer.refuse 0x31 0))
  else if c.isCached q then (s, none)
  else
    let s := (s.transferred k (pageChan q) res).bump (Reg.scCnt k 0) 1
    match slotShown res with
    | .good n => let s := s.corrected k q n; (s, some (s.loadAnswer la r.lines))
    | .pathFault line => (s.pathFault k q line, some (Answer.refuse 0x40 0))
    | _ =>
      let m := s.markPage k q 0 0
      (m.1, some (m.1.loadAnswer la r.lines))

/-- Whether the coalescer can take a page's store now (R301). -/
def State.canCoalesce (s : State) (k q : Nat) : Bool := s.dirtyRoom k q && (s.sc k).placeFor (s.cachePlaces k) q

/-- A STORE to a stack (R302): acknowledged once its lines are in the coalescer. -/
def State.stackStore (s : State) (r : Req) : State × Option Answer :=
  let la := gaLa r.ga
  let k := laStack la
  let q := laPage la
  if s.chanFailed k q ∧ !(s.sc k).isCached q then (s, some (Answer.refuse 0x31 0))
  else if !s.canCoalesce k q then (s, none)
  else
    (r.data.zipIdx.foldl (fun s e => s.coalesce (la + 64 * e.2) e.1) s, some ⟨0, true, false, 0, 0, []⟩)

/-- An atomic at a stack (R150, R270, R302): it waits for its line; on an invalid line it operates on zero; on a marked line
it applies nothing. -/
def State.stackAtomic (s : State) (r : Req) : State × Option Answer :=
  let la := gaLa r.ga
  let k := laStack la
  let q := laPage la
  let c := s.sc k
  let n := atomicBytes r.opc.toNat
  if s.chanFailed k q ∧ !c.isCached q then (s, some (Answer.refuse 0x31 0))
  else if !s.canCoalesce k q then (s, none)
  else if !c.isCached q then
    (s.modSc k fun c => { c.touch (s.cachePlaces k) q with fetching := c.fetching ++ [(q, 0)] }, none)
  else if !c.holds q (la / 64 % 64) 1 then (s, none)
  else if s.lineValid la ∧ s.lineMark la ≠ 0 then (s, some (Answer.refuse (s.lineMark la) 0))
  else
    let line := s.readLine la
    let off := la % 64
    let old := BitVec.ofNat 64 (line.toNat / 2 ^ (8 * off) % 2 ^ (8 * n))
    let new := (atomicNew r.opc.toNat old r.operand r.compare).toNat % 2 ^ (8 * n)
    let line' := BitVec.ofNat 512 (line.toNat - old.toNat * 2 ^ (8 * off) + new * 2 ^ (8 * off))
    (s.coalesce (la / 64 * 64) line', some ⟨0, true, false, 0, old, []⟩)

/-- Whether a die's memories answer: none while they must wait, a status when they cannot serve (R163, R179, R399). -/
def State.dieServes (s : State) (d : Nat) : Option Nat :=
  let c := s.cdie d
  if s.getF (Reg.dieState d) = 5 then some 0x31
  else if c.fencedAt.isSome then (if c.fenceDone then some 0x30 else none)
  else some 0

/-- A request to a slice through its port (R165-R168). -/
def State.sliceServe (s : State) (r : Req) (found : LineRead) : State × Option Answer :=
  let la := gaLa r.ga
  let d := (laSlice la).1
  let p := (laSlice la).2
  match s.dieServes d with
  | none => (s, none)
  | some st =>
    if st ≠ 0 then (s, some (Answer.refuse st 0))
    else if s.getF (Reg.sdState d) = 3 ∨ s.getF (Reg.sliceState d p) = 3 then (s, some (Answer.refuse 0x31 0))
    else if !s.sliceOpen d p then (s, none)
    else
      let s := s.bump (Reg.sdCnt d 4) r.lines
      if r.opc = 1 then
        let x := s.readSlice d p la r.lines false found
        (x.1, some ⟨if x.2.isEmpty then 0 else 0x40, true, false, 0, 0,
          (List.range r.lines).map fun i => if i ∈ x.2 then none else some (x.1.readLine (la + 64 * i))⟩)
      else (r.data.zipIdx.foldl (fun s e => s.storeLine (la + 64 * e.2) e.1) s, some ⟨0, true, false, 0, 0, []⟩)

/-- A request to a scratchpad window (R157-R160): no word of a read with an uncorrectable word leaves the tile. -/
def State.windowServe (s : State) (r : Req) (found : LineRead) (collided : List Nat) : State × Option Answer :=
  let la := gaLa r.ga
  let d := (laWindow la).1
  let x := (laWindow la).2
  let u := d * 512 + x
  let a := la % 0x100000
  match s.dieServes d with
  | none => (s, none)
  | some st =>
    if st ≠ 0 then (s, some (Answer.refuse st 0))
    else if s.getF (Reg.siteState d x) ≠ 1 then (s, some (Answer.refuse 0x12 0))
    else
      let s := s.siteBump u 7 1
      if r.opc = 1 then
        let s := (s.checkSeg u Segment.mv a (64 * r.lines)).siteBump u 6 found.corrected
        let bad := (List.range r.lines).filter fun i => decide (i ∈ found.failed)
        let s := bad.foldl (fun s i => s.raise 0x4108 (s.dieUnit d) [d, x, a / 64 + i]) s
        if bad.isEmpty then (s, some ⟨0, true, false, 0, 0, (s.spadLines u a r.lines).map some⟩)
        else (s, some ⟨0x40, true, false, 0, 0, List.replicate r.lines none⟩)
      else
        let s := r.data.zipIdx.foldl (fun s e => s.portB u (a + 64 * e.2) (decide (e.2 ∈ collided)) e.1) s
        let s := s.checkSeg u Segment.mv a (64 * r.lines)
        let lost := (collided.filter fun i => decide (i < r.data.length)).length
        let c := s.collide u 0 lost
        (c.1, some ⟨c.2, true, false, if c.2 = 0x22 then lost else 0, 0, []⟩)

/-- A governed request whose region entry is at hand (R265, R269, R287). -/
def State.governed (s : State) (h : Nat) (r : Req) (res : SlotRead) (found : LineRead) (collided : List Nat) : State × Option Answer :=
  let la := gaLa r.ga
  let g := granuleOf la
  let s := s.rgnTouch h g
  let st := regionCheck ((s.region g).word s.clk.frame) r
  if st ≠ 0 then (s.accessFault h st (reqSrcId r) g, some (Answer.refuse st g))
  else if laIsStack la then
    let k := laStack la
    if s.getF (Reg.scState k) = 0 then (s, none)
    else if r.opc = 1 then s.stackLoad r res
    else if isAtomicOp r.opc.toNat then s.stackAtomic r
    else s.stackStore r
  else if isAtomicOp r.opc.toNat then (s, some (Answer.refuse 0x12 0))
  else if laIsSlice la then s.sliceServe r found
  else s.windowServe r found collided

/-- Whether a request's shape is wrong (R274, R118): its operation, its flit count, a bit marked zero, its lines or its
alignment. -/
def reqMalformed (r : Req) (opc : Nat) : Bool :=
  let carries := opc == 2 || opc == 0x10 || opc == 0x20
  r.opc.toNat != opc || r.zeros != 0 || r.nflits != (if carries then flitsFor r.lines else 1) ||
  r.data.length != (if carries then r.lines else 0) ||
  (if opc == 1 || carries then r.lines == 0 || decide (64 < r.lines) else r.lines != 0)

/-- A request that a mover would have refused for its address (R118, R261): the status, 0 when none. -/
def reqBadAddress (r : Req) : Nat :=
  let la := gaLa r.ga
  if laReserved la then 0x12
  else if isAtomicOp r.opc.toNat then (if la % atomicBytes r.opc.toNat ≠ 0 then 0x13 else 0)
  else if la % 64 ≠ 0 ∨ 4096 < la % 4096 + 64 * r.lines then 0x13
  else 0

/-- Whether a stack cannot be reached (R25, R33, R60): its controller has failed, its die is held out, or its vertical link has
failed. -/
def State.stackOut (s : State) (k : Nat) : Bool :=
  s.getF (Reg.scState k) == 3 || s.getF (Reg.dieState (16 + k)) == 5 || s.getF (Reg.vlinkWidth (16 + k)) == 2

/-- The clock regions of a governed address's target: its hub, and its stack (R57). -/
def State.laRegions (s : State) (la : Nat) : List Nat :=
  if laIsStack la then [hubUnit (16 + laStack la), scUnit (laStack la)] else [hubUnit (s.actingHub (laPort la))]

/-- Whether credits hold a request for a governed address (R57, R223): a region of its target is stopped, or its hubs are in
reset. -/
def State.laHeld (s : State) (la : Nat) : Bool :=
  ((s.laRegions la).any fun u => s.clk.stopped.contains u) ||
    (!laIsStack la && (match s.dieServes (laPort la / 2) with | some st => st == 0 | none => true) &&
      (let st := s.getF (Reg.hubState (s.actingHub (laPort la))); st == 0 || st == 2))

/-- A governed request at its target: held while its target is (R57), refused where its stack cannot be reached (R25) or its
payload is wrong (R274), and waiting for its region entry on a miss (R266). -/
def State.serveTarget (s : State) (opc : Nat) (r : Req) (res : SlotRead) (found : LineRead) (collided : List Nat) : State :=
  let la := gaLa r.ga
  if s.laHeld la then s else
  let h := s.laHolder la
  let g := granuleOf la
  let s' := s.atTarget h r (r.opc != 1) (if laIsStack la then laPage la else 0) fun s =>
    if laIsStack la ∧ s.stackOut (laStack la) then (s, some (Answer.refuse 0x31 0))
    else if reqMalformed r opc then (s, some (Answer.refuse 0x12 0))
    else if reqBadAddress r ≠ 0 then (s, some (Answer.refuse (reqBadAddress r) 0))
    else if g ∈ s.rgnCached h then s.governed h r res found collided
    else
      let w : TargetWait := ⟨h, g, r, res, found, collided⟩
      let ws := if w ∈ s.fab.rgnWait then s.fab.rgnWait else s.fab.rgnWait ++ [w]
      ({ s with fab := { s.fab with rgnWait := ws } }, none)
  if laIsStack la then s'.throughCommit (laStack la) (laPage la) else s'

/-- A request arrives at its target for a governed address of this node. -/
def State.targetReq (s : State) (opc : Nat) (r : Req) (res : SlotRead) (found : LineRead) (collided : List Nat) : State :=
  if !s.isHere (gaNode r.ga) then s
  else if laReserved (gaLa r.ga) then (s.tookReq r).reply ((Answer.refuse 0x12 0).toReply r false)
  else if laGoverned (gaLa r.ga) then s.serveTarget opc r res found collided
  else s

/-- LOAD_REQ: lines are read (R282); `res` is what a read of the medium shows (R300), `found` what one of a slice or a window
shows (R159, R167). -/
def execLoadReq (r : Req) (res : SlotRead) (found : LineRead) (s : State) : Out := s.live fun s => .next (s.targetReq 1 r res found [])

/-- STORE_REQ: lines are written (R282), also those that a hub stores for a spoke flit (R209); `collided` names the words of a window that port A took (R157). -/
def execStoreReq (r : Req) (collided : List Nat) (s : State) : Out := s.live fun s =>
  .next (s.targetReq (if r.opc = 0x20 ∧ 0x1000 ≤ r.srcUnit.toNat ∧ r.srcUnit.toNat < 0x1020 then 0x20 else 2) r (.good 0) .clean collided)

/-- FADD32_REQ: an int32 fetch-add at a stack (R150). -/
def execFadd32Req (r : Req) (s : State) : Out := s.live fun s => .next (s.targetReq 4 r (.good 0) .clean [])

/-- FADD64_REQ: an int64 fetch-add at a stack (R150). -/
def execFadd64Req (r : Req) (s : State) : Out := s.live fun s => .next (s.targetReq 5 r (.good 0) .clean [])

/-- FADDF32_REQ: an FP32 fetch-add at a stack (R150). -/
def execFaddf32Req (r : Req) (s : State) : Out := s.live fun s => .next (s.targetReq 6 r (.good 0) .clean [])

/-- FADDBF2_REQ: a fetch-add of two bfloat16 values at a stack (R150). -/
def execFaddbf2Req (r : Req) (s : State) : Out := s.live fun s => .next (s.targetReq 7 r (.good 0) .clean [])

/-- SWAP64_REQ: a swap at a stack (R150). -/
def execSwap64Req (r : Req) (s : State) : Out := s.live fun s => .next (s.targetReq 8 r (.good 0) .clean [])

/-- CAS64_REQ: a compare-and-swap at a stack (R150). -/
def execCas64Req (r : Req) (s : State) : Out := s.live fun s => .next (s.targetReq 9 r (.good 0) .clean [])

/-- MIN64_REQ: a signed minimum at a stack (R150). -/
def execMin64Req (r : Req) (s : State) : Out := s.live fun s => .next (s.targetReq 10 r (.good 0) .clean [])

/-- MAX64_REQ: a signed maximum at a stack (R150). -/
def execMax64Req (r : Req) (s : State) : Out := s.live fun s => .next (s.targetReq 11 r (.good 0) .clean [])

/-- AND64_REQ: an and at a stack (R150). -/
def execAnd64Req (r : Req) (s : State) : Out := s.live fun s => .next (s.targetReq 12 r (.good 0) .clean [])

/-- OR64_REQ: an or at a stack (R150). -/
def execOr64Req (r : Req) (s : State) : Out := s.live fun s => .next (s.targetReq 13 r (.good 0) .clean [])

/-- XOR64_REQ: an xor at a stack (R150). -/
def execXor64Req (r : Req) (s : State) : Out := s.live fun s => .next (s.targetReq 14 r (.good 0) .clean [])

/-! ## Region entries (R176, R266-R268) -/

/-- TARGET_CACHE_FILL (R176, R266): the entry fills the target's cache, and the requests that wait for it are checked. While no
system area serves the lookup nothing arrives; an entry that cannot be read completes them POISONED (log entry 127). -/
def execTargetCacheFill (holder : BitVec 16) (granule : GranuleN) (s : State) : Out := s.live fun s =>
  let h := holder.toNat
  let g := granule.val
  let mine := fun (w : TargetWait) => w.holder == h && w.granule == g
  let ws := s.fab.rgnWait.filter mine
  let taken := fun (s : State) => { s with fab := { s.fab with rgnWait := s.fab.rgnWait.filter fun w => !mine w } }
  match s.entryDie g with
  | none => .next s
  | some d =>
    if g ∈ (s.sdie d).badEntries then
      .next (ws.foldl (fun s w => ((s.tookReq w.req).servedReq h w.req).reply ((Answer.refuse 0x40 0).toReply w.req false)) (taken s))
    else
      let s := taken s
      let s := if (0x1000 ≤ h ∧ h < 0x1010) ∨ (0x1100 ≤ h ∧ h < 0x110C) then s.rgnTouch h g else s
      .next (ws.foldl (fun s w => s.serveTarget w.req.opc.toNat w.req w.res w.found w.collided) s)

/-- The offset in a store die's system area of a granule's entry: in its partition, or in the mirror of the other's (R175). -/
def entryOffset (d g : Nat) : Nat := (if g % 8 = d then 0 else 0x3C00000) + 16 * (g / 8)

/-- The line of a system area that holds a granule's entry has been read (R167, R175): corrections are counted, and a line that
cannot be read keeps its entries poisoned until they are written again, with STORE_POISONED. That event names a slice, and the
system area is none: the item is free (log entry 127). Also whether the entry could be read. -/
def State.readEntry (s : State) (d g : Nat) (found : LineRead) : State × Bool :=
  let off := entryOffset d g
  let s := (s.bump (Reg.sdCnt d 0) found.corrected).bump (Reg.sdCnt d 2) (lineAgain found off 0)
  let x := s.sdie d
  if lineBad found off 0 ∨ g ∈ x.badEntries then
    let s := (s.setSdie d { x with badEntries := addTo x.badEntries g }).bump (Reg.sdCnt d 1) 1
    (s.tookFree.raise 0x4108 (s.dieUnit d) [d, s.freeWord.toNat, off / 512, off % 512 / 64], false)
  else (s, true)

/-- Whether a hub of a die takes lookups from outside it (R176): its even hub, or its odd hub while the even one is in reset. -/
def State.lookupHub (s : State) (p : Nat) : Bool :=
  s.hubUp p && (p % 2 == 0 || s.getF (Reg.hubState (p - 1)) == 0 || s.getF (Reg.hubState (p - 1)) == 3)

/-- REGION_ENTRY_REQ (R176): a hub reads the entry from its die's partition, or from its mirror while the partition's own
store die is in reset or reloads, which it counts. A hub that is in reset serves nothing; its partner stands in for it. `found`
is what the codes of the system area show. -/
def execRegionEntryReq (hub : PortN) (granule : GranuleN) (found : LineRead) (s : State) : Out := s.live fun s =>
  let d := hub.val / 2
  let g := granule.val
  let own := g % 8
  let r := s.region g
  let staged := (r.staged &&& 0x0000FFFFFFFF03FF#64) ||| (if r.pending then 0x400#64 else 0) |||
    BitVec.ofNat 64 (r.atFrame % 2 ^ 16 * 2 ^ 48)
  let serve := fun (s : State) =>
    let x := s.readEntry d g found
    if x.2 then { x.1 with net := { x.1.net with entries := x.1.net.entries ++ [(hub.val, g, r.active, staged)] } } else x.1
  if 16 ≤ hub.val ∨ s.getF (Reg.sdState d) ≠ 1 ∨ s.lookupHub hub = false then .next s
  else if own = d then .next (serve s)
  else if (own + 4) % 8 = d ∧ s.getF (Reg.sdState own) ≠ 1 then .next ((serve s).bump (Reg.sdCnt d 5) 1)
  else .next s

/-- RGN_STAGE_APPEND (R268): a write of RGN_STAGE_HI appends GRANULE, ATTR and KEY, or sets OVERFLOW when the list is full.
While a check runs the write is ignored (R421). -/
def State.rgnAppend (s : State) (keyHi : W32) : State :=
  if s.getF Reg.hawkState = 1 then s.setB Reg.hawkWriteIgnored true
  else
    let s := s.setF Reg.rgnKeyHi keyHi.toNat
    if s.hawk.rgnStage.length < 4096 then
      let word := BitVec.ofNat 64 (s.getF Reg.rgnAttr + s.getF Reg.rgnKeyLo * 2 ^ 16 + s.getF Reg.rgnKeyHi * 2 ^ 32)
      let list := s.hawk.rgnStage ++ [⟨s.getF Reg.rgnIdx, word⟩]
      { s with hawk := { s.hawk with rgnStage := list } }.setF Reg.rgnCount list.length
    else s.setB Reg.rgnOverflow true

def execRgnStageAppend (keyHi : W32) (s : State) : Out := s.live fun s => .next (s.written Reg.hawkBase fun s => s.rgnAppend keyHi)

/-- Empties the region staging list (R268). -/
def State.clearRgnStage (s : State) : State :=
  { s with hawk := { s.hawk with rgnStage := [] } }.setF Reg.rgnCount 0

/-- RGN_STAGE_CLEAR (R268): a write of RGN_STAGE_CTRL.CLEAR empties the list, unless a check runs (R421). -/
def State.rgnClearWrite (s : State) : State :=
  if s.getF Reg.hawkState = 1 then s.setB Reg.hawkWriteIgnored true else s.clearRgnStage

def execRgnStageClear (s : State) : Out := s.live fun s => .next (s.written Reg.hawkBase State.rgnClearWrite)

/-- Folds the staged word of an entry whose trowel instant has passed (R267 step 5). -/
def Region.fold (r : Region) (frame : Nat) : Region :=
  if r.pending ∧ (frame % 2 ^ 16 + 2 ^ 16 - r.atFrame % 2 ^ 16) % 2 ^ 16 < 2 ^ 15 then
    { r with active := r.staged, pending := false }
  else r

/-- An entry is written in both copies of its partition: it can be read again (R167). -/
def State.wroteEntry (s : State) (g : Nat) : State :=
  [g % 8, (g + 4) % 8].foldl (fun s d =>
    let x := s.sdie d
    if g ∈ x.badEntries then s.setSdie d { x with badEntries := x.badEntries.filter fun y => y != g } else s) s

/-- REGION_FOLD (R267): each staged word in force is folded into the active word, and PENDING clears. -/
def execRegionFold (s : State) : Out := s.live fun s =>
  .next (s.regions.foldl (fun s e =>
    let r := e.2.fold s.clk.frame
    if r = e.2 then s else (s.setRegion e.1 r).wroteEntry e.1) s)

/-! ## Ledger entries and windows (R279, R281, R283, R284) -/

/-- REPLY_ACK (R279, R404): the listed entries are acknowledged. It holds from 1 to 58 sequences (R274). -/
def execReplyAck (holder : BitVec 16) (srcNode srcUnit : BitVec 16) (inc : Byte) (seqs : List (BitVec 24)) (s : State) : Out := s.live fun s =>
  if seqs.isEmpty ∨ 58 < seqs.length then .next s
  else .next (s.ackEntries holder.toNat fun e =>
    seqs.any fun q => e.isTag srcNode.toNat srcUnit.toNat inc.toNat q.toNat)

/-- LEDGER_ENTRY_EXPIRED (R279, R404): the entry has reached the end of its life; one that was acknowledged is not counted. -/
def execLedgerEntryExpired (holder : BitVec 16) (srcNode srcUnit : BitVec 16) (inc : Byte) (seq : BitVec 24) (s : State) : Out := s.live fun s =>
  let h := holder.toNat
  let gone := fun (e : LedgerEntry) =>
    e.isTag srcNode.toNat srcUnit.toNat inc.toNat seq.toNat && decide (e.expires ≤ s.clk.now)
  .next (match (s.ledger h).entries.find? gone with
    | some e => if e.acked then s.freeEntries h gone else (s.freeEntries h gone).bump (Reg.ledgerCnt h 2) 1
    | none => s)

/-- LEDGER_QUARANTINE_END (R284): 272 µs after the loss. -/
def execLedgerQuarantineEnd (holder : BitVec 16) (s : State) : Out := s.live fun s =>
  let l := s.ledger holder.toNat
  .next (if 0 < l.quarantineEnd ∧ l.quarantineEnd ≤ s.clk.now then s.setLedger holder.toNat { l with quarantineEnd := 0 } else s)

/-- Whether a request names a stack page of this node. -/
def State.reqToStack (s : State) (r : Req) : Bool :=
  r.opc.toNat / 8 != 3 && r.opc != 0x10 && s.isHere (gaNode r.ga) && laGoverned (gaLa r.ga) && laIsStack (gaLa r.ga)

/-- Whether a request has not left its source's hub because its target cannot be reached (R25, R203, R283, R373): the pair to the
target's port has failed and no relay exists, its stack cannot be reached, or no fibre is usable for its node. -/
def State.unreachable (s : State) (r : Req) : Bool :=
  let p := r.replyPort.val
  let q := s.targetPort r
  decide (r ∈ s.net.reqs) &&
    (if s.isHere (reqNode r) then (p != q && (s.nextHop p q).isNone) || (s.reqToStack r && s.stackOut (laStack (gaLa r.ga)))
     else (s.usableFibres (s.getF Reg.wtyActive) (reqNode r)).isEmpty)

/-- The clock regions of a request's target: its hub, and its stack (R57, R281). -/
def State.targetRegions (s : State) (r : Req) : List Nat :=
  hubUnit (s.targetPort r) :: (if s.reqToStack r then [scUnit (laStack (gaLa r.ga))] else [])

/-- How long a reply window that runs since an instant has paused for the last stop of its target's regions (R57, R281). -/
def State.pausedSince (s : State) (r : Req) (since : Nat) : Nat :=
  ((s.targetRegions r).map fun u =>
    let x := Tbl.look (fun _ => (0, 0)) s.clk.lastStop u
    min x.2 (x.1 - since)).foldl max 0

/-- What the expiry of a reply window does (R281, R283): `none` while the window is open, else the status with which the
request completes, or `some none` for a retry. A window toward a stopped region pauses. -/
def State.windowEnd (s : State) (r : Req) (window retries : Nat) : Option (Option Nat) :=
  let issued := r.deadline - 4 * window - 16000
  if (s.targetRegions r).any (fun u => s.clk.stopped.contains u) ∨
      s.clk.now < issued + (retries + 1) * window + s.pausedSince r issued then none
  else if retries = 0 ∧ s.unreachable r then some (some 0x31)
  else if retries < 3 then some none
  else if r.deadline < s.clk.now then some (some 0x32)
  else none

/-- A copy of the request is sent again, with RETRY = 1; an unsent copy in the source's hub is replaced. -/
def State.resend (s : State) (r : Req) : State := (s.tookReq r).send { r with retry := true }

def State.moverExpired (s : State) (u : Nat) (m : MReq) : State :=
  let r := s.moverReq u m m.deadline
  match s.windowEnd r (s.window (aimOf m.opc m.ga)) m.retries with
  | none => s
  | some (some st) => (s.tookReq r).completeReq u m st
  | some none =>
    let s := s.modTile u fun t => { t with mover := updReq m.seq (fun x => { x with retries := x.retries + 1 }) t.mover }
    (s.tookReq r).send { r with retry := true }

/-- A request of a tile's loader (R281): it is sent again, or its fetch learns the status with which it completes. -/
def State.loaderExpired (s : State) (u : Nat) (x : LReq) : State :=
  let r := s.loaderReq u x
  match s.windowEnd r (s.window x.ga) x.retries with
  | none => s
  | some (some st) => (s.tookReq r).loaderReply u x.seq st []
  | some none =>
    let s := s.modTile u fun t =>
      { t with loader := t.loader.map fun y => if y.seq = x.seq then { y with retries := y.retries + 1 } else y }
    s.resend r

def State.sigExpired (s : State) (u : Nat) (g : Sig) : State :=
  if g.rim then s
  else
    let base := s.syncReq u g.seq 0x18 g.target g.amount
    let r := { base with deadline := g.deadline, retry := decide (0 < g.retries) }
    let window := if s.isHere (wordNode g.target) then 8000 else 64000
    match s.windowEnd r window g.retries with
    | none => s
    | some (some st) => s.reply (s.mkReply u g.seq 0x18 st 0 false)
    | some none =>
      let s := s.modTile u fun t =>
        { t with sigs := t.sigs.map fun x => if x.seq = g.seq then { x with retries := x.retries + 1 } else x }
      s.resend r

/-- Whether a hub holds a wait (R91): it has not been lost, however long it lasts. -/
def State.waitHeld (s : State) (unit seq : Nat) : Bool :=
  s.fab.hubs.any fun e => e.2.waiters.any fun w => w.unit == unit && w.seq == seq && s.isHere w.node

/-- What the expiry of a WAIT's window does (R91, R281, R283): copies are sent as for every request, but a wait that a hub holds
never times out (log entry 132). -/
def State.waitEnd (s : State) (r : Req) (retries : Nat) : Option (Option Nat) :=
  match s.windowEnd r 8000 retries with
  | some (some st) => if s.waitHeld r.srcUnit.toNat r.seq.toNat then none else some (some st)
  | x => x

/-- A tile's WAIT, whose copies name the counter and the value of the first (R278, R281). -/
def State.waitExpired (s : State) (u c target seq : Nat) : State :=
  let t := s.tile u
  let base := s.syncReq u seq 0x1A (BitVec.ofNat 64 (c + 0xFFFF * 2 ^ 16)) (BitVec.ofNat 64 target)
  let r := { base with deadline := t.waitSince + 48000, retry := decide (0 < t.waitTries) }
  match s.waitEnd r t.waitTries with
  | none => s
  | some (some st) => (s.tookReq r).reply (s.mkReply u seq 0x1A st 0 false)
  | some none => (s.setTile u { t with waitTries := t.waitTries + 1 }).resend r

/-- A request of an engine. A rim operation, which no reply window bounds, goes on; a proxied request is sent again until its
DEADLINE has passed (R376). -/
def State.engineExpired (s : State) (e : EngineReq) : State :=
  let window := if s.isHere (if e.req.opc.toNat / 8 = 3 then wordNode e.req.ga else gaNode e.req.ga) then 8000 else 64000
  let again := fun (e' : EngineReq) =>
    ({ s with engine := s.engine.map fun x => if x = e then e' else x }.tookReq e.req).send e'.req
  let proxied := match e.purpose with | .proxy _ _ _ _ => true | _ => false
  if e.req.opc.toNat = opcRim then s
  else if proxied then
    if s.clk.now ≤ e.req.deadline then again { e with retries := e.retries + 1, req := { e.req with retry := true } }
    else
      let left := s.withy.proxied.filter fun p => !(0x1210 + p.die == e.unit && p.localSeq == e.seq)
      { s with engine := s.engine.filter fun x => x != e, withy := { s.withy with proxied := left } }.tookReq e.req
  else
    match (if e.req.opc = 0x1A then s.waitEnd e.req e.retries else s.windowEnd e.req window e.retries) with
    | none => s
    | some (some st) => s.reply ((Answer.refuse st 0).toReply e.req false)
    | some none => again { e with retries := e.retries + 1, req := { e.req with retry := true } }

/-! ## Requests of engines (R276, R277) -/

/-- The requests that a source may have outstanding at one time (R276): 512 for a hub's own engines, 8,192 for the ring engines of
an I/O die; the values of one unit's requests span less than 2^23. -/
def engineLimit (unit : Nat) : Nat := if unit < 0x1100 then 512 else if 0x1300 ≤ unit then 8192 else 2 ^ 23

/-- Whether two units share a limit: the ring engines of the I/O die that runs them. -/
def sameSource (a b : Nat) : Bool := a == b || decide (0x1300 ≤ a ∧ 0x1300 ≤ b)

/-- Whether an engine may issue its request now (R276). -/
def State.engineRoom (s : State) (unit seq : Nat) : Bool :=
  let out := s.engine.filter fun e => e.issued
  decide ((out.filter fun e => sameSource unit e.unit).length < engineLimit unit) &&
    (out.filter fun e => e.unit == unit).all fun e => decide ((seq + 2 ^ 24 - e.seq) % 2 ^ 24 < 2 ^ 23)

/-- An engine's request is issued: its DEADLINE runs from now (R281). -/
def State.engineIssue (s : State) (e : EngineReq) : State :=
  let window := if s.isHere (reqNode e.req) then 8000 else 64000
  let e' := { e with issued := true, req := { e.req with deadline := s.clk.now + 4 * window + 16000 } }
  { s with engine := s.engine.map fun x => if x = e then e' else x }.send e'.req

/-- The requests that the limits held back are issued, in order, as others complete (R276). -/
def State.pumpEngines (s : State) : State :=
  if s.engine.all fun e => e.issued then s
  else s.engine.foldl (fun s e => if !e.issued && s.engineRoom e.unit e.seq then s.engineIssue e else s) s

/-- REQUEST_WINDOW_EXPIRED (R281, R283): a window ends without a reply; the source sends the request again, at most three
times, or completes it UNREACHABLE or TIMEOUT. -/
def execRequestWindowExpired (srcUnit : BitVec 16) (seq : BitVec 24) (s : State) : Out := s.live fun s =>
  let u := srcUnit.toNat
  let q := seq.toNat
  if u < 0x1000 then
    let t := s.tile u
    match t.mover.find? (fun m => m.seq == q && m.state == .sent), t.sigs.find? (fun g => g.seq == q),
        t.loader.find? (fun x => x.seq == q && x.reply.isNone), t.wait with
    | some m, _, _, _ => .next (s.moverExpired u m)
    | none, some g, _, _ => .next (s.sigExpired u g)
    | none, none, some x, _ => .next (s.loaderExpired u x)
    | none, none, none, some (.counter c target q') => .next (if q' = q then s.waitExpired u c target q else s)
    | _, _, _, _ => .next s
  else
    match s.engine.find? (fun e => e.unit == u && e.seq == q && e.issued) with
    | some e => .next (s.engineExpired e)
    | none => .next s

end Sys2Proof.Machine
end

