-- ==== Sys2Proof/Machine/Hubs.lean ====
section
/-!
DEFINITION. Hubs: sync counters, spokes, plaits, rim channels and resets (R204-R224).
-/
namespace Sys2Proof.Machine

/-! ## Sync counters (R91, R205, R206) -/

def syncMax : Nat := 2 ^ 48 - 1
def State.syncVal (s : State) (c : Nat) : Nat := Tbl.look (fun _ => 0) s.fab.sync c
def State.setSync (s : State) (c v : Nat) : State := { s with fab := { s.fab with sync := Tbl.put (fun _ => 0) s.fab.sync c v } }
def State.setMirror (s : State) (c v : Nat) : State :=
  { s with fab := { s.fab with mirror := Tbl.put (fun _ => 0) s.fab.mirror c v } }

/-- The reply that releases a waiter, with the INC of the wait (R194): the counter's value, and SATURATED at its largest (R92,
R274). -/
def State.waiterReply (s : State) (w : Waiter) (status v : Nat) : Reply :=
  { s.mkReply w.unit w.seq 0x1A status (BitVec.ofNat 64 v) (v == syncMax) with
    srcNode := BitVec.ofNat 16 w.node, inc := BitVec.ofNat 8 w.inc }

/-- Every satisfied waiter of a counter is released at once (R205); a counter at its largest satisfies every wait (R92). -/
def State.releaseWaiters (s : State) (p c v : Nat) : State :=
  let go := fun (w : Waiter) => w.counter == c && (decide (w.target ≤ v) || v == syncMax)
  let due := (s.hub p).waiters.filter go
  let s := if due.isEmpty then s else s.modHub p fun h => { h with waiters := h.waiters.filter fun w => !go w }
  due.foldl (fun s w => s.reply (s.waiterReply w 0 v)) s

/-- The answer of an applied sync operation. -/
def syncAnswer (v : Nat) : Answer := ⟨0, true, v == syncMax, 0, BitVec.ofNat 64 v, []⟩

/-- The acknowledgement waits for the mirror, unless the partner cannot confirm (R205). -/
def State.ackSync (s : State) (p c : Nat) (r : Reply) : State :=
  if s.getF (Reg.hubState (p ^^^ 1)) = 1 then
    s.modHub p fun h => { h with unmirrored := h.unmirrored ++ [⟨c, s.syncVal c, some r⟩] }
  else s.reply r

/-- A copy of a sync operation is answered from the ledger; while the first acknowledgement waits for the mirror, that one
answers the copy too (R205, R280). -/
def State.ackAgain (s : State) (p : Nat) (r : Reply) : State :=
  if (s.hub p).unmirrored.any fun u => match u.reply with
    | some x => x.srcUnit == r.srcUnit && x.seq == r.seq && x.inc == r.inc && x.srcNode == r.srcNode
    | none => false then s
  else s.reply r

/-- A signal or a set is applied by the hub that serves the counter: the value, its waiters, and SYNC_OPS (R205). -/
def State.applySync (s : State) (p c v : Nat) : State × Option Answer :=
  let s := (s.setSync c v).bump (Reg.hubCnt p 17) 1
  (s.releaseWaiters p c v, some (syncAnswer v))

/-- Whether a sync request is one that this hub serves for this node now (R206). -/
def State.servesSync (s : State) (p : Nat) (r : Req) : Bool :=
  let prim := wordCounter r.ga / 4096
  decide (prim < 16) && s.actingHub prim == p && s.hubServes p && s.isHere (wordNode r.ga)

/-- Whether a sync request is malformed, or names no counter of a package (R121, R274). -/
def syncBad (r : Req) (opc : Nat) : Bool := reqMalformed r opc || !wordOk r.ga || decide (16 ≤ wordCounter r.ga / 4096)

/-- A sync request that changes a counter; one that is malformed is refused (R282 step 3). -/
def State.syncChange (s : State) (p opc : Nat) (r : Req) (new : Nat → Nat) : State :=
  if syncBad r opc then s.atTarget (hubUnit p) r true 0 fun s => (s, some (Answer.refuse 0x12 0))
  else if !s.servesSync p r then s
  else
    let c := wordCounter r.ga
    s.atTargetBy (fun s a => s.ackAgain p a) (fun s a => s.ackSync p c a) (hubUnit p) r true 0 fun s => s.applySync p c (new (s.syncVal c))

/-- SIGNAL_REQ (R92, R205): the amount is added, saturating. -/
def execSignalReq (hub : PortN) (r : Req) (s : State) : Out := s.live fun s =>
  .next (s.syncChange hub 0x18 r fun v => min syncMax (v + r.operand.toNat % 2 ^ 48))

/-- COUNTER_SET_REQ (R205): the counter takes the value. -/
def execCounterSetReq (hub : PortN) (r : Req) (s : State) : Out := s.live fun s =>
  .next (s.syncChange hub 0x19 r fun _ => r.operand.toNat % 2 ^ 48)

/-- WAIT_REQ (R91): the hub replies at once if the condition holds, and otherwise holds the wait; a retried wait takes its
place again (R278). -/
def execWaitReq (hub : PortN) (r : Req) (s : State) : Out := s.live fun s =>
  let p := hub.val
  if syncBad r 0x1A ∨ !s.isHere (wordNode r.ga) then
    .next (s.atTarget (hubUnit p) r false 0 fun s => (s, some (Answer.refuse 0x12 0)))
  else if !s.servesSync p r then .next s
  else
    let c := wordCounter r.ga
    let target := r.operand.toNat % 2 ^ 48
    .next (s.atTarget (hubUnit p) r false 0 fun s =>
      let v := s.syncVal c
      if target ≤ v ∨ v = syncMax then (s, some { syncAnswer v with applied := false })
      else
        let w : Waiter := ⟨r.srcNode.toNat, r.srcUnit.toNat, r.inc.toNat, r.seq.toNat, c, target⟩
        ((s.tookReq r).modHub p fun h => { h with waiters := h.waiters.filter (fun x => x != w) ++ [w] }, none))

/-- SYNC_MIRROR_CONFIRM (R205): the mirror holds the oldest unconfirmed value of a counter, and its signal is acknowledged. -/
def execSyncMirrorConfirm (counter : BitVec 16) (s : State) : Out := s.live fun s =>
  let c := counter.toNat
  let p := s.actingHub (c / 4096)
  match (s.hub p).unmirrored.find? (fun u => u.counter == c) with
  | none => .next s
  | some u =>
    let s := (s.modHub p fun h => { h with unmirrored := h.unmirrored.erase u }).setMirror c u.value
    .next (match u.reply with | some r => s.reply r | none => s)

/-! ## Requests of a hub's own engines and of the I/O engines -/

/-- The next REQ_SEQ of an engine's unit (R277). -/
def State.nextSeq (s : State) (unit : Nat) : Nat := Tbl.look (fun _ => 0) s.host.seqs unit
def State.tookSeqOf (s : State) (unit : Nat) : State :=
  { s with host := { s.host with seqs := Tbl.put (fun _ => 0) s.host.seqs unit ((s.nextSeq unit + 1) % 2 ^ 24) } }

/-- A request of an engine: the next REQ_SEQ of its unit, and the purpose for which its reply is awaited. It leaves at once, or
waits while its source is at its limit (R276). -/
def State.engineSend (s : State) (unit : Nat) (purpose : Purpose) (mk : State → Nat → Req) : State :=
  let seq := s.nextSeq unit
  let r := mk s seq
  let go := s.engineRoom unit seq && s.engine.all fun e => e.issued || !sameSource unit e.unit
  let e : EngineReq := { unit := unit, seq := seq, purpose := purpose, req := r, retries := 0, issued := go }
  let s := s.tookSeqOf unit
  let s := { s with engine := s.engine ++ [e] }
  if go then s.send r else s

/-- A STORE of an engine. -/
def State.storeReqOf (s : State) (unit seq opc : Nat) (key : W32) (ga : W64) (data : List Line) : Req :=
  let base := s.mkReq unit seq opc key ga data.length
  { base with data := data, nflits := flitsFor data.length }

/-- Lines from an address, cut where a request must not cross a page (R118). -/
def pageChunks : Nat → Nat → List Line → List (Nat × List Line)
  | 0, _, _ => []
  | _, _, [] => []
  | n + 1, ga, l =>
    let room := 64 - ga / 64 % 64
    (ga, l.take room) :: pageChunks n (ga + 64 * room) (l.drop room)

/-! ## Spokes (R207-R210) -/

/-- A spoke operation of a hub, by its number. -/
def Hub.spoke (h : Hub) (op : Nat) : Option SpokeOp := h.spokes.find? fun o => o.id == op

def State.modSpoke (s : State) (p op : Nat) (f : SpokeOp → SpokeOp) : State :=
  s.modHub p fun h => { h with spokes := h.spokes.map fun o => if o.id = op then f o else o }

/-- Lines of one spoke flit: the data of a first flit (R273). -/
def spokeLines : Nat := 3

/-- Begins a spoke operation at a hub (R207). -/
def State.newSpoke (s : State) (p entry unit seq tc offset num off : Nat) (group : Option Nat) (data : List Line) : State :=
  let targets := s.getF (Reg.spkTargets p entry)
  s.modHub p fun h =>
    { h with spokeNext := h.spokeNext + 1,
             spokes := h.spokes ++
               [{ id := h.spokeNext, entry := entry, targets := targets, unit := unit, seq := seq, tc := tc,
                  total := (data.length + spokeLines - 1) / spokeLines, sent := 0, since := s.clk.now, offset := offset,
                  data := data, group := group, num := num, off := off, acks := [] }] }

/-- The request that flit i of a spoke operation carries (R209, R273). -/
def State.spokeReq (s : State) (p i : Nat) (o : SpokeOp) : Req :=
  let data := (o.data.drop (spokeLines * i)).take spokeLines
  let base := s.mkReq o.unit o.seq 0x20 0 (BitVec.ofNat 64 (o.offset + 64 * spokeLines * i)) data.length
  { base with replyPort := Fin.ofNat 32 p, data := data }

/-- One flit of a spoke operation leaves for a target, on its pair or through a relay. -/
def State.spokeSend (s : State) (p q i : Nat) (o : SpokeOp) : State :=
  let r := s.spokeReq p i o
  let s := match s.nextHop p q with
    | some hop => s.sendFlit p hop o.tc (if hop = q then 2 else 7) q (reqFlit p r)
    | none => s
  s.send r

/-- Whether a target's pair takes a spoke flit now (R208). -/
def State.spokeReady (s : State) (p tc q : Nat) : Bool :=
  match s.nextHop p q with
  | some hop => s.carries && s.pairOpen p hop && s.hasCredit p hop tc
  | none => false

/-- The next flit of an operation has left. -/
def SpokeOp.launched (o : SpokeOp) : SpokeOp := { o with sent := o.sent + 1 }

/-- SPOKE_LAUNCH (R207, R208): the next flit holds credit for every target, and leaves for all of them in one slot. -/
def execSpokeLaunch (hub : PortN) (op : Nat) (s : State) : Out := s.live fun s =>
  let p := hub.val
  match (s.hub p).spoke op with
  | none => .next s
  | some o =>
    let ts := portsOf o.targets
    if o.sent < o.total ∧ s.hubServes p ∧ ts.all (s.spokeReady p o.tc) = true then
      let s := ts.foldl (fun s q => s.spokeSend p q o.sent o) s
      .next ((s.modSpoke p op SpokeOp.launched).bump (Reg.hubCnt p 10) 1)
    else .next s

/-- A KIND 3 copy of a spoke flit is queued for a target (R208): it leaves with FLIT_LAUNCH once its pair has credit. -/
def State.queueCopy (s : State) (p q i : Nat) (o : SpokeOp) : State :=
  let r := s.spokeReq p i o
  s.modHub p fun h => { h with copies := h.copies ++ [⟨q, o.tc, fput (fput (reqFlit p r) 0 5 q) 5 3 3, r⟩] }

/-- SPOKE_FOLLOWUP (R208): patience has expired, or the operation's first flit has left; the targets with credit get the
flit, and a KIND 3 copy is queued for each other one. -/
def execSpokeFollowup (hub : PortN) (op : Nat) (s : State) : Out := s.live fun s =>
  let p := hub.val
  match (s.hub p).spoke op with
  | none => .next s
  | some o =>
    let ts := portsOf o.targets
    let with_ := ts.filter (s.spokeReady p o.tc)
    let without := ts.filter fun q => !s.spokeReady p o.tc q
    let paused := ts.any fun q => s.clk.stopped.contains (0x1000 + q)
    let patient := decide (o.sent = 0) && (paused || decide (s.clk.now < o.since + s.getF (Reg.spokePatience p)))
    if o.total ≤ o.sent ∨ !s.hubServes p ∨ without.isEmpty ∨ patient then .next s
    else
      let s := with_.foldl (fun s q => s.spokeSend p q o.sent o) s
      let s := without.foldl (fun s q => s.queueCopy p q o.sent o) s
      let s := if with_.isEmpty then s else s.bump (Reg.hubCnt p 10) 1
      let s := s.bump (Reg.hubCnt p 11) without.length
      let mask := (without.map fun q => 2 ^ q).sum
      let s := s.accum 0x2008 (hubUnit p) [s.clk.frame, o.entry, mask] fun _ d => d
      .next (s.modSpoke p op SpokeOp.launched)

/-- Patience toward a hub, and at it, paused while its region was stopped (R57, R208). -/
def State.resumePatience (s : State) (q stop : Nat) : State :=
  (s.fab.hubs.map Prod.fst).foldl (fun s p => s.modHub p fun h => { h with spokes := h.spokes.map fun o =>
    if o.sent = 0 ∧ (p = q ∨ q ∈ portsOf o.targets) then { o with since := o.since + min stop (s.clk.now - o.since) } else o }) s

/-- The spoke operation whose flit a request carries: its launching hub and its number. -/
def State.spokeOf (s : State) (r : Req) : Option (Nat × Nat) :=
  let p := r.replyPort.val
  match (s.hub p).spokes.find? (fun o => o.unit == r.srcUnit.toNat && o.seq == r.seq.toNat) with
  | some o => some (p, o.id)
  | none => none

/-- A target's acknowledgement of one flit reaches the launching hub; the target keeps the arrival no longer (R209). -/
def State.spokeAck (s : State) (p op port idx status : Nat) : State :=
  let o := (s.hub p).spoke op
  let s := s.modSpoke p op fun o => { o with acks := (port, idx, status) :: o.acks.filter fun a => !(a.1 == port && a.2.1 == idx) }
  match o with
  | some o => s.modHub port fun h => { h with arrivals := h.arrivals.filter fun a => !(a == (o.unit, o.seq, idx)) }
  | none => s

/-- Whether the launching hub has a target's acknowledgement of a flit. -/
def State.spokeAcked (s : State) (p op port idx : Nat) : Bool :=
  match (s.hub p).spoke op with
  | some o => o.acks.any fun a => a.1 == port && a.2.1 == idx
  | none => false

/-- SPOKE_STORE_REQ (R209): a spoke flit reaches a target hub, which stores its payload at BASE plus the offset with the
entry's KEY; a second arrival of the same flit is not delivered, and one acknowledgement answers both. -/
def execSpokeStoreReq (hub : PortN) (entry : Fin 1024) (flitIdx : Nat) (r : Req) (s : State) : Out := s.live fun s =>
  let p := hub.val
  if !s.hubServes p then .next s
  else
    match s.spokeOf r with
    | none => .next s
    | some (src, op) =>
      let s := s.tookReq r
      let key := (r.srcUnit.toNat, r.seq.toNat, flitIdx)
      if (s.hub p).arrivals.any (fun a => a == key) ∨ s.spokeAcked src op p flitIdx then .next (s.bump (Reg.hubCnt p 12) 1)
      else
        let s := s.modHub p fun h => { h with arrivals := h.arrivals ++ [key] }
        if reqMalformed r 0x20 ∨ !s.on (Reg.spkValid p entry) then .next (s.spokeAck src op p flitIdx 0x12)
        else
          let base := s.getF (Reg.spkBaseLo p entry) + s.getF (Reg.spkBaseHi p entry) * 2 ^ 32
          let ga := BitVec.ofNat 64 ((base + r.ga.toNat) % 2 ^ 48 + s.getF Reg.wtyNode * 2 ^ 48)
          let k := BitVec.ofNat 32 (s.getF (Reg.spkKey p entry))
          .next (s.engineSend (hubUnit p) (.spoke src op p flitIdx) fun s seq =>
            s.storeReqOf (hubUnit p) seq 0x20 k ga r.data)

/-! ## Plaits (R211-R217) -/

def State.plait (s : State) (g : Nat) : Option Plait := Tbl.look (fun _ => none) s.fab.plaits g
def State.setPlait (s : State) (g : Nat) (x : Option Plait) : State :=
  { s with fab := { s.fab with plaits := Tbl.put (fun _ => none) s.fab.plaits g x } }
def State.modPlait (s : State) (g : Nat) (f : Plait → Plait) : State :=
  match s.plait g with
  | some x => s.setPlait g (some (f x))
  | none => s
def State.route (s : State) (g : Nat) : Option Nat := Tbl.look (fun _ => none) s.fab.route g

/-- The status line (R215). -/
def Plait.statusLine (x : Plait) : Line :=
  let b0 := if x.fault ≠ 0 then x.fault else x.status
  BitVec.ofNat 512 (b0 + x.op * 2 ^ 8 + x.lines * 2 ^ 16 + x.count * 2 ^ 32 + x.expect * 2 ^ 48 + x.doneAt * 2 ^ 64 +
    x.doneFrame % 2 ^ 32 * 2 ^ 128)

/-- The contributor bitmap, in lines. -/
def Plait.bitmapLines (x : Plait) : List Line :=
  (List.range ((x.expect + 511) / 512)).map fun i => BitVec.ofNat 512 (x.bitmap / 2 ^ (512 * i))

/-- Stores lines from an address for a group, from the hub that reduces it. -/
def State.plaitStores (s : State) (g port : Nat) (result : Bool) (key : W32) (ga : W64) (lines : List Line) : State :=
  (pageChunks (lines.length + 1) ga.toNat lines).foldl (fun s c =>
    s.engineSend (hubUnit port) (.plaitStore g result) fun s seq =>
      s.storeReqOf (hubUnit port) seq 2 key (BitVec.ofNat 64 c.1) c.2) s

/-- Step 2 of R215: the status line and the bitmap. -/
def State.plaitStatus (s : State) (g : Nat) : State :=
  match s.plait g with
  | none => s
  | some x =>
    let s := s.modPlait g fun x => { x with phase := 2 }
    s.plaitStores g (s.actingHub x.port) false x.key x.statusGa (x.statusLine :: x.bitmapLines)

/-- A group completes (R215, R216): its result is stored, and to its spoke entry, unless no contribution was applied; then
its status. -/
def State.completePlait (s : State) (g status : Nat) : State :=
  match s.plait g with
  | none => s
  | some x =>
    if x.completed then s
    else
      let done := { x with completed := true, phase := 1, status := status, doneAt := s.clk.now, doneFrame := s.clk.frame }
      let s := s.setPlait g (some done)
      if x.count = 0 then s.plaitStatus g
      else
        let p := s.actingHub x.port
        let lines := x.acc.map fun a => match a with | some a => plaitResult x.op a | none => 0
        let s := s.plaitStores g p true x.key x.resultGa lines
        match x.spoke with
        | some e => (s.tookSeqOf (hubUnit p)).newSpoke p e (hubUnit p) (s.nextSeq (hubUnit p)) 0 0 0 0 (some g) lines
        | none => s

/-- PLAIT_PARTIAL is counted and raised (R216). -/
def State.plaitPartialEvent (s : State) (g : Nat) (x : Plait) : State :=
  (s.bump (Reg.hubCnt (s.actingHub x.port) 16) 1).raise 0x2009 (hubUnit (s.actingHub x.port)) [g, x.port, x.count, x.expect]

/-- The buffer of a group is lost (R216): it completes PARTIAL with no contribution and no result. -/
def State.losePlait (s : State) (g : Nat) : State :=
  match s.plait g with
  | none => s
  | some x =>
    if x.completed then s
    else
      let x := { x with count := 0, bitmap := 0, acc := x.acc.map fun _ => none }
      ((s.setPlait g (some x)).plaitPartialEvent g x).completePlait g 1

/-- Every group that `sel` selects by its reduce port loses its buffer. -/
def State.losePlaits (s : State) (sel : Nat → Bool) : State :=
  s.fab.plaits.foldl (fun s e => match e.2 with | some x => if sel x.port then s.losePlait e.1 else s | none => s) s

/-- The ledger that records contributions to groups reduced at a port (R278). -/
def plaitHolder (p : Nat) : Nat :=
  if p < 16 then hubUnit p else if p < 28 then scUnit (p - 16) else 0x1200 + (p - 28) / 2

/-- No stack page: the place of an entry that concerns none. -/
def noPage : Nat := 2 ^ 30

/-- Whether the patience of a group has ended (R216): the tick of frame A + PATIENCE has come. -/
def State.plaitExpired (s : State) (x : Plait) : Bool :=
  x.patience != 0 && decide (x.patience ≤ (s.clk.frame + 2 ^ 48 - x.frame % 2 ^ 48) % 2 ^ 48)

/-- The checks of R213 at the reduce hub; a contribution from the tick of frame A + PATIENCE on is late (R216). -/
def State.contribute (s : State) (p g : Nat) (r : Req) : State × Option Answer :=
  let w := r.operand.toNat
  let contrib := w / 2 ^ 16 % 2 ^ 16
  if reqMalformed r 0x10 then (s, some (Answer.refuse 0x12 0))
  else match s.plait g with
  | none => (s, some (Answer.refuse 0x12 0))
  | some x =>
    if x.completed || s.plaitExpired x then (s.bump (Reg.hubCnt p 15) 1, some (Answer.refuse 0x03 0))
    else if r.key ≠ x.key then (s, some (Answer.refuse 0x10 0))
    else if x.expect ≤ contrib ∨ r.lines ≠ x.lines ∨ w / 2 ^ 12 % 16 ≠ x.op then (s, some (Answer.refuse 0x12 0))
    else if x.bitmap.testBit contrib then (s.bump (Reg.hubCnt p 14) 1, some (Answer.refuse 0 0))
    else
      let acc := List.zipWith (fun a l => some (plaitApply x.op a l)) x.acc r.data
      let x := { x with acc := acc, bitmap := setBit x.bitmap contrib true, count := x.count + 1 }
      let s := (s.setPlait g (some x)).bump (Reg.hubCnt p 13) 1
      let s := if x.count = x.expect then s.completePlait g 0 else s
      (s, some ⟨0, true, false, 0, 0, []⟩)

/-- A hub answers a request itself, before any target takes it. -/
def State.refuseReq (s : State) (r : Req) (status : Nat) : State := (s.tookReq r).reply ((Answer.refuse status 0).toReply r false)

/-- PLAIT_CONTRIBUTION_REQ (R213): a contribution is failed by the tile's hub where its group has no route, sent on to the
home of a group that this node forwards unless the home lies at L4 (R286, R380), or checked and applied at the reduce hub. -/
def execPlaitContributionReq (hub : PortN) (r : Req) (s : State) : Out := s.live fun s =>
  let p := hub.val
  let g := r.operand.toNat % 4096
  if !s.hubServes p then .next s
  else
    match s.route g with
    | none => .next (s.refuseReq r 0x12)
    | some port =>
      if s.actingHub port ≠ p then .next s
      else
        match Tbl.look (fun _ => none) s.fab.forwarders g with
        | some f =>
          if !s.isHere (gaNode (aimOf 0x10 r.ga)) then .next s
          else if routeLevel (s.routeEntry (s.getF Reg.wtyActive) f.home) = 1 then .next (s.refuseReq r 0x12)
          else
            .next ((s.tookReq r).send { r with ga := BitVec.ofNat 64 (f.home * 2 ^ 48) })
        | none => .next (s.atTarget (plaitHolder p) r true noPage fun s => s.contribute p g r)

/-- Whether an engine's request has its reply. -/
def State.answered (s : State) (e : EngineReq) : Option Reply := s.replyFor e.unit e.seq

/-- The engine requests that serve a purpose. -/
def State.enginesFor (s : State) (sel : Purpose → Bool) : List EngineReq := s.engine.filter fun e => sel e.purpose

/-- The replies of engine requests are taken. -/
def State.tookReplies (s : State) (es : List EngineReq) : State :=
  es.foldl (fun s e =>
    let s := match s.answered e with | some r => s.dropReply r | none => s
    { s with engine := s.engine.filter fun x => !(x.unit == e.unit && x.seq == e.seq) }) s |>.pumpEngines

/-- The first failing status among replies, in order. -/
def State.firstFault (s : State) (es : List EngineReq) : Nat :=
  ((es.filterMap s.answered).map fun r => r.status.toNat).foldl (fun a x => if a = 0 then x else a) 0

/-- The unit whose counter signal ends a group: the hub that reduced it. -/
def State.plaitSignal (s : State) (g : Nat) (x : Plait) : State :=
  let p := s.actingHub x.port
  let s := s.modPlait g fun x => { x with phase := 3 }
  let s := s.setF (Reg.plaitsArmed x.port) (s.getF (Reg.plaitsArmed x.port) - 1)
  s.engineSend (hubUnit p) (.plaitSignal g) fun s seq =>
    s.syncReq (hubUnit p) seq 0x18 x.counter 1

/-- The group is done (R215): its descriptor completes, and its status goes to the nodes that joined (R380). -/
def State.plaitDone (s : State) (g : Nat) (x : Plait) : State :=
  let st := if x.fault ≠ 0 then x.fault else x.status
  let s := s.modPlait g fun x => { x with phase := 4, nodes := [] }
  let s := x.nodes.foldl (fun s n => s.tell n (.plaitStatus g st x.count)) s
  s.finish x.ring x.num st 0 x.count (g + x.expect * 2 ^ 16)

/-- PLAIT_RESULT_ACKED (R215): the stores of a completed group are acknowledged. After the result's, the status line is
stored with the code that the result met; after the status's, COUNTER is signalled by 1 and the buffer is freed; after the
signal's, the arming descriptor completes. -/
def execPlaitResultAcked (g : PlaitN) (s : State) : Out := s.live fun s =>
  let n := g.val
  match s.plait n with
  | none => .next s
  | some x =>
    let mine := fun (result : Bool) (u : Purpose) => match u with | .plaitStore h r => h == n && r == result | _ => false
    let sig := fun (u : Purpose) => match u with | .plaitSignal h => h == n | _ => false
    let es := s.enginesFor (if x.phase = 1 then mine true else if x.phase = 2 then mine false else sig)
    let spoking := (List.range 32).any fun p => (s.hub p).spokes.any fun o => o.group == some n
    if !x.completed ∨ 4 ≤ x.phase ∨ es.any (fun e => (s.answered e).isNone) ∨ (x.phase = 1 ∧ spoking) then .next s
    else
      let fault := s.firstFault es
      let s := s.tookReplies es
      .next (if x.phase = 1 then (s.modPlait n fun x => { x with fault := if fault = 0 then x.fault else fault }).plaitStatus n
        else if x.phase = 2 then s.plaitSignal n x
        else s.plaitDone n x)

/-- PLAIT_PARTIAL (R216): at the tick of frame A + PATIENCE an incomplete group completes with what was applied. -/
def execPlaitPartial (g : PlaitN) (s : State) : Out := s.live fun s =>
  match s.plait g with
  | none => .next s
  | some x =>
    if x.completed ∨ !s.plaitExpired x then .next s
    else .next ((s.plaitPartialEvent g x).completePlait g 1)

/-- SPOKE_OPERATION_COMPLETE (R210): every target has acknowledged every flit. The operation's status is OK, or that of the
lowest target that did not complete OK; its detail, which the hub shows as its last operation's, is the mask of the ports that did.
A plait's result store or a quantum of a COPY or FILL learns of a failure. -/
def execSpokeOperationComplete (hub : PortN) (op : Nat) (s : State) : Out := s.live fun s =>
  let p := hub.val
  match (s.hub p).spoke op with
  | none => .next s
  | some o =>
    let ts := portsOf o.targets
    let acked := ts.all fun q => (List.range o.total).all fun i => o.acks.any fun a => a.1 == q && a.2.1 == i
    if o.sent < o.total ∨ !acked then .next s
    else
      let statusOf := fun q => ((List.range o.total).filterMap fun i =>
        (o.acks.find? fun a => a.1 == q && a.2.1 == i).map fun a => a.2.2).foldl (fun a x => if a = 0 then x else a) 0
      let st := (ts.map statusOf).foldl (fun a x => if a = 0 then x else a) 0
      let mask := ((ts.filter fun q => statusOf q == 0).map fun q => 2 ^ q).sum
      let s := s.modHub p fun h => { h with spokes := h.spokes.filter fun x => x.id != op, spokeEnd := some (op, st, mask) }
      match o.group with
      | some g => .next (s.modPlait g fun x => { x with fault := if x.fault = 0 then st else x.fault })
      | none =>
        .next (if st = 0 then s else s.failCopy (o.unit - 0x1300) o.num o.off st o.offset)

/-! ## Rim channels (R218-R221, R381) -/

/-- The counting set of a port: a compute die, or the I/O hubs (R219). -/
def setOf (p : Nat) : Nat := if p < 16 then p / 2 else 14
/-- The hubs that count with a hub. -/
def setPorts (p : Nat) : List Nat := if p < 16 then [p / 2 * 2, p / 2 * 2 + 1] else [28, 29, 30, 31]

def State.chan (s : State) (p c : Nat) : RimCh := (s.hub p).chan c
def State.modChan (s : State) (p c : Nat) (f : RimCh → RimCh) : State := s.modHub p fun h => h.setChan c (f (h.chan c))

/-- A counting set's completion goes to every port of the channel (R219). -/
def State.sendCompletion (s : State) (p c : Nat) (gen : Bool) : State :=
  let s := (setPorts p).foldl (fun s q => s.modChan q c fun x => { x with sent := true }) s
  (portsOf (s.getF (Reg.rimMask p c))).foldl (fun s q => s.modChan q c fun x => { x with compIn := x.compIn ++ [(p, gen)] }) s

/-- Counting sets whose completion an I/O set still lacks before its node arrives at the root. -/
def State.othersDone (s : State) (p c : Nat) : Bool :=
  (portsOf (s.getF (Reg.rimMask p c))).all fun q => setOf q == setOf p || decide (setOf q ∈ (s.chan p c).comps)

/-- The root counts a node's arrival, and releases every node when NODES have arrived (R381). -/
def State.rootArrival (s : State) (c node : Nat) (gen : Bool) : State :=
  let x := s.rimNet c
  let x := { x with nodes := addTo x.nodes node, known := addTo x.known node }
  if s.getF (Reg.rimNodes c) ≤ x.nodes.length then
    let s := s.setRimNet c { x with nodes := [], released := true }
    (x.nodes.filter fun n => !s.isHere n).foldl (fun s n => s.tell n (.rimRelease c gen)) s
  else s.setRimNet c x

/-- A channel across nodes: its I/O set holds its own arrivals and every other set's completion, so the node arrives at
the root; once the root has released it, the set completes (R381). -/
def State.rimAcross (s : State) (p c : Nat) : State :=
  if p < 28 ∨ !s.on (Reg.rimNodesValid c) then s
  else
    let gen := s.on (Reg.rimGen p c)
    let full := decide (s.getF (Reg.rimExpect p c) ≤ s.getF (Reg.rimArrived p c))
    let s := if full && s.othersDone p c && !(s.rimNet c).sent then
        let root := s.getF (Reg.rimRoot c)
        let s := s.setRimNet c { s.rimNet c with sent := true }
        if s.isHere root then s.rootArrival c (s.getF Reg.wtyNode) gen else s.tell root (.rimArrival c gen)
      else s
    if (s.rimNet c).released && (s.rimNet c).sent && !(s.chan p c).sent then s.sendCompletion p c gen else s

/-- Participants are released and the generation flips, once the hub holds every set's completion (R219). -/
def State.rimRelease (s : State) (p c : Nat) : State :=
  let x := s.chan p c
  if (portsOf (s.getF (Reg.rimMask p c))).all (fun q => decide (setOf q ∈ x.comps)) then
    let s := s.modChan p c fun x => { x with waiting := [], comps := [], sent := false }
    let s := ((s.setF (Reg.rimArrived p c) 0).setB (Reg.rimGen p c) (!s.on (Reg.rimGen p c))).bump (Reg.hubCnt p 18) 1
    let s := if p < 28 then s else s.setRimNet c { s.rimNet c with sent := false, released := false }
    x.waiting.foldl (fun s w => s.reply (s.mkReply w.1 w.2 opcRim 0 0 false)) s
  else s

/-- An arrival is counted; the first hub of the set to see EXPECT sends its completion (R219). -/
def State.countArrival (s : State) (p c : Nat) : State :=
  let s := s.satF (Reg.rimArrived p c) 1
  if s.getF (Reg.rimArrived p c) = s.getF (Reg.rimExpect p c) ∧ !(s.chan p c).sent ∧
      !(28 ≤ p && s.on (Reg.rimNodesValid c)) then
    s.sendCompletion p c (s.on (Reg.rimGen p c))
  else s.rimAcross p c

/-- RIM_ARRIVAL (R219): an arrival of the hub's generation, of a participant of its own or passed on by a hub that counts
with it. -/
def execRimArrival (hub : PortN) (ch : ChanN) (gen : Bool) (s : State) : Out := s.live fun s =>
  let p := hub.val
  let c := ch.val
  let x := s.chan p c
  if !s.hubUp p ∨ gen ≠ s.on (Reg.rimGen p c) then .next s
  else
    match x.inbox.find? (fun a => a.2.2 == gen) with
    | some a =>
      let s := s.modChan p c fun x => { x with inbox := x.inbox.erase a }
      if !s.rimHere p c then .next (s.reply (s.mkReply a.1 a.2.1 opcRim 0x12 0 false))
      else
        let s := s.modChan p c fun x => { x with waiting := x.waiting ++ [(a.1, a.2.1)] }
        let s := ((setPorts p).filter fun q => q != p).foldl (fun s q =>
          s.modChan q c fun x => { x with passed := x.passed ++ [gen] }) s
        .next (s.countArrival p c)
    | none =>
      if gen ∈ x.passed then .next ((s.modChan p c fun x => { x with passed := x.passed.erase gen }).countArrival p c)
      else .next s

/-- RIM_COMPLETION (R219): a set's completion flit arrives; with every set's, the hub releases its participants. -/
def execRimCompletion (hub : PortN) (ch : ChanN) (src : PortN) (s : State) : Out := s.live fun s =>
  let p := hub.val
  let c := ch.val
  let gen := s.on (Reg.rimGen p c)
  if s.hubUp p ∧ (src.val, gen) ∈ (s.chan p c).compIn then
    let s := s.modChan p c fun x => { x with compIn := x.compIn.erase (src.val, gen), comps := addTo x.comps (setOf src) }
    .next ((s.rimAcross p c).rimRelease p c)
  else .next s

/-- The larger of a flag and a value, and the flag waits that it satisfies (R220). -/
def State.raiseFlag (s : State) (p c v : Nat) : State :=
  let v := max v (s.getF (Reg.rimFlag p c))
  let s := s.setF (Reg.rimFlag p c) v
  let due := (s.chan p c).flagWait.filter fun w => decide (w.2.2 ≤ v)
  let s := s.modChan p c fun x => { x with flagWait := x.flagWait.filter fun w => !decide (w.2.2 ≤ v) }
  due.foldl (fun s w => s.reply (s.mkReply w.1 w.2.1 opcRim 0 (BitVec.ofNat 64 v) false)) s

/-- The request that a rim message of another node stands for at an I/O die's ledger (R278, R381), its DEADLINE in local time. -/
def State.nodeReq (s : State) (c : Nat) (tag : NodeTag) : Req :=
  { srcNode := tag.node, srcUnit := tag.unit, inc := tag.inc, seq := tag.seq, opc := BitVec.ofNat 16 opcRim, retry := false,
    remote := true, nflits := 1, key := 0, ga := BitVec.ofNat 64 c, replyPort := 28, lines := 0, rack := none, operand := 0,
    compare := 0, deadline := ((tag.deadline : Int) - s.wtyOffset).toNat, zeros := 0, data := [] }

/-- A rim message of another node takes effect once: the receiving I/O die records it, and a copy changes nothing (R278, R381). -/
def State.nodeOnce (s : State) (n c : Nat) (tag : NodeTag) (act : State → State) : State :=
  s.atTargetBy (fun s _ => s) (fun s _ => s) (0x1200 + n) (s.nodeReq c tag) true noPage fun s => (act s, some ⟨0, true, false, 0, 0, []⟩)

/-- The root remembers that a node has sent it rim traffic on a channel (R381). -/
def State.knowNode (s : State) (c node : Nat) : State :=
  s.setRimNet c { s.rimNet c with known := addTo (s.rimNet c).known node }

/-- A flag value of another node reaches an I/O hub: it is kept and goes on to the other hubs, and from the root to the nodes that
it knows (R381). -/
def State.nodeFlag (s : State) (p c : Nat) (value : W32) : State :=
  let s := s.raiseFlag p c value.toNat
  let rest := (portsOf (s.getF (Reg.rimMask p c))).filter fun q => q != p
  let s := s.modHub p fun h => { h with sets := h.sets ++ [⟨0xFFFF, 0, c, value, rest⟩] }
  if s.isHere (s.getF (Reg.rimRoot c)) then s.tellNodes c value.toNat else s

/-- RIM_FLAG_UPDATE (R220): a value that a set forwards arrives at a hub of its mask, which acknowledges it; the last
acknowledgement acknowledges the setter. With a tag, the value is another node's and reaches an I/O hub of a channel across
nodes (R381), whose die records it. -/
def execRimFlagUpdate (hub : PortN) (ch : ChanN) (update : FlagUpdate) (s : State) : Out := s.live fun s =>
  let p := hub.val
  let value := update.value
  let c := ch.val
  if !s.hubUp p ∨ !s.rimHere p c then .next s
  else match update.tag with
  | some t =>
    .next (if 28 ≤ p ∧ s.on (Reg.rimNodesValid c) ∧ s.isHere t.node.toNat = false then
      s.nodeOnce ((p - 28) / 2) c t fun s => (s.knowNode c t.node.toNat).nodeFlag p c value
    else s)
  | none =>
    let mine := fun (o : RimSetOp) => o.ch == c && o.value == value && decide (p ∈ o.remaining)
    match (List.range 32).findSome? (fun q => ((s.hub q).sets.find? mine).map fun o => (q, o)) with
    | some (q, o) =>
      let s := s.raiseFlag p c value.toNat
      let o' := { o with remaining := o.remaining.erase p }
      if o'.remaining.isEmpty then
        let s := s.modHub q fun h => { h with sets := h.sets.erase o }
        .next (if o.unit = 0xFFFF then s
          else s.reply (s.mkReply o.unit o.seq opcRim 0 (BitVec.ofNat 64 (s.getF (Reg.rimFlag p c))) false))
      else .next (s.modHub q fun h => { h with sets := h.sets.map fun x => if x = o then o' else x })
    | none => .next s

/-! ## Hub resets (R206, R222-R224) -/

/-- A range of counters takes its values from another table. -/
def copyRange (src dst : Tbl Nat) (lo hi : Nat) : Tbl Nat :=
  dst.filter (fun e => decide (e.1 < lo)) ++ src.filter (fun e => decide (lo ≤ e.1 ∧ e.1 < hi)) ++
    dst.filter (fun e => decide (hi ≤ e.1))

/-- The pairs of a hub lose what it held of them (R222): its replay buffers, and its place in each sequence. -/
def State.dropPairs (s : State) (p : Nat) : State :=
  (List.range 32).foldl (fun s q =>
    if q = p then s
    else
      let s := (s.retrain p q).retrain q p
      if s.pair p q = Pair.zero then s else s.modPair p q fun x => { x with replay := [], nextSeq := x.expect }) s

/-- Both hubs of a die have lost their copies (R206): its counters restart, held waits complete, its plaits fail, and its
ledgers enter quarantine (R284). -/
def State.bothCopiesLost (s : State) (d : Nat) : State :=
  let lo := 8192 * d
  let fab := { s.fab with sync := copyRange [] s.fab.sync lo (lo + 8192), mirror := copyRange [] s.fab.mirror lo (lo + 8192) }
  let s := { s with fab := fab }
  let waits := (s.hub (2 * d)).waiters ++ (s.hub (2 * d + 1)).waiters
  let s := [2 * d, 2 * d + 1].foldl (fun s p => s.modHub p fun h => { h with waiters := [], unmirrored := [] }) s
  let s := waits.foldl (fun s w => s.reply (s.waiterReply w 0x30 0)) s
  let s := s.losePlaits fun p => p / 2 == d && decide (p < 16)
  let s := [2 * d, 2 * d + 1].foldl (fun s p => (s.setB (Reg.ownByMirror p) false).setB (Reg.servingPartner p) false) s
  (s.quarantine (hubUnit (2 * d)) 1).quarantine (hubUnit (2 * d + 1)) 1

/-- The primary resets and its partner serves (R206, R223): the partner's copy is in force, operations that it has not
confirmed were never acknowledged, and it holds the waiters. -/
def State.partnerServes (s : State) (p : Nat) : State :=
  let h := s.hub p
  let fab := { s.fab with sync := copyRange s.fab.mirror s.fab.sync (4096 * p) (4096 * p + 4096) }
  let s := { s with fab := fab }
  let tags := h.unmirrored.filterMap fun u => u.reply.map fun r => (r.srcNode.toNat, r.srcUnit.toNat, r.inc.toNat, r.seq.toNat)
  let s := s.freeIn (hubUnit p) fun e => decide ((e.node, e.unit, e.inc, e.seq) ∈ tags)
  let s := s.modHub p fun h => { h with waiters := [], unmirrored := [] }
  let s := s.modHub (p ^^^ 1) fun h' => { h' with waiters := h'.waiters ++ h.waiters }
  -- what the partner had sent to this mirror is acknowledged at once (R205)
  let owed := (s.hub (p ^^^ 1)).unmirrored
  let s := s.modHub (p ^^^ 1) fun h' => { h' with unmirrored := [] }
  let s := owed.foldl (fun s u => match u.reply with | some r => s.reply r | none => s) s
  (s.setB (Reg.ownByMirror p) true).setB (Reg.servingPartner (p ^^^ 1)) true

/-- A hub resets (R222). -/
def State.hubReset (s : State) (p cause : Nat) : State :=
  let st := s.getF (Reg.hubState p)
  if st = 0 ∨ st = 3 then s
  else
    let both := decide (p < 16) && s.getF (Reg.hubState (p ^^^ 1)) != 1
    let s := (s.setF (Reg.hubState p) 0).wrapF (Reg.hubResetCount p) 1
    let s := if cause = 0 then s.setB (Reg.hubCtrlReset p) true else s
    let s := s.modHub p fun h => { h with resetAt := s.clk.now, cause := cause, copied := false, accepted := [], copies := [] }
    let s := s.dropPairs p
    let s := s.raise 0x200A (hubUnit p) [p, if both then 3 else cause]
    if p < 16 then
      (if both then s.bothCopiesLost (p / 2) else if s.on (Reg.ownByMirror p) then s else s.partnerServes p)
    else s.losePlaits fun q => q == p

/-- HUB_RESET (R222): a write of HUB_CTRL.RESET, a self-check failure or the loss of its clock. -/
def execHubReset (hub : PortN) (cause : Cause) (s : State) : Out := s.live fun s =>
  .next (if cause = .register ∧ !s.answers (Reg.hub hub) then s else s.hubReset hub (min 2 (causeNum cause)))

/-- A hub's pairs train in both directions. -/
def State.trainHub (s : State) (p : Nat) : State :=
  (List.range 32).foldl (fun s q => (s.pairTrained p q).pairTrained q p) s

/-- HUB_STATE_COPIED (R223): a compute hub, whose links retrain with it where none has yet, copies its partner's state. -/
def execHubStateCopied (hub : PortN) (s : State) : Out := s.live fun s =>
  let p := hub.val
  let st := s.getF (Reg.hubState p)
  if 16 ≤ p ∨ (st ≠ 0 ∧ st ≠ 2) ∨ (s.hub p).copied ∨ s.getF Reg.glbPhase < 3 then .next s
  else
    let s := s.hubRetrained p
    let lo := 8192 * (p / 2)
    let s := { s with fab := { s.fab with mirror := copyRange s.fab.sync s.fab.mirror lo (lo + 8192) } }
    .next ((s.modHub p fun h => { h with copied := true }).trainHub p)

/-- An I/O hub takes the rim state of its channels from another I/O hub of its counting set (R224): the lowest that runs. -/
def State.takeRim (s : State) (p : Nat) : State :=
  match [28, 29, 30, 31].find? fun q => q != p && s.getF (Reg.hubState q) == 1 with
  | none => s
  | some q =>
    (List.range 64).foldl (fun s c =>
      if !s.rimHere p c then s
      else
        let s := (s.setF (Reg.rimArrived p c) (s.getF (Reg.rimArrived q c))).setB (Reg.rimGen p c) (s.on (Reg.rimGen q c))
        let s := s.setF (Reg.rimFlag p c) (s.getF (Reg.rimFlag q c))
        let x := s.chan q c
        s.modChan p c fun y => { y with passed := x.passed, comps := x.comps, sent := x.sent }) s

/-- A hub resumes full service (R223, R224). A hub whose partner is still in reset serves its counters too (R206). -/
def State.hubRestored (s : State) (p : Nat) : State :=
  let s := (s.setF (Reg.hubState p) 1).setB (Reg.hubCtrlReset p) false
  let s := s.raise 0x200B (hubUnit p) [p, s.clk.now - (s.hub p).resetAt]
  if p < 16 then
    let mine := (s.hub (p ^^^ 1)).waiters.filter fun w => w.counter / 4096 == p
    let s := s.modHub (p ^^^ 1) fun h => { h with waiters := h.waiters.filter fun w => w.counter / 4096 != p }
    let s := s.modHub p fun h => { h with waiters := h.waiters ++ mine }
    let lo := 8192 * (p / 2)
    let s := { s with fab := { s.fab with mirror := copyRange s.fab.sync s.fab.mirror lo (lo + 8192) } }
    let s := (s.setB (Reg.ownByMirror p) false).setB (Reg.servingPartner (p ^^^ 1)) false
    if s.getF (Reg.hubState (p ^^^ 1)) = 1 then s
    else (s.setB (Reg.ownByMirror (p ^^^ 1)) true).setB (Reg.servingPartner p) true
  else (if 28 ≤ p then s.takeRim p else s).trainHub p

/-- HUB_RESTORED (R223, R224): a compute hub that holds its copy resumes at a frame tick; a stack or I/O hub as soon as it
has retrained. -/
def execHubRestored (hub : PortN) (s : State) : Out := s.live fun s =>
  let p := hub.val
  let st := s.getF (Reg.hubState p)
  if s.getF Reg.glbPhase < 3 then .next s
  else if p < 16 then
    .next (if st = 2 ∧ (s.hub p).copied ∧ s.clk.now = s.clk.tick then s.hubRestored p else s)
  else .next (if st = 0 then s.hubRestored p else s)

end Sys2Proof.Machine
end

