-- ==== Sys2Proof/Machine/StoreDies.lean ====
section
/-!
DEFINITION. Vertical links and meshes (R23-R25, R71, R72), slices and store dies (R170-R180).
-/
namespace Sys2Proof.Machine

/-! ## Vertical links and meshes (R23-R25, R71, R72) -/

def VLink.zero : VLink := ⟨[]⟩
def State.vlink (s : State) (p : Nat) : VLink := Tbl.look (fun _ => VLink.zero) s.fab.vlinks p
def State.setVlink (s : State) (p : Nat) (x : VLink) : State :=
  { s with fab := { s.fab with vlinks := Tbl.put (fun _ => VLink.zero) s.fab.vlinks p x } }

/-- Spares in use in one direction. -/
def VLink.used (x : VLink) (dir : Nat) : Nat := ((x.spares.filter fun e => e.1 / 32 == dir).map Prod.snd).sum

/-- VLINK_SPARED (R23): one of the group's two spares replaces the failing signal. -/
def execVlinkSpared (hub : PortN) (transmit : Bool) (group : Fin 32) (signal : Nat) (s : State) : Out := s.live fun s =>
  let p := hub.val
  let dir := if transmit then 0 else 1
  let x := s.vlink p
  let n := Tbl.look (fun _ => 0) x.spares (32 * dir + group)
  if 2 ≤ n ∨ s.getF (Reg.vlinkWidth p) = 2 then .next s
  else
    let x : VLink := ⟨Tbl.put (fun _ => 0) x.spares (32 * dir + group) (n + 1)⟩
    let s := (s.setVlink p x).setF (Reg.vlinkSpares p) (max (x.used 0) (x.used 1))
    .next (s.raise 0x2E01 (hubUnit p) [p, dir, group.val, signal])

/-- VLINK_HALF_WIDTH (R24, R25): a group needs a third spare; the link runs on 16 healthy groups, or fails with fewer. -/
def execVlinkHalfWidth (hub : PortN) (healthyGroups : Fin 33) (s : State) : Out := s.live fun s =>
  let p := hub.val
  let n := healthyGroups.val
  if s.getF (Reg.vlinkGroups p) ≤ n then .next s
  else
    let s := s.setF (Reg.vlinkGroups p) n
    let was := s.getF (Reg.vlinkWidth p)
    let s := if 16 ≤ n then
        (if was = 0 then (s.setF (Reg.vlinkWidth p) 1).raise 0x2E02 (hubUnit p) [p, n] else s)
      else if was = 2 then s else (s.setF (Reg.vlinkWidth p) 2).raise 0x2E03 (hubUnit p) [p]
    .next (s.setDegraded 1 true)

/-! ## Slices (R170-R174) -/

/-- SD_STATUS.DEGRADED and SLICES_DEGRADED of a die, and the SLICE bit (R181, R389). -/
def State.refreshSlices (s : State) (d : Nat) : State :=
  let n := ((List.range 288).filter fun p => decide (1 ≤ s.getF (Reg.sliceState d p) ∧ s.getF (Reg.sliceState d p) ≤ 3)).length
  let s := (s.setF (Reg.sdSlicesDegraded d) n).setB (Reg.sdDegraded d) (decide (0 < n))
  s.setDegraded 2 ((List.range 8).any fun e => s.on (Reg.sdDegraded e))

/-- Failing positions of a half: H0 holds the first 2,304 (R170). -/
def halfFails (failed : List Nat) (h : Nat) : Nat := (failed.filter fun x => x / 2304 == h).length

/-- The free spare that a slice is evacuated to (R173): the lowest on its side, else the lowest on the other. -/
def State.freeSpare (s : State) (d p : Nat) : Option Nat :=
  let taken := fun x => (List.range 292).any fun y => (s.slice d y).copyTo == some x
  let free := fun x => s.getF (Reg.sliceState d x) == 4 && !taken x
  let west := p % 18 < 9
  (if west then [288, 289, 290, 291] else [290, 291, 288, 289]).find? free

/-- A slice begins its evacuation, or fails (R173, R174). -/
def State.evacuate (s : State) (d p : Nat) : State :=
  match s.freeSpare d p with
  | some x => s.setSlice d p { s.slice d p with copyTo := some x, copyStart := s.clk.now }
  | none => (((s.setF (Reg.sliceState d p) 3).raise 0x4107 (s.dieUnit d) [d, p])).refreshSlices d

/-- A slice runs at half width on a half (R172). BOND_SPARES_USED shows the failing positions of that half (log entry 146). -/
def State.halve (s : State) (d p h used : Nat) : State :=
  let s := (s.setF (Reg.sliceHalf d p) h).setF (Reg.sliceSpares d p) used
  let s := if p < 288 then s.setF (Reg.sliceState d p) 1 else s
  (s.raise 0x4105 (s.dieUnit d) [d, p, h]).refreshSlices d

/-- Spares replace the failing positions of a slice at full width or in the half in use: one event for each. -/
def State.spareBonds (s : State) (d p : Nat) (new : List Nat) : State :=
  new.foldl (fun s x =>
    let n := s.getF (Reg.sliceSpares d p) + 1
    (s.setF (Reg.sliceSpares d p) n).raise 0x4104 (s.dieUnit d) [d, p, x, n]) s

/-- Neither half serves: a mapped slice is evacuated; a spare in use sends the slice it served to another spare. -/
def State.giveUp (s : State) (d p : Nat) : State :=
  if p < 288 then s.evacuate d p else s.evacuate d (s.getF (Reg.slicePartner d p))

/-- Training has located failing positions of a slice's bond (R171-R174). -/
def State.bondRetrained (s : State) (d p : Nat) (positions : List Nat) : State :=
  let x := s.slice d p
  let new := (positions.filter fun y => !decide (y ∈ x.failed)).eraseDups
  let failed := x.failed ++ new
  let s := s.setSlice d p { x with failed := failed }
  let h0 := halfFails failed 0
  let h1 := halfFails failed 1
  let halved := s.getF (Reg.sliceState d p) == 1 || (decide (288 ≤ p) && decide (64 < x.failed.length))
  if !halved then
    if failed.length ≤ 64 then s.spareBonds d p new
    else if h0 ≤ 64 then s.halve d p 0 h0
    else if h1 ≤ 64 then s.halve d p 1 h1
    else s.giveUp d p
  else
    let h := s.getF (Reg.sliceHalf d p)
    if halfFails failed h ≤ 64 then s.spareBonds d p (new.filter fun y => y / 2304 == h)
    else if halfFails failed (1 - h) ≤ 64 then s.halve d p (1 - h) (halfFails failed (1 - h))
    else s.giveUp d p

/-- SLICE_SPARED (R171): a slice's bond retrains; `positions` are the failing positions that training locates, and
`repeats` the repeated transfers. A failed, evacuated or free slice has no bond in use. -/
def execSliceSpared (die : DieN) (slice : Fin 292) (positions : List (Fin 4608)) (repeats : Nat) (s : State) : Out := s.live fun s =>
  let d := die.val
  let p := slice.val
  let st := s.getF (Reg.sliceState d p)
  if s.getF (Reg.sdState d) = 0 ∨ s.getF (Reg.sdState d) = 3 ∨ (st ≠ 0 ∧ st ≠ 1 ∧ st ≠ 5) ∨ (s.slice d p).copyTo.isSome then
    .next s
  else
    let s := (s.bump (Reg.sdCnt d 2) repeats).bump (Reg.sdCnt d 3) 1
    .next (s.bondRetrained d p (positions.map Fin.val))

/-- SLICE_EVACUATED (R173): the copy to the spare is complete; held requests resume there. -/
def execSliceEvacuated (die : DieN) (slice : Fin 292) (s : State) : Out := s.live fun s =>
  let d := die.val
  let p := slice.val
  let x := s.slice d p
  match x.copyTo with
  | none => .next s
  | some y =>
    let s := s.setSlice d p { x with copyTo := none }
    -- a spare that served the slice before is of no more use
    let s := if s.getF (Reg.sliceState d p) = 2 then s.setF (Reg.sliceState d (s.getF (Reg.slicePartner d p))) 3 else s
    let s := (s.setF (Reg.sliceState d p) 2).setF (Reg.slicePartner d p) y
    let s := (s.setF (Reg.sliceState d y) 5).setF (Reg.slicePartner d y) p
    let free := ((List.range 292).filter fun q => s.getF (Reg.sliceState d q) == 4).length
    let s := s.setF (Reg.sdSparesFree d) free
    .next ((s.raise 0x4106 (s.dieUnit d) [d, p, y, s.clk.now - x.copyStart]).refreshSlices d)

/-! ## Store-die reset (R178-R180) -/

/-- The store die that mirrors die d's partition (R176). -/
def mirrorDie (d : Nat) : Nat := (d + 4) % 8

/-- Both copies of two partitions are lost (R180): their entries read as not valid, and the hubs whose live entries were
held only in the spill areas lose those and enter quarantine. -/
def State.partitionsLost (s : State) (d : Nat) : State :=
  let e := mirrorDie d
  let s := { s with regions := s.regions.filter fun r => r.1 % 4 != d % 4 }
  let s := s.raise 0x4103 (s.dieUnit d) [d, e]
  [2 * d, 2 * d + 1, 2 * e, 2 * e + 1].foldl (fun s p =>
    let l := s.ledger (hubUnit p)
    if l.entries.any (fun x => x.spilled) then
      let kept := l.entries.filter fun x => !x.spilled
      (s.putLedger (hubUnit p) ⟨kept, s.clk.now + 272000⟩).raise 0x4201 (hubUnit p) [hubUnit p, 2]
    else s) s

/-- A store die resets (R179, R180): row moves in flight complete TARGET_RESTARTED, and its plaits are lost. -/
def State.sdReset (s : State) (d cause : Nat) : State :=
  let st := s.getF (Reg.sdState d)
  if st = 0 ∨ st = 3 then s
  else
    let s := s.setF (Reg.sdState d) 0
    let s := if cause = 0 then s.setB (Reg.sdCtrlReset d) true else s
    let s := s.setSdie d { s.sdie d with cause := cause, resetAt := s.clk.now, clearing := true }
    let s := s.tiles.foldl (fun s e =>
      if uDie e.1 = d then (e.2.rows.filter fun r => r.granted).foldl (fun s r => s.completeRow e.1 r 0x30) s else s) s
    let s := s.losePlaits fun p => decide (p < 16) && p / 2 == d
    if s.getF (Reg.sdState (mirrorDie d)) = 1 ∨ s.getF (Reg.sdState (mirrorDie d)) = 3 then s else s.partitionsLost d

/-- SD_RESET (R178): a write of SD_CTRL.RESET, a sequencer self-check failure, or the loss of the die above. -/
def execSdReset (die : DieN) (cause : Cause) (s : State) : Out := s.live fun s =>
  .next (if cause = .register ∧ !s.answers (Reg.cd die) then s else s.sdReset die (min 2 (causeNum cause)))

/-- The keys of a die's slices in a table by line, or by byte with `per` 64. -/
def sliceKeys (d per k : Nat) : Bool :=
  let lo := (0xF000000000 + d * 0x90000000) / 64 * per
  decide (lo ≤ k) && decide (k < lo + 0x90000000 / 64 * per)

/-- All lines of a die become invalid (R179). -/
def State.clearSlices (s : State) (d : Nat) : State :=
  let m := s.mem
  { s with mem := { m with bytes := m.bytes.filter (fun e => !sliceKeys d 64 e.1),
                           valid := m.valid.filter (fun e => !sliceKeys d 1 e.1),
                           mark := m.mark.filter (fun e => !sliceKeys d 1 e.1) } }

/-- SD_RESET_CLEARED (R179): the clearing step is done, and the reload begins. The store die of an isolated die waits for its
rejoin (R400 step 6). -/
def execSdResetCleared (die : DieN) (s : State) : Out := s.live fun s =>
  let d := die.val
  let x := s.sdie d
  let dead := s.getF (Reg.dieState d) == 2 || s.getF (Reg.dieState d) == 4
  if s.getF (Reg.sdState d) ≠ 0 ∨ !x.clearing ∨ dead then .next s
  else
    let s := (s.clearSlices d).setSdie d { x with clearing := false }
    let s := ((s.wrapF (Reg.sdResetCount d) 1).setF (Reg.sdState d) 2).setB (Reg.sdCtrlReset d) false
    .next (s.raise 0x4101 (s.dieUnit d) [d, s.getF (Reg.sdResetCount d), x.cause])

/-- SD_RELOADED (R179): the reload from the partner is complete. It waits for the partner, and for a path from each of its
hubs to each of the die's. -/
def execSdReloaded (die : DieN) (s : State) : Out := s.live fun s =>
  let d := die.val
  let e := mirrorDie d
  let path := [2 * e, 2 * e + 1].any fun p => [2 * d, 2 * d + 1].any fun q => (s.nextHop p q).isNone
  if s.getF (Reg.sdState d) ≠ 2 ∨ s.getF (Reg.sdState e) = 0 ∨ path then .next s
  else
    let s := s.setF (Reg.sdState d) 1
    .next (s.raise 0x4102 (s.dieUnit d) [d, s.clk.now - (s.sdie d).resetAt])

end Sys2Proof.Machine
end

