-- ==== Sys2Proof/Machine/WithyLink.lean ====
section
/-!
DEFINITION. The colours of the Withy fibres, their flits and codewords (R360-R372).
-/
namespace Sys2Proof.Machine

def WFib.zero : WFib :=
  { txSeq := 0, replay := [], ackAt := 0, phase := false, cw := [], rest := [], errors := [], expect := 0, nakAt := none, used := [0, 0, 0, 0], returned := [0, 0, 0, 0],
    given := [0, 0, 0, 0], rtt := 0, tx := [], rx := [], txHealthy := 0, trainSince := 0, up := false, skip := false, down := false }
def State.fib (s : State) (n f : Nat) : WFib := Tbl.look (fun _ => WFib.zero) s.withy.fibres (16 * n + f)
def State.setFib (s : State) (n f : Nat) (x : WFib) : State :=
  { s with withy := { s.withy with fibres := Tbl.put (fun _ => WFib.zero) s.withy.fibres (16 * n + f) x } }
def State.modFib (s : State) (n f : Nat) (g : WFib → WFib) : State := s.setFib n f (g (s.fib n f))

/-- The I/O hub that stands as the source of a die's Withy events (R385). -/
def wtyUnit (n : Nat) : Nat := 0x101C + 2 * n

/-- The fibres that reach a node, by number. -/
def State.fibresTo (s : State) (node : Nat) : List Nat := (List.range 32).filter fun k => s.fibreTo k node

/-- The block notes since when no fibre reaches the time parent (R379). -/
def State.noteParent (s : State) : State :=
  let cut := if (s.fibresTo (s.getF Reg.wtyParent)).isEmpty then some (s.withy.cutAt.getD s.clk.now) else none
  { s with withy := { s.withy with cutAt := cut } }

/-- WTY_STATUS of a die and the WITHY bit (R383, R390), after a fibre has changed. -/
def State.refreshWithy (s : State) (n : Nat) : State :=
  let s := s.noteParent
  let st := fun (f : Nat) => s.getF (Reg.fibState n f)
  let up := ((List.range 16).filter fun f => st f == 2 || st f == 3).length
  let low := (List.range 16).any fun f => st f == 3 || st f == 4 || st f == 5
  let s := (s.setF (Reg.wtyFibresUp n) up).setB (Reg.wtyDegraded n) low
  s.setDegraded 6 (s.on (Reg.wtyDegraded 0) || s.on (Reg.wtyDegraded 1))

/-- Colours of a mask, in rising order. -/
def coloursOf (mask : Nat) : List Nat := (List.range 18).filter fun j => mask.testBit j

/-- Spares of the receive direction: healthy colours that no position uses (R383). -/
def State.refreshSpares (s : State) (n f : Nat) : State :=
  let x := s.fib n f
  let free := (coloursOf (s.getF (Reg.fibHealthy n f))).filter fun j => !decide (j ∈ x.rx)
  s.setF (Reg.fibSpares n f) (min 3 free.length)

/-- A whole pair has failed (R371). -/
def State.fibFailed (s : State) (n f : Nat) : State :=
  let s := (s.setF (Reg.fibState n f) 5).setF (Reg.fibActive n f) 0
  let s := s.modFib n f fun x => { x with up := false, tx := [], rx := [] }
  (s.raise 0x2F05 (wtyUnit n) [n, f]).refreshWithy n

/-- Replaces one colour of a list of positions. -/
def replaceColour (ps : List Nat) (lost spare : Nat) : List Nat := ps.map fun j => if j = lost then spare else j

/-! ## Codewords (R362, R363, R365) -/

/-- The header of a Withy flit, 12 B, and its payload (R363). -/
def withyHead (x : WithyFlit) : Nat :=
  x.destNode.toNat + x.srcNode.toNat * 2 ^ 16 + x.srcUnit.toNat * 2 ^ 32 + x.seq.toNat * 2 ^ 48 + x.inc.toNat * 2 ^ 72 +
    x.kind.toNat * 2 ^ 80 + x.tc.toNat * 2 ^ 83 + x.epoch.toNat * 2 ^ 85 + x.hops.toNat * 2 ^ 86 + x.destPort.val * 2 ^ 88 +
    x.reply.toNat * 2 ^ 93 + x.payload.toNat * 2 ^ 96

/-- The 256 bytes of a Withy flit: its CRC is that of R192. -/
def withyBytes (x : WithyFlit) : List Byte :=
  let b := bytesOfNat 252 (withyHead x)
  b ++ bytesOfNat 4 (crc32 b).toNat

/-- The flit that 256 bytes spell; none where the CRC fails. -/
def withyOf (b : List Byte) : Option WithyFlit :=
  let n := natOfBytes (b.take 252)
  let at_ := fun lo w => n / 2 ^ lo % 2 ^ w
  if natOfBytes (b.drop 252) ≠ (crc32 (b.take 252)).toNat then none
  else
    some { destNode := BitVec.ofNat 16 (at_ 0 16), srcNode := BitVec.ofNat 16 (at_ 16 16), srcUnit := BitVec.ofNat 16 (at_ 32 16),
           seq := BitVec.ofNat 24 (at_ 48 24), inc := BitVec.ofNat 8 (at_ 72 8), kind := BitVec.ofNat 3 (at_ 80 3),
           tc := BitVec.ofNat 2 (at_ 83 2), epoch := at_ 85 1 == 1, hops := BitVec.ofNat 2 (at_ 86 2),
           destPort := Fin.ofNat 32 (at_ 88 5), reply := at_ 93 1 == 1, payload := BitVec.ofNat 1920 (at_ 96 1920) }

/-- An idle flit. -/
def withyIdle : WithyFlit :=
  { destNode := 0, srcNode := 0, srcUnit := 0, seq := 0, inc := 0, kind := 0, tc := 0, epoch := false, hops := 0, destPort := 0,
    reply := false, payload := 0 }

/-- The stream bytes of a codeword that carries one flit beside idle flits (log entry 65): an idle flit goes on in every second
codeword. -/
def withyStream (phase : Bool) (x : WithyFlit) : List Byte :=
  let idle := withyBytes withyIdle
  if phase then idle.drop 128 ++ withyBytes x ++ idle else withyBytes x ++ idle ++ idle.take 128

/-- A codeword of a fibre (R362): its control field holds PHASE, CW_SEQ and SEQD. -/
def withyWord (phase : Bool) (seq : Nat) (sequenced : Bool) (stream : List Byte) : List (BitVec 10) :=
  let c := phase.toNat + seq % 2 ^ 18 * 2 + sequenced.toNat * 2 ^ 19
  let message := BitVec.ofNat 10 c :: BitVec.ofNat 10 (c / 2 ^ 10) :: cwData stream
  message ++ (List.range 30).map fun i => Config.rsCheck message i

/-- A sequenced codeword leaves on the fibre. -/
def WFib.coded (x : WFib) (seq : Nat) (flits : List WithyFlit) : WFib :=
  flits.foldl (fun (x : WFib) flit => { x with phase := !x.phase, cw := withyWord x.phase seq true (withyStream x.phase flit) }) x

/-- A codeword as received: two symbols of control field, then the others. -/
def wordRead (failed : Bool) (corrected : List (Fin 544)) (control : BitVec 20) (data : List (BitVec 10)) : CwRead :=
  ⟨true, failed, corrected, control.setWidth 10 :: control.extractLsb' 10 10 :: data⟩

/-- The control field of a codeword as received. -/
def wordControl (symbols : List (BitVec 10)) : Nat := (symbols.getD 0 0).toNat + (symbols.getD 1 0).toNat * 2 ^ 10
def wordPhase (symbols : List (BitVec 10)) : Bool := wordControl symbols % 2 == 1
def wordSeq (symbols : List (BitVec 10)) : Nat := wordControl symbols / 2 % 2 ^ 18
def wordSequenced (symbols : List (BitVec 10)) : Bool := (wordControl symbols).testBit 19

/-- The stream bytes of a codeword as received. -/
def wordStream (symbols : List (BitVec 10)) : List Byte :=
  bytesOfNat 640 (((List.range 512).map fun j => (symbols.getD (j + 2) 0).toNat * 2 ^ (10 * j)).sum)

/-- Cuts a stream into flits of 256 bytes, and what is left. -/
def cutFlits : Nat → List Byte → List (List Byte) × List Byte
  | 0, bs => ([], bs)
  | fuel + 1, bs =>
    if bs.length < 256 then ([], bs)
    else
      let r := cutFlits fuel (bs.drop 256)
      (bs.take 256 :: r.1, r.2)

/-- The flits that a codeword completes, after the half that the last one left, and the half that it leaves (R190, R362). -/
def wordFlits (rest : List Byte) (symbols : List (BitVec 10)) : List (List Byte) × List Byte :=
  let stream := wordStream symbols
  cutFlits 3 (if wordPhase symbols then (if rest.length = 128 then rest ++ stream else stream.drop 128) else stream)

/-- The colours that a codeword gives a colour error (R368): those that carried more than 6 of the corrected symbols, or, of an
uncorrectable one, those in use whose margin monitor found too many symbols in its guard band. -/
def wordColourErrors (rx : List Nat) (w : CwRead) (margin : Nat) : List Nat :=
  if w.failed then rx.filter fun j => margin.testBit j
  else ((List.range rx.length).filter fun i => decide (6 < correctedOn w rx.length i)).map fun i => rx.getD i 0

/-- Unacknowledged codewords from one on are replayed, each counted (R365). -/
def State.fibReplay (s : State) (n f cw : Nat) : State :=
  let again := (s.fib n f).replay.dropWhile fun e => e.1 != cw
  let s := s.modFib n f fun x => { again.foldl (fun (x : WFib) e => x.coded e.1 e.2) x with ackAt := s.clk.now }
  s.bump (Reg.wtyCnt n 2) again.length

/-- What was not acknowledged is replayed after a retraining. -/
def State.fibReplayAll (s : State) (n f : Nat) : State :=
  match (s.fib n f).replay with
  | [] => s
  | e :: _ => s.fibReplay n f e.1

/-! ## Colours that fail (R368-R372) -/

/-- A direction loses a colour (R369, R370): `rx` says which direction, `mask` is what stays healthy of its colours. What was sent
and not acknowledged on a direction that has retrained is replayed. -/
def State.loseColour (s : State) (n f : Nat) (rx : Bool) (lost mask : Nat) : State :=
  let x := s.fib n f
  let ps := if rx then x.rx else x.tx
  let put := fun (s : State) (ps : List Nat) => s.modFib n f fun x => if rx then { x with rx := ps } else { x with tx := ps }
  let healthy := coloursOf mask
  if !x.up ∨ !decide (lost ∈ ps) then s
  else
    let s := s.bump (Reg.wtyCnt n 6) 1
    let again := fun (s : State) => if rx then s else s.fibReplayAll n f
    match healthy.find? (fun j => !decide (j ∈ ps)) with
    | some spare => again ((put s (replaceColour ps lost spare)).raise 0x2F03 (wtyUnit n) [n, f, ps.idxOf lost, lost, spare])
    | none =>
      if ps.length = 16 ∧ 8 ≤ healthy.length then
        let s := ((put s (healthy.take 8)).setF (Reg.fibActive n f) 8).setF (Reg.fibState n f) 3
        again ((s.raise 0x2F04 (wtyUnit n) [n, f, rx.toNat, mask]).refreshWithy n)
      else s.fibFailed n f

/-- Colour errors of a receive colour within the last 1 ms. -/
def State.colourErrors (s : State) (n f colour : Nat) : Nat :=
  ((s.fib n f).errors.filter fun e => e.1 == colour && decide (s.clk.now < e.2 + 1000000)).length

/-- WITHY_COLOUR_SUSPECT (R368): eight colour errors within 1 ms, or a failed pilot check, mark a receive colour suspect. -/
def execWithyColourSuspect (n : IoN) (f : FibreN) (colour : Fin 18) (pilot : Bool) (s : State) : Out := s.live fun s =>
  let h := s.getF (Reg.fibHealthy n f)
  if !(s.fib n f).up ∨ !h.testBit colour ∨ (!pilot ∧ s.colourErrors n f colour < 8) then .next s
  else
    .next ((s.setF (Reg.fibHealthy n f) (setBit h colour false)).refreshSpares n f)

/-- WITHY_COLOUR_SPARED (R369, R370): the position of a suspect receive colour moves to the lowest healthy spare, or the
direction drops to 8 positions. -/
def execWithyColourSpared (n : IoN) (f : FibreN) (position : Fin 16) (lost : Fin 18) (s : State) : Out := s.live fun s =>
  let h := s.getF (Reg.fibHealthy n f)
  if (s.fib n f).rx[position.val]? ≠ some lost.val ∨ h.testBit lost then .next s
  else .next ((s.loseColour n f true lost h).refreshSpares n f)

/-- A Withy colour has no laser left (R372): it goes out of service on every transmit fibre of the die. -/
def State.withyColourOut (s : State) (n j : Nat) : State :=
  (List.range 16).foldl (fun s f =>
    let x := s.fib n f
    if !x.up then s
    else
      let mask := setBit x.txHealthy j false
      (s.modFib n f fun x => { x with txHealthy := mask }).loseColour n f false j mask) s

end Sys2Proof.Machine
end

