-- ==== Sys2Proof/Machine/Lasers.lean ====
section
/-!
DEFINITION. The calibrated values in force, the lasers (R230-R238), and the rings of a plane that is lit or goes dark (R244).
-/
namespace Sys2Proof.Machine

/-! ## Calibrated values (R248, R251) -/

/-- The number of a quantity's row in R248's table, which the events show; a laser target is 9 (log entry 57). -/
def calNum : CalQty → Nat
  | .monitor => 0
  | .grid => 1
  | .eta => 2
  | .kff => 3
  | .modSlope => 4
  | .driver => 4
  | .rxGain => 5
  | .rxOffset => 5
  | .tempSensor => 6
  | .voltSensor => 7
  | .leg => 8

/-- The place of a quantity's values: its row, with a place of its own where a row holds two quantities. -/
def calPlace : CalQty → Nat
  | .driver => 10
  | .rxOffset => 11
  | q => calNum q

def calKey (place element : Nat) : Nat := 2 ^ 20 * place + element

/-- The value in force of a quantity. -/
def State.calInForce (s : State) (key : Nat) (v : Int) : Rat := (Tbl.find s.light.inForce key).getD v

/-- The key of the drive of a modulator ring at level i of PAM4 (R187, R248). -/
def driverKey (r i : Nat) : Nat := calKey (calPlace .driver) (4 * r + i)

/-! ## Lasers (R230-R233) -/

/-- The unit of the laser events and of the engine (R259). -/
def lxUnit : Nat := 0x101C

def Laser.zero : Laser :=
  { tuning := 0, trim := 0, handover := none, worn := 0, power := 0, current := 0, samples := 0, lowFrames := 0, farFrames := 0,
    outage := false }
def State.laser (s : State) (l : Nat) : Laser := Tbl.look (fun _ => Laser.zero) s.light.lasers l
def State.setLaser (s : State) (l : Nat) (x : Laser) : State :=
  { s with light := { s.light with lasers := Tbl.put (fun _ => Laser.zero) s.light.lasers l x } }
def State.modLaser (s : State) (l : Nat) (f : Laser → Laser) : State := s.setLaser l (f (s.laser l))

/-- A laser that has neither failed nor faded (R235, R237). -/
def State.laserOk (s : State) (l : Nat) (spare : Bool) : Bool :=
  !s.on (Reg.lsrFailed l spare) && !(s.laser l).worn.testBit spare.toNat

/-- Whether an index has a free, serviceable other laser (R257). -/
def State.spareFree (s : State) (l : Nat) : Bool :=
  match s.getF (Reg.lsrServing l) with
  | 0 => s.laserOk l false && s.laserOk l true
  | 1 => s.laserOk l true
  | 2 => s.laserOk l false
  | _ => false

/-- SPARES_FREE, HANDOVER_ACTIVE and the LASER bit (R257, R389, R390). -/
def State.refreshLasers (s : State) : State :=
  let free := ((List.range 324).filter s.spareFree).length
  let active := s.light.lasers.any fun e => e.2.handover.isSome
  ((s.setF Reg.laserSparesFree free).setB Reg.handoverActive active).setDegraded 4 (decide (free < 324))

/-- Whether a laser of an index is lit. -/
def State.lit (s : State) (l : Nat) (spare : Bool) : Bool :=
  let v := s.getF (Reg.lsrServing l)
  v == 3 || v == (if spare then 2 else 1)

/-- The output and the bias that a laser reports (R231). -/
def State.showLaser (s : State) (l : Nat) (spare : Bool) (power current : Nat) : State :=
  (s.setF (Reg.lsrPower l spare) power).setF (Reg.lsrCurrent l spare) current

/-- The serving laser of an index changes to `v`, 0 for none: a laser that is off reports no output, FADED tells of the one that
serves alone (R257), and its criteria and its place on the grid start afresh (log entry 138). -/
def State.serveBy (s : State) (l v : Nat) : State :=
  let s := (s.setF (Reg.lsrServing l) v).setB (Reg.lsrGridLocked l) false
  let s := if v = 1 then s else s.showLaser l false 0 0
  let s := if v = 2 then s else s.showLaser l true 0 0
  if v = 0 then s
  else
    let s := (s.setB (Reg.lsrFaded l) ((s.laser l).worn.testBit (v - 1))).setF (Reg.lsrGridOffset l) 0
    let s := s.modLaser l fun x => { x with power := 0, current := 0, samples := 0, lowFrames := 0, farFrames := 0 }
    { s with light := { s.light with cal := Tbl.drop s.light.cal (calKey 1 l) } }

/-- LASER_POWER_CONTROL (R231): a reading of a lit laser's monitor, in 0.1 mW and 0.1 % of Imax, which the bias never
exceeds. -/
def execLaserPowerControl (l : LaserN) (spare : Bool) (power01mW current : Nat) (s : State) : Out := s.live fun s =>
  if !s.lit l spare then .next s
  else
    let i := min 1000 current
    let s := s.showLaser l spare (min 1023 power01mW) i
    .next (if s.getF (Reg.lsrServing l) = 3 then s
      else s.modLaser l fun x => { x with power := x.power + power01mW, current := x.current + i, samples := x.samples + 1 })

/-- A laser index of the fabric that is lit. -/
def State.fabricLit (s : State) (l : Nat) : Bool := decide (l < 288) && s.getF (Reg.lsrServing l) != 0

/-- GRID_FEEDFORWARD (R232): the target frequency is corrected from the router's temperature sensors, in the unit of the tuning code
(log entry 135). -/
def execGridFeedforward (l : LaserN) (correction : Int) (s : State) : Out := s.live fun s =>
  .next (if s.fabricLit l then s.modLaser l fun x => { x with tuning := x.tuning + correction } else s)

/-- A signed item of an event's detail, in 32 bits. -/
def signedItem (x : Int) : Nat := (x % 2 ^ 32).toNat

/-! ## Lanes that a laser feeds (R237) -/

/-- The pairs whose lanes on its plane a fabric laser feeds: those of its colour (R185, R187). -/
def laserPairs (l : Nat) : List (Nat × Nat) :=
  if l < 288 ∧ l % 32 ≠ 0 then (List.range 32).map fun p => (p, (p + l % 32) % 32) else []

def laneId (p q plane : Nat) : Nat := 9 * (32 * p + q) + plane

/-- Every lane that a laser feeds and that is not masked already is masked at once. -/
def State.maskLaser (s : State) (l : Nat) : State :=
  (laserPairs l).foldl (fun s e =>
    if (s.pair e.1 e.2).masked.testBit (l / 32) then s
    else
      let id := laneId e.1 e.2 (l / 32)
      { s with light := { s.light with laserMasked := s.light.laserMasked ++ [id] } }.maskLane e.1 e.2 (l / 32)) s

/-- The lanes masked for want of a laser return. -/
def State.unmaskLaser (s : State) (l : Nat) : State :=
  (laserPairs l).foldl (fun s e =>
    let id := laneId e.1 e.2 (l / 32)
    if id ∈ s.light.laserMasked then
      { s with light := { s.light with laserMasked := s.light.laserMasked.erase id } }.unmaskLane e.1 e.2 (l / 32)
    else s) s

/-! ## The rings of a plane (R239, R243, R244) -/

/-- Number of a ring (R239). -/
def ringNo (port plane bus slot : Nat) : Nat := 66 * (9 * port + plane) + 33 * bus + slot
/-- The rings of a plane. -/
def planeRings (plane : Nat) : List Nat := (List.range 32).flatMap fun port => (List.range 66).map fun i => ringNo port plane 0 0 + i
def ringPort (r : Nat) : Nat := r / 66 / 9
def ringPlane (r : Nat) : Nat := r / 66 % 9
def ringBus (r : Nat) : Nat := r / 33 % 2
def ringSlot (r : Nat) : Nat := r % 33

def HeatRing.zero : HeatRing :=
  { beyond := none, within := none, error := 0, ambiguous := 0, fails := 0, lostAt := none, point := 0, back := 0, part := 0,
    spareSeg := false }
def State.heat (s : State) (r : Nat) : HeatRing := Tbl.look (fun _ => HeatRing.zero) s.light.rings r
def State.setHeat (s : State) (r : Nat) (x : HeatRing) : State :=
  { s with light := { s.light with rings := Tbl.put (fun _ => HeatRing.zero) s.light.rings r x } }
def State.modHeat (s : State) (r : Nat) (f : HeatRing → HeatRing) : State := s.setHeat r (f (s.heat r))

/-- A ring's heater goes where acquisition finds its colour, or where the temperatures put a held point: it stands off `base` by a
free value of the ring's own (log entry 61). -/
def State.heatRing (s : State) (n base st r : Nat) : State :=
  (s.setF (Reg.heater r) ((base + (Config.freeWord (n + r)).toNat) % 65536)).setF (Reg.heatState r) st

/-- A ring locks (R243, R244). -/
def State.lockRing (s : State) (n base r : Nat) : State := s.heatRing n base 2 r

/-- Every ring of `rings` takes part in a step that gives each of them a free value. -/
def State.eachRing (s : State) (rings : List Nat) (act : Nat → State → Nat → State) : State :=
  let n := s.freeCount
  { rings.foldl (act n) s with freeCount := n + 19008 }

/-- Acquisition of a ring begins (R239, R243): a spare that stands in for nothing is parked, that of slot 31 on colour 0 for
self-test where colour 0 is lit; a ring that has failed stays so. -/
def State.sweepRing (s : State) (n r : Nat) : State :=
  let idle := decide (31 ≤ ringSlot r) && s.getF (Reg.heatRole r) == 0
  if s.getF (Reg.heatState r) = 4 then s
  else if !idle then (s.modHeat r fun x => { x with within := none }).setF (Reg.heatState r) 1
  else if ringSlot r = 31 ∧ s.getF (Reg.lsrServing (32 * ringPlane r)) ≠ 0 then s.heatRing n 0 6 r
  else s.heatRing n 0 0 r

/-- A ring's heater is off, and its lock point is kept (R244). -/
def State.holdRing (s : State) (r : Nat) : State :=
  let st := s.getF (Reg.heatState r)
  let code := s.getF (Reg.heater r)
  if st = 4 ∨ st = 5 then s
  else
    let back := if st = 2 then 2 else if st = 0 ∨ st = 6 then 0 else 1
    ((s.modHeat r fun x => { x with point := code, back := back }).setF (Reg.heater r) 0).setF (Reg.heatState r) 5

/-- A held ring is lit (R244): a locked one engages at its corrected point, a spare parks at its own, and one that had no lock is
acquired. -/
def State.relightRing (s : State) (n r : Nat) : State :=
  let x := s.heat r
  if s.getF (Reg.heatState r) ≠ 5 then s
  else if x.back = 1 then s.setF (Reg.heatState r) 1
  else s.heatRing n x.point x.back r

/-- The ring that serves a colour on a bus: its own slot, or the spare that stands in for it. -/
def State.servingRing (s : State) (port plane bus colour : Nat) : Option Nat :=
  ((List.range 33).map fun i => ringNo port plane bus i).find? fun r =>
    s.getF (Reg.heatColour r) == colour && s.getF (Reg.heatRole r) != 2 &&
    (s.getF (Reg.heatRole r) == 1 || decide (ringSlot r < 31))

/-- The rings of a lane. -/
def State.laneRings (s : State) (p q plane : Nat) : List Nat :=
  (match s.servingRing p plane 0 (pairColour p q) with | some r => [r] | none => []) ++
  (match s.servingRing q plane 1 (pairColour p q) with | some r => [r] | none => [])

/-- The rings that serve colour 0 of a plane for self-test park (R239). -/
def State.parkSelfTest (s : State) (plane : Nat) : State :=
  s.eachRing (planeRings plane) fun n s r => if s.getF (Reg.heatState r) = 6 then s.heatRing n 0 0 r else s

/-! ## Lighting and darkening planes (R244, R256) -/

/-- An index is lit by the laser that serves it best: its primary, or its spare. -/
def State.lightLaser (s : State) (l : Nat) : State :=
  if s.getF (Reg.lsrServing l) ≠ 0 then s.setB (Reg.lsrHeldDark l) false
  else
    let v := if s.laserOk l false then 1 else if s.laserOk l true then 2 else 0
    (s.serveBy l v).setB (Reg.lsrHeldDark l) false

/-- A lit fabric laser is confirmed on its passband (R232, R256). -/
def State.onGrid (s : State) (l : Nat) : State := if s.fabricLit l then s.setB (Reg.lsrGridLocked l) true else s

/-- A dark fabric index is lit and brought onto its passband. -/
def State.bringOnGrid (s : State) (l : Nat) : State :=
  if s.getF (Reg.lsrServing l) = 0 then (s.lightLaser l).onGrid l else s.lightLaser l

/-- An index goes dark; a handover ends, and the incoming laser is the one to be lit next (R236). -/
def State.darkLaser (s : State) (l : Nat) : State :=
  let s := match (s.laser l).handover with
    | some h => s.modLaser l fun x => { x with handover := none, worn := setBit x.worn (!h.spareIn).toNat true }
    | none => s
  ((s.serveBy l 0).setB (Reg.lsrHeldDark l) true).setF (Reg.lsrStep l) 0

/-- A plane is lit from its held settings (R244, R256): its lasers of colours 1 to 31, which the grid monitor confirms, and its
rings. -/
def State.lightPlane (s : State) (plane : Nat) : State :=
  let s := (List.range 31).foldl (fun s c => s.bringOnGrid (32 * plane + c + 1)) s
  s.eachRing (planeRings plane) fun n s r => s.relightRing n r

/-- A plane goes dark and keeps its lock points (R244). -/
def State.darkenPlane (s : State) (plane : Nat) : State :=
  let s := (List.range 32).foldl (fun s c => s.darkLaser (32 * plane + c)) s
  (planeRings plane).foldl (fun s r => s.holdRing r) s

/-- A lane of PL8 is lit and locked from its held settings, for a pair whose lane it stands in for (R201, R256). -/
def State.lightLane (s : State) (p q : Nat) : State :=
  let s := s.bringOnGrid (256 + pairColour p q)
  s.eachRing (s.laneRings p q 8) fun n s r => s.relightRing n r

/-- LANE_SPARED (R201): once the pair has retrained without a masked lane, PL8's lane of its colour is lit and locked, and the
pair retrains with it. -/
def execLaneSpared (src dst : PortN) (plane : PlaneN) (s : State) : Out := s.live fun s =>
  let p := src.val
  let q := dst.val
  if p = q ∨ !(s.pair p q).trained ∨ !s.pl8Free p q plane then .next s
  else
    let s := (s.lightLane p q).refreshLasers
    let ready := s.getF (Reg.lsrServing (256 + pairColour p q)) != 0 &&
      (s.laneRings p q 8).all fun r => s.getF (Reg.heatState r) == 2
    .next (if ready then s.spareLane p q plane else s)

/-- A plane is lost (R202, R238); PL8 is lit where it takes the plane's place. -/
def State.planeOut (s : State) (plane : Nat) : State :=
  let was := s.getF (Reg.pl8For 0)
  let s := s.losePlane plane
  let s := s.setDegraded 3 true
  if s.getF (Reg.pl8For 0) = was then s else (s.lightPlane 8).trainAll

/-- One path of the shadow link carries heartbeats or not; the loss of a path is an event (R405). -/
def State.showPath (s : State) (f : Fld) (path : Nat) (ok : Bool) : State :=
  let was := s.on f
  let s := s.setB f ok
  if was && !ok then s.raise 0x7014 s.hlthUnit [path] else s

/-- Whether both transmitters of the shadow link have light: colour 0 or 1 of their die's Withy lasers (R21, R27; log entry
137). -/
def State.shadowLit (s : State) : Bool :=
  [0, 1].all fun n => [0, 1].any fun j => s.getF (Reg.lsrServing (288 + 18 * n + j)) != 0

/-- The optical shadow path fails with the light of its transmitters. -/
def State.refreshShadow (s : State) : State := if s.shadowLit then s else s.showPath Reg.shadowOptical 0 false

/-- An index has no serviceable laser left (R238, R372): its plane is lost, or self-test of it for colour 0, or a Withy colour. -/
def State.loseIndex (s : State) (l : Nat) : State :=
  let plane := if l < 288 then l / 32 else (l - 288) / 18
  let colour := if l < 288 then l % 32 else (l - 288) % 18
  let s := s.raise 0x3004 lxUnit [l, plane, colour]
  let s := if 288 ≤ l then (s.withyColourOut plane colour).refreshShadow
    else if colour = 0 then s.parkSelfTest plane else s.planeOut plane
  s.refreshLasers

/-! ## Handover (R234-R236) -/

/-- The cosine of half an angle, from its cosine; both in units of 2^-60. -/
def halfCos (c : Nat) : Nat := Nat.sqrt ((2 ^ 60 + c) * 2 ^ 59)

/-- The cosines of k and k + 1 times 180°/64, the 32nd part of a right angle, in units of 2^-60. -/
def stepCos : Nat → Int × Int
  | 0 => (2 ^ 60, halfCos (halfCos (halfCos (halfCos (halfCos 0)))))
  | k + 1 =>
    let c := stepCos k
    (c.2, 2 * c.2 * (stepCos 0).2 / 2 ^ 60 - c.1)

/-- The set point of the outgoing laser at step k in nW (R235): TARGET × cos² θ, capped at what it delivers at its maximum bias.
The value in force of TARGET is in 0.25 mW; cos² θ is half of 1 + cos 2θ (log entry 139). -/
def State.outPoint (s : State) (l : Nat) (spare : Bool) (k : Nat) : Nat :=
  let target := s.calInForce (calKey 9 l) (s.getF (Reg.lsrTarget l))
  let full := (target * 250000 * ((2 ^ 60 + (stepCos k).1 : Int) : Rat) / 2 ^ 61).floor.toNat
  if s.getF (Reg.lsrCurrent l spare) = 1000 then min full (100000 * s.getF (Reg.lsrPower l spare)) else full

/-- A laser has met a fade criterion (R234): a handover begins if the other laser is free and has not failed; it is lit at 2 mW
(R235). -/
def State.fade (s : State) (l criterion bias output : Nat) : State :=
  let serving := s.getF (Reg.lsrServing l)
  let s := (s.setB (Reg.lsrFaded l) true).raise 0x3001 lxUnit [l, criterion, bias, output]
  let s := s.modLaser l fun x => { x with worn := setBit x.worn (serving - 1) true }
  let spareIn := serving == 1
  if s.laserOk l spareIn then
    let h : Handover := ⟨spareIn, s.clk.now, false, s.outPoint l (!spareIn) 0⟩
    let s := (s.modLaser l fun x => { x with handover := some h }).setF (Reg.lsrServing l) 3
    ((s.setF (Reg.lsrPower l spareIn) 20).setF (Reg.lsrStep l) 0).refreshLasers
  else s.loseIndex l

/-- Tests the laser that serves an index alone, at a tick (R234), unless it has met a criterion before: the mean bias is at least
90 % of Imax; the mean output is 0.5 dB or more below TARGET in 16 frames; the offset is beyond 10 GHz in 16 frames. -/
def State.fadeTest (s : State) (l : Nat) : State :=
  let serving := s.getF (Reg.lsrServing l)
  if serving = 0 ∨ serving = 3 then s
  else
    let x := s.laser l
    let off := s.getF (Reg.lsrGridOffset l)
    let far := decide (l < 288) && decide (40 < min off (1024 - off))
    -- 0.5 dB is a factor of 10 to the power 1/20
    let low := decide (0 < x.samples ∧ 10 * (2 * x.power) ^ 20 ≤ (5 * s.getF (Reg.lsrTarget l) * x.samples) ^ 20)
    let high := decide (0 < x.samples ∧ 900 * x.samples ≤ x.current)
    let lows := if low then x.lowFrames + 1 else 0
    let fars := if far then x.farFrames + 1 else 0
    let bias := if x.samples = 0 then 0 else x.current / x.samples
    let out := if x.samples = 0 then 0 else x.power / x.samples
    let s := s.setLaser l { x with power := 0, current := 0, samples := 0, lowFrames := min 16 lows, farFrames := min 16 fars }
    if x.worn.testBit (serving - 1) then s
    else if high then s.fade l 0 bias out
    else if 16 ≤ lows then s.fade l 1 bias out
    else if 16 ≤ fars then s.fade l 2 bias out
    else s

/-- A handover ends with one laser serving alone; at step 64 it is done (R235). -/
def State.endHandover (s : State) (l : Nat) (h : Handover) (done : Bool) : State :=
  let v := if h.spareIn == done then 2 else 1
  let s := ((s.modLaser l fun x => { x with handover := none }).serveBy l v).setF (Reg.lsrStep l) (if done then 64 else 0)
  if done then ((s.raise 0x3002 lxUnit [l, v, s.clk.now - h.since]).bump (Reg.lxCnt 0) 1).refreshLasers else s.refreshLasers

/-- HANDOVER_PHASE_LOCKED (R235, R236): the incoming laser is phase-locked to the outgoing one, and the steps run. -/
def execHandoverPhaseLocked (l : LaserN) (s : State) : Out := s.live fun s =>
  match (s.laser l).handover with
  | some h => .next (s.modLaser l fun x => { x with handover := some { h with locked := true } })
  | none => .next s

/-- HANDOVER_STEP (R235): the combiner moves one step of 64, and the outgoing laser's set point follows; at the last step that
laser is switched off. -/
def execHandoverStep (l : LaserN) (s : State) : Out := s.live fun s =>
  match (s.laser l).handover with
  | some h =>
    if !h.locked then .next s
    else
      let k := s.getF (Reg.lsrStep l) + 1
      .next (if 64 ≤ k then s.endHandover l h true
        else (s.modLaser l fun x => { x with handover := some { h with setPoint := s.outPoint l (!h.spareIn) k } }).setF (Reg.lsrStep l) k)
  | none => .next s

/-- HANDOVER_PHASE_LOSS (R236): the steps pause; the event's outcome is the step at which the handover would finish. -/
def execHandoverPhaseLoss (l : LaserN) (s : State) : Out := s.live fun s =>
  match (s.laser l).handover with
  | some h =>
    if !h.locked then .next s
    else
      let k := s.getF (Reg.lsrStep l)
      let s := s.modLaser l fun x => { x with handover := some { h with locked := false } }
      .next (s.raise 0x300F lxUnit [l.val, k, if 32 ≤ k then 64 else 0])
  | none => .next s

/-- HANDOVER_LOCK_TIMEOUT (R236): the phase lock is not regained, and the handover finishes at once. -/
def execHandoverLockTimeout (l : LaserN) (s : State) : Out := s.live fun s =>
  match (s.laser l).handover with
  | some h => .next (if h.locked then s else s.endHandover l h (decide (32 ≤ s.getF (Reg.lsrStep l))))
  | none => .next s

/-- A laser that is not lit has failed: its index is lost when it is dark and this was its last serviceable laser (R238). -/
def State.darkFailed (s : State) (l : Nat) (spare : Bool) : State :=
  if s.getF (Reg.lsrServing l) = 0 ∧ !(s.laser l).worn.testBit spare.toNat ∧ !s.laserOk l (!spare) then s.loseIndex l
  else s.refreshLasers

/-- A laser that serves alone has failed (R237, R238): its lanes are masked, and the other laser of the index is lit. -/
def State.servingFailed (s : State) (l : Nat) (spare : Bool) : State :=
  let s := s.maskLaser l
  if s.laserOk l (!spare) then
    ((s.serveBy l (if spare then 1 else 2)).modLaser l fun x => { x with outage := true }).refreshLasers
  else (s.serveBy l 0).loseIndex l

/-- LASER_FAILED (R236-R238). `cause` is 0 for a low output, 1 for an open or short circuit. -/
def execLaserFailed (l : LaserN) (spare : Bool) (cause : Nat) (s : State) : Out := s.live fun s =>
  if s.on (Reg.lsrFailed l spare) then .next s
  else
    let s := (s.setB (Reg.lsrFailed l spare) true).raise 0x3003 lxUnit [l.val, spare.toNat, cause]
    let s := s.bump (Reg.lxCnt 1) 1
    .next (match (s.laser l).handover with
      | some h => if h.spareIn = spare then (s.endHandover l h false).loseIndex l else s.endHandover l h true
      | none => if s.lit l spare then s.servingFailed l spare else s.darkFailed l spare)

/-- LASER_LANES_RETURNED (R237): the laser is on the grid and the rings of the colour have passed identity; the lanes return. -/
def execLaserLanesReturned (l : LaserN) (s : State) : Out := s.live fun s =>
  .next (if (s.laser l).outage then ((s.modLaser l fun x => { x with outage := false }).onGrid l).unmaskLaser l else s)

end Sys2Proof.Machine
end

