-- ==== Sys2Proof/Machine/HeatRings.lean ====
section
/-!
DEFINITION. The ring loops, acquisition, the identity check and ring repair (R239-R247).
-/
namespace Sys2Proof.Machine

/-- The pair whose lane a ring serves, by the colour it serves (R187, R239). -/
def State.ringPair (s : State) (r : Nat) : Option (Nat × Nat) :=
  let c := s.getF (Reg.heatColour r)
  let p := ringPort r
  if c = 0 ∨ s.getF (Reg.heatRole r) = 2 then none
  else if ringBus r = 0 then some (p, (p + c) % 32) else some ((p + 32 - c) % 32, p)

/-- The lane of a ring is masked (R242, R246). -/
def State.maskRing (s : State) (r : Nat) : State :=
  match s.ringPair r with
  | some e => s.maskLane e.1 e.2 (ringPlane r)
  | none => s

/-! ## Ring repair (R247) -/

def State.repair (s : State) (p q plane : Nat) : Option Repair :=
  s.light.repairs.find? fun x => x.src == p && x.dst == q && x.plane == plane
def State.setRepairs (s : State) (l : List Repair) : State := { s with light := { s.light with repairs := l } }
def State.dropRepair (s : State) (p q plane : Nat) : State :=
  s.setRepairs (s.light.repairs.filter fun x => !(x.src == p && x.dst == q && x.plane == plane))
/-- The repair of a lane stands at a step. -/
def State.putRepair (s : State) (x : Repair) : State :=
  (s.dropRepair x.src x.dst x.plane).setRepairs ((s.dropRepair x.src x.dst x.plane).light.repairs ++ [x])

/-- The free spare of a bus: parked, and standing in for nothing. -/
def State.freeRing (s : State) (port plane bus : Nat) : Option Nat :=
  ([31, 32].map fun i => ringNo port plane bus i).find? fun r =>
    s.getF (Reg.heatState r) == 0 && s.getF (Reg.heatRole r) == 0

/-- Every step has failed, or a replacement finds no spare: the lane stays masked. -/
def State.unrepairable (s : State) (p q plane : Nat) : State :=
  let id := laneId p q plane
  let s := (s.maskLane p q plane).dropRepair p q plane
  if id ∈ s.fab.lost then s
  else
    let s := { s with fab := { s.fab with lost := s.fab.lost ++ [id] } }
    (s.raise 0x3008 (0x1000 + p) [p, pairColour p q, plane]).refreshFabric p

/-- A ring is replaced by a free spare of its bus, which is acquired for the colour; without one the lane stays masked. -/
def State.replaceRing (s : State) (p q plane bus : Nat) : State :=
  let port := if bus = 0 then p else q
  let c := pairColour p q
  match s.servingRing port plane bus c, s.freeRing port plane bus with
  | some r, some x =>
    let s := (s.setF (Reg.heatRole r) 2).setF (Reg.heatRole x) 1
    let s := (s.setF (Reg.heatColour x) c).setF (Reg.heatState x) 1
    (s.bump (Reg.lxCnt 5) 1).raise 0x3007 (0x1000 + port) [r, x, c]
  | _, _ => s.unrepairable p q plane

/-- A ring gives way to a spare at once, under step 4 or 5 of its lane's repair. -/
def State.swapRing (s : State) (r : Nat) : State :=
  match s.ringPair r with
  | none => s
  | some e =>
    let plane := ringPlane r
    ((s.maskLane e.1 e.2 plane).putRepair ⟨e.1, e.2, plane, 4 + ringBus r, []⟩).replaceRing e.1 e.2 plane (ringBus r)

/-- A ring that fails is replaced at once (R247). -/
def State.failRing (s : State) (r : Nat) : State :=
  match s.ringPair r with
  | none => s.setF (Reg.heatState r) 4
  | some e =>
    let plane := ringPlane r
    let s := (s.setF (Reg.heatState r) 4).maskLane e.1 e.2 plane
    (s.putRepair ⟨e.1, e.2, plane, 4 + ringBus r, []⟩).replaceRing e.1 e.2 plane (ringBus r)

/-- The trims that step 3 measures again: the drive of the sending ring, gain and offset at the receiving one. -/
def State.laneTrims (s : State) (p q plane : Nat) : List Nat :=
  (match s.servingRing p plane 0 (pairColour p q) with
    | some r => calKey (calPlace .modSlope) r :: (List.range 4).map (driverKey r)
    | none => []) ++
  (match s.servingRing q plane 1 (pairColour p q) with
    | some r => [calKey (calPlace .rxGain) r, calKey (calPlace .rxOffset) r]
    | none => [])

/-- RING_REPAIR (R247, step 1): the rings of a masked lane that are not locked are acquired again. -/
def execRingRepair (src dst : PortN) (plane : PlaneN) (s : State) : Out := s.live fun s =>
  let p := src.val
  let q := dst.val
  let id := laneId p q plane
  if p = q ∨ !(s.pair p q).masked.testBit plane ∨ (s.repair p q plane).isSome ∨ id ∈ s.fab.lost ∨ id ∈ s.light.laserMasked then
    .next s
  else
    let s := (s.laneRings p q plane).foldl (fun s r =>
      if s.getF (Reg.heatState r) = 3 then s.setF (Reg.heatState r) 1 else s) s
    .next (s.setRepairs (s.light.repairs ++ [⟨p, q, plane, 2, []⟩]))

/-- A lane test fails: the next step of the repair is taken. -/
def State.nextRepair (s : State) (x : Repair) : State :=
  if 5 ≤ x.step then s.unrepairable x.src x.dst x.plane
  else
    let todo := if x.step = 2 then s.laneTrims x.src x.dst x.plane else []
    let s := s.setRepairs (s.light.repairs.map fun y => if y = x then { y with step := y.step + 1, todo := todo } else y)
    if x.step = 3 then s.replaceRing x.src x.dst x.plane 0
    else if x.step = 4 then s.replaceRing x.src x.dst x.plane 1
    else s

/-- LANE_TEST_DONE (R247): 1 ms of PRBS31 on the masked lane, once both of its rings are locked and its trims are measured again.
A pass returns the lane; a failure takes the next step. -/
def execLaneTestDone (src dst : PortN) (plane : PlaneN) (errorsPerMillion : Nat) (s : State) : Out := s.live fun s =>
  let p := src.val
  let q := dst.val
  let rings := s.laneRings p q plane
  match s.repair p q plane with
  | none => .next s
  | some x =>
    if rings.any (fun r => s.getF (Reg.heatState r) ≠ 2) ∨ rings.length ≠ 2 ∨ !x.todo.isEmpty then .next s
    else if errorsPerMillion < 1 then
      let s := ((s.dropRepair p q plane).unmaskLane p q plane).bump (Reg.lxCnt 6) 1
      .next (s.raise 0x3010 (0x1000 + p) [p, pairColour p q, plane.val, x.step])
    else .next (s.nextRepair x)

/-! ## The loop (R240-R242) -/

/-- The heater code after an update of the loop (R240, R241): the controller's answer to the error of the lock-in output from the lock
point, and K_FF times the warming of the hub site in 1/16 K; 65,536 codes span 6.0 mW, and K_FF is in 0.0001 mW/K. -/
def State.loopHeater (s : State) (r : Nat) (error warmer : Int) : Nat :=
  let kff := s.calInForce (calKey (calPlace .kff) (ringPort r)) ((Tbl.find s.light.cal (calKey (calPlace .kff) (ringPort r))).getD (-580))
  let feed := (kff * warmer * 128 / 1875).floor
  let code : Int := s.getF (Reg.heater r) + Config.loopStep (s.heat r).error error + feed
  (max 0 (min 65535 code)).toNat

/-- The loop's error (R241): a drop ring's lock point is zero, a modulator ring's MOD_SLOPE. -/
def State.loopError (s : State) (r : Nat) (lockIn : Int) : Int :=
  if ringBus r = 1 then lockIn
  else lockIn - (s.calInForce (calKey (calPlace .modSlope) r) ((Tbl.find s.light.cal (calKey (calPlace .modSlope) r)).getD 0)).floor

/-- The residual is judged (R241, R242): since when it has been within 2 GHz, and beyond 6 GHz, which is counted as it begins. -/
def State.judgeResidual (s : State) (r residualMHz : Nat) : State :=
  let x := s.heat r
  let far := decide (6000 < residualMHz)
  let since := fun (b : Bool) (o : Option Nat) => if b then some (o.getD s.clk.now) else none
  let s := s.setHeat r { x with within := since (decide (residualMHz ≤ 2000)) x.within, beyond := since far x.beyond }
  if far && x.beyond.isNone then s.bump (Reg.lxCnt 4) 1 else s

/-- RING_LOOP_UPDATE (R240-R242): the loop sets the heater by its lock-in output and the warming of the hub site, and the residual
is judged. An open or shorted heater fails the ring. -/
def execRingLoopUpdate (r : HeatN) (loop : LoopSense) (residualMHz : Int) (s : State) : Out := s.live fun s =>
  let st := s.getF (Reg.heatState r)
  if !loop.heaterOk ∧ st ≠ 4 then .next (s.failRing r)
  else if st ≠ 1 ∧ st ≠ 2 ∧ st ≠ 6 then .next s
  else
    let e := s.loopError r loop.lockIn
    let h := s.loopHeater r e loop.warmer
    let s := (s.setF (Reg.heater r) h).modHeat r fun x => { x with error := e }
    .next (s.judgeResidual r residualMHz.natAbs)

/-- RING_UNLOCKED (R242): the residual has stayed beyond 6 GHz for 1 ms, or the heater has reached an end of its range. -/
def execRingUnlocked (r : HeatN) (s : State) : Out := s.live fun s =>
  let h := s.getF (Reg.heater r)
  let long : Bool := match (s.heat r).beyond with | some t => decide (t + 1000000 ≤ s.clk.now) | none => false
  if s.getF (Reg.heatState r) ≠ 2 ∨ (!long ∧ h ≠ 0 ∧ h ≠ 65535) then .next s
  else
    let s := s.setF (Reg.heatState r) 3
    .next ((s.modHeat r fun x => { x with beyond := none, within := none, lostAt := some s.clk.now }).maskRing r)

/-! ## Acquisition (R243) -/

/-- Whether a ring waits to be acquired or is being acquired. -/
def State.sweeps (s : State) (r : Nat) : Bool := s.getF (Reg.heatState r) == 1 || s.getF (Reg.heatState r) == 3

/-- Whether it is a ring's turn on its bus: rings of a bus are acquired one at a time, in slot order (R243, R256). -/
def State.sweepTurn (s : State) (r : Nat) : Bool :=
  (List.range (ringSlot r)).all fun i => !s.sweeps (ringNo (ringPort r) (ringPlane r) (ringBus r) i)

/-- Whether the modulator ring that feeds a drop ring is locked (R243); a modulator ring needs none. -/
def State.ringFed (s : State) (r : Nat) : Bool :=
  if ringBus r = 0 then true
  else
    match s.ringPair r with
    | none => true
    | some e =>
      match s.servingRing e.1 (ringPlane r) 0 (s.getF (Reg.heatColour r)) with
      | some m => s.getF (Reg.heatState m) == 2
      | none => false

/-- The locked criterion (R241): the residual has been within 2 GHz for 1 ms. -/
def State.lockedFor (s : State) (r : Nat) : Bool :=
  match (s.heat r).within with | some t => decide (t + 1000000 ≤ s.clk.now) | none => false

/-- A ring is locked by a sweep. -/
def State.ringFound (s : State) (r : Nat) (code : BitVec 16) : State :=
  let lost := (s.heat r).lostAt
  let s := ((s.setF (Reg.heatState r) 2).setF (Reg.heater r) code.toNat).bump (Reg.lxCnt 2) 1
  let s := s.modHeat r fun x => { x with fails := 0, lostAt := none, ambiguous := 0, beyond := none }
  match lost with
  | some t => s.raise 0x3006 (0x1000 + ringPort r) [r, s.clk.now - t]
  | none => s

/-- A sweep does not find a ring's colour; the second failure fails the ring. -/
def State.ringMissed (s : State) (r : Nat) : State :=
  let n := (s.heat r).fails + 1
  let s := s.modHeat r fun x => { x with fails := n }
  if 2 ≤ n then s.failRing r else s.setF (Reg.heatState r) 1

/-- RING_ACQUIRE (R243, R247): a sweep of the ring whose turn it is on its bus ends. Its lane is masked meanwhile; the ring locks once it
meets the locked criterion on its colour, or is not found. -/
def execRingAcquire (r : HeatN) (found : Option (BitVec 16)) (s : State) : Out := s.live fun s =>
  if !s.sweeps r ∨ !s.carries ∨ !s.sweepTurn r ∨ !s.ringFed r then .next s
  else
    let s := if s.getF Reg.fabric = 2 then s.maskRing r else s
    .next (match found with
      | some h => if s.lockedFor r then s.ringFound r h else s
      | none => s.ringMissed r)

/-! ## The identity check (R245, R246) -/

/-- A ring holds the wrong colour (R246): its lane is masked, and it is swept again from heater zero. -/
def State.wrongColour (s : State) (r held : Nat) : State :=
  let s := ((s.setF (Reg.heatState r) 1).setF (Reg.heater r) 0).maskRing r
  let s := s.modHeat r fun x => { x with ambiguous := 0, within := none, lostAt := some s.clk.now }
  (s.bump (Reg.lxCnt 3) 1).raise 0x3005 (0x1000 + ringPort r) [r, held, s.getF (Reg.heatColour r)]

/-- IDENTITY_WINDOW (R245): the pilot tones of a locked, acquiring or parked ring are judged. Two ambiguous windows in a row
count as wrong colour; which colour is held is then not known. A parked ring that shows a tone moves its park point. -/
def execIdentityWindow (r : HeatN) (res : IdentityResult) (s : State) : Out := s.live fun s =>
  let st := s.getF (Reg.heatState r)
  match res with
  | .correct => .next (if st = 1 ∨ st = 2 then s.modHeat r fun x => { x with ambiguous := 0 } else s)
  | .wrong colour => .next (if st = 2 then s.wrongColour r colour else s)
  | .ambiguous =>
    if st ≠ 2 then .next s
    else if (s.heat r).ambiguous = 0 then .next (s.modHeat r fun x => { x with ambiguous := 1 })
    else .next (s.tookFree.wrongColour r (s.freeWord.toNat % 32))
  | .parkedTone => .next (if st = 0 then s.tookFree.setF (Reg.heater r) (s.freeWord.toNat % 65536) else s)

end Sys2Proof.Machine
end

