-- ==== Sys2Proof/Machine/Calibration.lean ====
section
/-!
DEFINITION. The calibration engine and its image (R40, R232, R248-R253).
-/
namespace Sys2Proof.Machine

/-! ## Ranges, step limits and tolerances (R248) -/

/-- Within a ratio of n tenths of a dB. -/
def withinDb (n : Nat) (a b : Int) : Bool := decide (a ^ 100 ≤ 10 ^ n * b ^ 100 ∧ b ^ 100 ≤ 10 ^ n * a ^ 100)
/-- Within n per cent of a. -/
def withinPct (n : Nat) (a b : Int) : Bool := decide (100 * (b - a).natAbs ≤ n * a.natAbs)

/-- The middle of a list of values. -/
def median (vs : List Int) : Int :=
  let l := vs.insertionSort (· ≤ ·)
  let n := l.length
  (l.getD ((n - 1) / 2) 0 + l.getD (n / 2) 0) / 2

/-- The median of the current values of a hub site's temperature sensors, with `m` for one of them; a suspect sensor is not used
(R248, R249). -/
def State.siteMedian (s : State) (element : Nat) (m : Int) : Int :=
  let site := element / 4
  median ((List.range 4).filterMap fun i =>
    let e := 4 * site + i
    if e = element then some m
    else if s.light.suspects.any (fun x => x.1 == calPlace .tempSensor && x.2.1 == e) then none
    else Tbl.find s.light.cal (calKey (calPlace .tempSensor) e))

/-- The hard range (R248). Units: 0.0001 A/W; 0.25 GHz; 0.01 GHz/mW; 0.0001 mW/K; DAC steps; 1/16 K; 0.01 %; st. -/
def State.inHardRange (s : State) (q : CalQty) (element : Nat) (m : Int) : Bool :=
  match q with
  | .monitor => decide (500 ≤ m ∧ m ≤ 2000)
  | .grid => decide (m.natAbs ≤ 160)
  | .eta => decide (12000 ≤ m ∧ m ≤ 26000)
  | .kff => decide (-1500 ≤ m ∧ m ≤ 0)
  | .modSlope => decide (Config.driverRange.1 ≤ m ∧ m ≤ Config.driverRange.2)
  | .driver => decide (Config.driverRange.1 ≤ m ∧ m ≤ Config.driverRange.2)
  | .rxGain => decide (Config.amplifierRange.1 ≤ m ∧ m ≤ Config.amplifierRange.2)
  | .rxOffset => decide (Config.amplifierRange.1 ≤ m ∧ m ≤ Config.amplifierRange.2)
  | .tempSensor => decide ((m - s.siteMedian element m).natAbs ≤ 80)
  | .voltSensor => decide (m.natAbs ≤ 300)
  | .leg => decide (m.natAbs ≤ 32)

/-- Whether a change from v to m lies within the step limit. -/
def inStep (q : CalQty) (v m : Int) : Bool :=
  match q with
  | .monitor => withinDb 3 v m
  | .grid => decide ((m - v).natAbs ≤ 20)
  | .eta => withinPct 10 v m
  | .kff => withinPct 20 v m
  | .modSlope => decide ((m - v).natAbs ≤ 1)
  | .driver => decide ((m - v).natAbs ≤ 1)
  | .rxGain => decide ((m - v).natAbs ≤ 2)
  | .rxOffset => decide ((m - v).natAbs ≤ 2)
  | .tempSensor => decide ((m - v).natAbs ≤ 16)
  | .voltSensor => decide ((m - v).natAbs ≤ 50)
  | .leg => decide ((m - v).natAbs ≤ 1)

/-- Whether two measurements agree within the repeat tolerance; a leg has none, and they must be equal (log entry 58). -/
def repeats (q : CalQty) (m m2 : Int) : Bool :=
  match q with
  | .monitor => withinDb 1 m m2
  | .grid => decide ((m2 - m).natAbs ≤ 4)
  | .eta => withinPct 2 m m2
  | .kff => withinPct 5 m m2
  | .modSlope => decide ((m2 - m).natAbs ≤ 1)
  | .driver => decide ((m2 - m).natAbs ≤ 1)
  | .rxGain => decide ((m2 - m).natAbs ≤ 1)
  | .rxOffset => decide ((m2 - m).natAbs ≤ 1)
  | .tempSensor => decide ((m2 - m).natAbs ≤ 4)
  | .voltSensor => decide ((m2 - m).natAbs ≤ 10)
  | .leg => m == m2

/-- Quantities that trace to REFV; frequency and time trims trace to stake time (R250). -/
def tracesToRefv (q : CalQty) : Bool := match q with | .grid => false | .leg => false | _ => true
/-- Quantities with redundant elements (R248). -/
def hasRedundant (q : CalQty) : Bool :=
  match q with | .eta => true | .modSlope => true | .driver => true | .rxGain => true | .rxOffset => true | .tempSensor => true | _ => false
/-- Quantities whose accepted values are feathered (R251). -/
def isFeathered (q : CalQty) : Bool :=
  match q with
  | .kff => true
  | .modSlope => true
  | .driver => true
  | .rxGain => true
  | .rxOffset => true
  | .tempSensor => true
  | .voltSensor => true
  | _ => false

/-- The ring that an element of a quantity belongs to. -/
def calRing (q : CalQty) (element : Nat) : Option Nat :=
  match q with
  | .eta => some element
  | .modSlope => some element
  | .driver => some (element / 4)
  | .rxGain => some element
  | .rxOffset => some element
  | _ => none

/-! ## Values in force (R40, R251) -/

/-- FEATHER_ACTIVE (R251). -/
def State.refreshFeather (s : State) : State := s.setB Reg.featherActive (!s.light.feathers.isEmpty)

/-- An accepted value applies at once, or is feathered from the value in force (R251). -/
def State.acceptCal (s : State) (key : Nat) (m : Int) (feather : Bool) : State :=
  let old := s.calInForce key ((Tbl.find s.light.cal key).getD m)
  let s := { s with light := { s.light with cal := Tbl.add s.light.cal key m } }
  if feather ∧ old ≠ m then
    { s with light := { s.light with inForce := Tbl.add s.light.inForce key old,
                                     feathers := Tbl.add s.light.feathers key ⟨old, m, 0⟩ } }.refreshFeather
  else
    { s with light := { s.light with inForce := Tbl.add s.light.inForce key (m : Rat),
                                     feathers := Tbl.drop s.light.feathers key } }.refreshFeather

/-- A feather moves one step at a tick (R251). -/
def State.featherStep (s : State) (key : Nat) (f : Feather) : State :=
  let k := f.k + 1
  let v : Rat := f.old + ((f.new : Rat) - f.old) * k / 32
  let rest := if 32 ≤ k then Tbl.drop s.light.feathers key else Tbl.add s.light.feathers key { f with k := k }
  { s with light := { s.light with inForce := Tbl.add s.light.inForce key v, feathers := rest } }

/-- CAL_FEATHER: every feather moves (R251). -/
def State.featherAll (s : State) : State :=
  if s.light.feathers.isEmpty then s
  else (s.light.feathers.foldl (fun s e => s.featherStep e.1 e.2) s).refreshFeather

/-- A result that is not accepted (R249). -/
def State.calReject (s : State) (q element cause : Nat) : State :=
  (s.bump (Reg.lxCnt 9) 1).raise 0x3009 lxUnit [q, element, cause]

/-- The offset of a stake-time leg in force (R40): a correction of more than 1 st comes in as a slew of 50 ppm, 1 st in 20,000. -/
def State.legInForce (s : State) (leg : Nat) : Rat :=
  let v : Rat := ((Tbl.find s.light.cal (calKey (calPlace .leg) leg)).getD 0 : Int)
  match Tbl.find s.light.slews leg with
  | none => v
  | some (from_, since) =>
    let moved : Rat := ((s.clk.now - since : Nat) : Rat) / 20000
    if from_ ≤ v then min v (from_ + moved) else max v (from_ - moved)

/-- A leg's offset is accepted: a correction of up to 1 st applies at once, a larger one slews from the offset in force. -/
def State.acceptLeg (s : State) (leg : Nat) (m : Int) : State :=
  let old := s.legInForce leg
  let first := (Tbl.find s.light.cal (calKey (calPlace .leg) leg)).isNone
  let slews := if first || decide (|(m : Rat) - old| ≤ 1) then Tbl.drop s.light.slews leg else Tbl.add s.light.slews leg (old, s.clk.now)
  { s with light := { s.light with cal := Tbl.add s.light.cal (calKey (calPlace .leg) leg) m, slews := slews } }

/-- Whether a ring's lane is masked or its plane dark: what is measured there applies at once (R251). -/
def State.ringAtRest (s : State) (r : Nat) : Bool :=
  s.getF Reg.fabric == 0 || s.getF (Reg.heatState r) == 5 ||
    (match s.ringPair r with | some e => (s.pair e.1 e.2).masked.testBit (ringPlane r) | none => true)

/-- An accepted value takes effect: a leg's slews, a live lane's is feathered (R40, R251). -/
def State.takeValue (s : State) (q : CalQty) (element : Nat) (m : Int) : State :=
  match q with
  | .leg => s.acceptLeg element m
  | _ =>
    let rest := match calRing q element with | some r => s.ringAtRest r | none => false
    s.acceptCal (calKey (calPlace q) element) m (isFeathered q && !rest)

/-! ## Redundant elements (R249) -/

/-- Another element takes the place of a suspect one: the spare driver segment, the suspect amplifier slice left unused, or a spare
ring. Of a site's four temperature sensors three are enough. -/
def State.selectOther (s : State) (q : CalQty) (element part : Nat) : State :=
  let segment := fun (r : Nat) =>
    if (s.heat r).spareSeg then s else s.modHeat r fun x => { x with part := part, spareSeg := true }
  match q with
  | .modSlope => segment element
  | .driver => segment (element / 4)
  | .rxGain => s.modHeat element fun x => { x with part := part }
  | .rxOffset => s.modHeat element fun x => { x with part := part }
  | .eta => s.swapRing element
  | _ => s

/-- The lane of an element is masked while elements are switched, and stays in repair until its trims are measured again (R247). -/
def State.maskForSwitch (s : State) (q : CalQty) (element : Nat) : State :=
  match calRing q element with
  | none => s
  | some r =>
    match s.ringPair r with
    | none => s
    | some e =>
      if s.getF Reg.fabric ≠ 2 ∨ q = .eta then s
      else
        let plane := ringPlane r
        let step := match s.repair e.1 e.2 plane with | some x => x.step | none => 3
        (s.maskRing r).putRepair ⟨e.1, e.2, plane, step, [calKey (calPlace q) element]⟩

/-- A suspect element is marked, and another is selected. -/
def State.markSuspect (s : State) (q : CalQty) (element part : Nat) : State :=
  if !hasRedundant q then s
  else
    let s := { s with light := { s.light with suspects := s.light.suspects ++ [(calPlace q, element, part)] } }
    (s.maskForSwitch q element).selectOther q element part

/-! ## Results (R249, R250) -/

/-- What R249 makes of a result m of a quantity, of which a second measurement gives `again`: the value accepted, and the counter, or
the cause of the rejection. -/
def State.calJudge (s : State) (q : CalQty) (element : Nat) (m again : Int) : Except Nat (Int × Nat) :=
  match Tbl.find s.light.cal (calKey (calPlace q) element) with
  | none =>
    if !s.inHardRange q element m || !s.inHardRange q element again then .error 0
    else if repeats q m again then .ok (m, 7)
    else .error 1
  | some v =>
    if !s.inHardRange q element m then .error 0
    else if inStep q v m then .ok (m, 7)
    else if repeats q m again then .ok (again, 8)
    else .error 1

/-- A result is handled (R249): accepted and counted, or rejected, with a redundant element marked suspect outside the hard range. -/
def State.calResult (s : State) (q : CalQty) (element part : Nat) (m again : Int) : State :=
  match s.calJudge q element m again with
  | .ok (x, i) => (s.takeValue q element x).bump (Reg.lxCnt i) 1
  | .error c => (if c = 0 then s.markSuspect q element part else s).calReject (calNum q) element c

/-- A result of the grid monitor (R232, R249): an accepted one is shown and trims the laser's tuning; one beyond 5 GHz is an event. -/
def State.gridResult (s : State) (l : Nat) (m again : Int) : State :=
  let x := match s.calJudge .grid l m again with | .ok v => some v.1 | .error _ => none
  let s := s.calResult .grid l 0 m again
  match x with
  | none => s
  | some v =>
    let s := (s.setF (Reg.lsrGridOffset l) (v % 1024).toNat).setB (Reg.lsrGridLocked l) (decide (v.natAbs ≤ 20))
    let s := s.modLaser l fun y => { y with tuning := y.tuning + Config.gridTrim v, trim := y.trim + Config.gridTrim v }
    if 20 < v.natAbs then s.raiseLimited 0x300D lxUnit l [l, signedItem v] else s

/-- GRID_MEASUREMENT (R232): an offset from the passband centre, in 0.25 GHz. -/
def execGridMeasurement (l : LaserN) (m : Measured) (s : State) : Out := s.live fun s =>
  .next (if s.fabricLit l then s.gridResult l m.value m.again else s)

/-- A trim that a repair waits for has been measured again (R247). -/
def State.measuredAgain (s : State) (key : Nat) : State :=
  s.setRepairs (s.light.repairs.map fun x => { x with todo := x.todo.filter fun k => k != key })

/-- CAL_MEASUREMENT (R249, R250): a result m of a quantity; `again` is what a second measurement gives. -/
def execCalMeasurement (q : CalQty) (element : CalElement) (m again : Int) (s : State) : Out := s.live fun s =>
  let e := element.num
  .next (if !s.on Reg.refvOk ∧ tracesToRefv q then s.bump (Reg.lxCnt 9) 1
    else
      let s := s.measuredAgain (calKey (calPlace q) e)
      if q = .grid ∧ s.fabricLit e then s.gridResult e m again else s.calResult q e element.part m again)

/-- REFV_FAULT (R250): REFV has differed from the bandgap median by more than 0.5 % for 1 ms; the deviation is in 0.01 %. -/
def execRefvFault (deviation : Int) (s : State) : Out := s.live fun s =>
  .next (if s.on Reg.refvOk ∧ 50 < deviation.natAbs then
    (s.setB Reg.refvOk false).raise 0x300E lxUnit [signedItem deviation] else s)

/-- REFV_RESTORED (R250): 1 s within tolerance. -/
def execRefvRestored (s : State) : Out := s.live fun s => .next (s.setB Reg.refvOk true)

/-- A write of LSR_TARGET (R251, R257): a target outside 80 to 240 is not applied; another is feathered, or applies at once
while the index is dark. -/
def State.targetWrite (s : State) (l : Nat) (value : W32) : State :=
  let v := value.toNat % 256
  if v < 80 ∨ 240 < v then s.calReject 9 l 0
  else
    let key := calKey 9 l
    let s := if (Tbl.find s.light.cal key).isSome then s
      else { s with light := { s.light with cal := Tbl.add s.light.cal key (s.getF (Reg.lsrTarget l)) } }
    let s := (s.acceptCal key v (!s.on (Reg.lsrHeldDark l))).bump (Reg.lxCnt 7) 1
    s.setF (Reg.lsrTarget l) v

/-- LSR_TARGET_WRITE. -/
def execLsrTargetWrite (l : LaserN) (value : W32) (s : State) : Out := s.live fun s => .next (s.targetWrite l value)

/-! ## The calibration image (R252, R253) -/

/-- The image window: 40,960 B at this address. -/
def imageBase : Nat := 0x3010000
def imageWords : Nat := 10240

/-- The window's bytes. -/
def State.imageBytes (s : State) (off n : Nat) : List Byte :=
  (List.range n).map fun i => ((s.getR (imageBase + (off + i) / 4 * 4)) >>> (8 * ((off + i) % 4))).setWidth 8

/-- Writes words into the window. -/
def State.putImage (s : State) : Nat → List W32 → State
  | _, [] => s
  | i, w :: r => (s.setR (imageBase + 4 * i) w).putImage (i + 1) r

/-- Bytes as words, little-endian. -/
def wordsOf (bs : List Byte) : List W32 :=
  (List.range (bs.length / 4)).map fun i => BitVec.ofNat 32 (natOfBytes ((bs.drop (4 * i)).take 4))

/-- SAVE (R252): the image is captured at the next frame tick. -/
def State.calSaveWrite (s : State) : State :=
  if s.light.saveFrame.isSome then s
  else { s with light := { s.light with saveFrame := some s.clk.frame } }.setB Reg.calSave true

def execSave (s : State) : Out := s.live fun s => .next s.calSaveWrite

/-- A ring's record (R252): the top 12 bits of its lock point; the replaced driver segment or unused amplifier slice; and whether the
spare segment is in use. -/
def State.ringRecord (s : State) (r : Nat) : List Byte :=
  let x := s.heat r
  let code := if s.getF (Reg.heatState r) = 5 then x.point else s.getF (Reg.heater r)
  bytesOfNat 2 (code / 16 % 4096 + x.part % 8 * 4096 + (if x.spareSeg then 32768 else 0))

/-- A laser's record (R252): TARGET, tuning code, and the serving laser's bias in 0.5 % of Imax. -/
def State.laserRecord (s : State) (l : Nat) : List Byte :=
  let bias := s.getF (Reg.lsrCurrent l (s.getF (Reg.lsrServing l) == 2)) / 5
  bytesOfNat 4 (s.getF (Reg.lsrTarget l) + ((s.laser l).tuning % 65536).toNat * 2 ^ 8 + bias * 2 ^ 24)

/-- Two bytes of a signed value. -/
def int16Bytes (x : Int) : List Byte := bytesOfNat 2 (x % 65536).toNat

/-- The calibrated values of n elements of a quantity, 2 B each (log entry 62). -/
def State.calBytes (s : State) (q : CalQty) (n : Nat) : List Byte :=
  (List.range n).flatMap fun i => int16Bytes ((Tbl.find s.light.cal (calKey (calPlace q) i)).getD 0)

/-- The image's last bytes (R252): the site temperatures, sensor trims, K_FF, grid-monitor trims, leg offsets, and zeros. -/
def State.imageTail (s : State) (sites : List (BitVec 16)) : List Byte :=
  let temps := (List.range 128).flatMap fun i => bytesOfNat 2 (sites.getD i 0).toNat
  let grid := (List.range 288).flatMap fun l => int16Bytes (s.laser l).trim
  temps ++ s.calBytes .tempSensor 128 ++ s.calBytes .voltSensor 33 ++ s.calBytes .kff 32 ++ grid ++ s.calBytes .leg 54 ++
    List.replicate 66 0

/-- CAL_IMAGE_CAPTURE (R252): at the tick after SAVE the calibrated values are captured into the window, with the digest.
The temperatures are BL's mean and those of the 32 hub sites' four sensors. -/
def execCalImageCapture (temps : CalTemps) (s : State) : Out := s.live fun s =>
  match s.light.saveFrame with
  | none => .next s
  | some f =>
    if s.clk.frame ≤ f then .next s
    else
      let body := (List.range 19008).flatMap s.ringRecord ++ (List.range 324).flatMap s.laserRecord ++ s.imageTail temps.sites
      let idents := (List.range 33).flatMap fun i => bytesOfNat 4 (s.getR (Reg.dieIdent i) &&& 0xBFFFFFFF#32).toNat
      let head := [0x50, 0x46, 0x43, 0x49] ++ bytesOfNat 4 1 ++ bytesOfNat 8 40960 ++ bytesOfNat 8 s.clk.tick ++
        bytesOfNat 8 temps.mean.toNat ++ idents ++ List.replicate 28 0 ++ bytesOfNat 32 (digestOf body).toNat ++
        List.replicate 32 0
      let s := { s with light := { s.light with saveFrame := none, savedAt := s.clk.now } }
      .next ((s.putImage 0 (wordsOf (head ++ body))).setB Reg.calSave false |>.setF Reg.calLast 1)

/-- The i-th 16-bit value of the window from a byte on, signed. -/
def State.imageInt (s : State) (off i : Nat) : Int := (BitVec.ofNat 16 (natOfBytes (s.imageBytes (off + 2 * i) 2))).toInt

/-- The places of the image's last values: quantity, first byte and number of elements. -/
def imagePlaces : List (CalQty × Nat × Nat) := [(.tempSensor, 39824, 128), (.voltSensor, 40080, 33), (.kff, 40146, 32), (.leg, 40786, 54)]
/-- The first byte of the grid-monitor trims. -/
def imageTrims : Nat := 40210

/-- Whether every value of the image lies in its hard range (R248, R253). A temperature sensor's is about the median of its site in the
image. -/
def State.imageInRange (s : State) : Bool :=
  ((List.range 324).all fun l => decide (80 ≤ natOfBytes (s.imageBytes (38272 + 4 * l) 1) ∧ natOfBytes (s.imageBytes (38272 + 4 * l) 1) ≤ 240)) &&
  ((List.range 288).all fun l => decide ((s.imageInt imageTrims l).natAbs ≤ 160)) &&
  imagePlaces.all fun x => (List.range x.2.2).all fun i =>
    let m := s.imageInt x.2.1 i
    match x.1 with
    | .tempSensor =>
      let site := (List.range 4).map fun j => s.imageInt x.2.1 (i / 4 * 4 + j)
      decide ((m - median site).natAbs ≤ 80)
    | q => s.inHardRange q i m

/-- The first test of R253 that the window's image fails; 0 when it passes. -/
def State.imageFault (s : State) : Nat :=
  if s.imageBytes 0 12 ≠ [0x50, 0x46, 0x43, 0x49, 1, 0, 0, 0] ++ bytesOfNat 4 40960 then 1
  else if (List.range 33).any (fun i =>
      natOfBytes (s.imageBytes (32 + 4 * i) 4) &&& 0xBFFFFFFF != (s.getR (Reg.dieIdent i)).toNat &&& 0xBFFFFFFF) then 2
  else if shake256 (s.imageBytes 256 40704) ≠ s.imageBytes 192 32 then 3
  else if !s.imageInRange then 4
  else 0

/-- The values of the image apply (R253): targets, tuning codes, grid trims, lock points, the elements in use, sensor trims, K_FF and
leg offsets. -/
def State.applyImage (s : State) : State :=
  let s := (List.range 324).foldl (fun s l =>
    let w := natOfBytes (s.imageBytes (38272 + 4 * l) 4)
    let s := (s.setF (Reg.lsrTarget l) (w % 256)).acceptCal (calKey 9 l) (w % 256 : Nat) false
    s.modLaser l fun x => { x with tuning := (BitVec.ofNat 16 (w / 256)).toInt, trim := if l < 288 then s.imageInt imageTrims l else 0 }) s
  let s := (List.range 19008).foldl (fun s r =>
    let w := natOfBytes (s.imageBytes (256 + 2 * r) 2)
    s.modHeat r fun x => { x with point := w % 4096 * 16, part := w / 4096 % 8, spareSeg := decide (ringBus r = 0 ∧ 32768 ≤ w) }) s
  imagePlaces.foldl (fun s x => (List.range x.2.2).foldl (fun s i =>
    s.acceptCal (calKey (calPlace x.1) i) (s.imageInt x.2.1 i) false) s) s

/-- The restore gate opens (R432): with the image applied bring-up is warm. -/
def State.openGate (s : State) (warm : Bool) : State :=
  ((s.setB Reg.restoreOpen false).setB Reg.glbGateWaiting false).setB Reg.glbWarm warm

/-- RESTORE (R253, R432): the window's image is tested, and applied if every test passes; the gate opens. A restore that is
not open is ignored and gives cause 5. -/
def State.calRestoreWrite (s : State) : State :=
  if !s.on Reg.restoreOpen then s.setF Reg.rejectCause 5
  else
    let c := s.imageFault
    let s := (s.raise 0x300A lxUnit [c]).openGate (c == 0)
    if c = 0 then { s.applyImage with light := { s.applyImage.light with savedAt := s.clk.now } }.setF Reg.calLast 2
    else (s.setF Reg.calLast 3).setF Reg.rejectCause c

def execRestore (s : State) : Out := s.live fun s => .next s.calRestoreWrite

end Sys2Proof.Machine
end

