-- ==== Sys2Proof/Machine/Light.lean ====
section
/-!
DEFINITION. DARK, relock and the plane sets of the profiles (R188, R202, R254-R256, R430).
-/
namespace Sys2Proof.Machine

/-! ## DARK and relock (R254-R256) -/

/-- A write of 1 to LXC_CTRL.DARK (R254). -/
def State.darkRequest (s : State) : State :=
  let s := s.setB Reg.dark true
  if s.getF Reg.fabric = 2 then (s.setF Reg.fabric 3).updatePins else s

/-- DARK_REQUEST. -/
def execDarkRequest (s : State) : Out := s.live fun s => .next s.darkRequest

/-- What DARK waits for (R254). -/
def State.quiet (s : State) : Bool :=
  s.courses.isEmpty && s.host.sq.all (fun e => e.2.started.all fun (d : Started) => d.finished) &&
  s.fab.plaits.all (fun e => match e.2 with | some x => decide (4 ≤ x.phase) | none => true) &&
  s.fab.forwarders.all (fun e => e.2.isNone) && s.fab.hubs.all (fun e => e.2.spokes.isEmpty && e.2.copies.isEmpty) &&
  s.fab.pairs.all fun e => e.2.replay.isEmpty

/-- A ring is switched off and its lock state cleared (R254): it is unlocked, or parked where it was a spare at rest. -/
def State.ringOff (s : State) (r : Nat) : State :=
  let st := s.getF (Reg.heatState r)
  let idle := decide (31 ≤ ringSlot r) && s.getF (Reg.heatRole r) == 0
  let s := (s.setF (Reg.heater r) 0).modHeat r fun x => { x with within := none, beyond := none }
  if st = 4 then s else s.setF (Reg.heatState r) (if idle then 0 else 3)

/-- DARK_ENTERED (R254, R236): at a tick with everything quiet, every fabric laser, ring and lane is switched off. -/
def execDarkEntered (s : State) : Out := s.live fun s =>
  if s.getF Reg.fabric ≠ 3 ∨ !s.quiet ∨ s.clk.now ≠ s.clk.tick then .next s
  else
    let s := (List.range 288).foldl (fun s l => s.darkLaser l) s
    let s := (List.range 19008).foldl (fun s r => s.ringOff r) s
    let fab := { s.fab with pairs := s.fab.pairs.map fun e => (e.1, { e.2 with trained := false }) }
    let s := { s with fab := fab, light := { s.light with repairs := [] } }
    let s := ((s.setF Reg.fabric 0).bump (Reg.lxCnt 10) 1).raise 0x300B lxUnit [s.clk.frame]
    .next s.refreshLasers.updatePins

/-! ## The plane set of a profile (R188, R202, R428, R430) -/

/-- The active planes of a profile. -/
def profilePlanes (profile : Nat) : Nat := 2 ^ profileWidth profile - 1

/-- PL8 takes the place of a plane of the profile that is lost, when it replaces no other (R202). -/
def State.substitute (s : State) (profile : Nat) : State :=
  let failed := s.getF (Reg.planeFailed 0)
  let gone := (List.range 8).find? fun p => (profilePlanes profile).testBit p && failed.testBit p
  match gone with
  | some p =>
    if s.getF (Reg.pl8For 0) = 15 ∧ !failed.testBit 8 then (s.setPlaneMap Reg.pl8For p).raise 0x2004 lxUnit [p] else s
  | none => s

/-- The planes that a profile has active, PL8 in the place of the one it replaces. -/
def State.activePlanes (s : State) (profile : Nat) : Nat :=
  let failed := s.getF (Reg.planeFailed 0)
  let own := (List.range 8).filter fun p => (profilePlanes profile).testBit p && !failed.testBit p
  let stands := (profilePlanes profile).testBit (s.getF (Reg.pl8For 0)) && s.getF (Reg.pl8For 0) != 15 && !failed.testBit 8
  own.foldl (fun a p => a + 2 ^ p) (if stands then 256 else 0)

/-- Whether a profile has PL8 lit and locked as a pre-warmed spare. -/
def State.prewarms (s : State) (profile : Nat) : Bool :=
  profile == 2 && s.getF (Reg.pl8For 0) == 15 && !(s.getF (Reg.planeFailed 0)).testBit 8

/-- The plane set of a profile: its active planes, with PL8 where it is pre-warmed. -/
def State.planeSet (s : State) (profile : Nat) : Nat := s.activePlanes profile + (if s.prewarms profile then 256 else 0)

/-- Every pair retrains. -/
def State.retrainAll (s : State) : State := allPairs.foldl (fun s e => s.retrain e.1 e.2) s

/-- The plane set of a profile is in use (R430). -/
def State.usePlanes (s : State) (profile : Nat) : State :=
  let s := (s.setPlaneMap Reg.planeActive (s.activePlanes profile)).setPlaneMap Reg.prewarm (s.prewarms profile).toNat
  let s := { s with hawk := { s.hawk with relight := none } }
  (s.setF Reg.glbPlanesOf profile).setB Reg.glbRelocking false

/-- PL8 goes dark but for the colours of the pairs whose lane it stands in for (R201, R430). -/
def State.darkenSpare (s : State) : State :=
  let used := (allPairs.filter fun e => (s.pair e.1 e.2).pl8.isSome).map fun e => pairColour e.1 e.2
  let s := (List.range 32).foldl (fun s c => if c ∈ used then s else s.darkLaser (256 + c)) s
  (planeRings 8).foldl (fun s r => if s.getF (Reg.heatColour r) ∈ used then s else s.holdRing r) s

/-- The plane set changes to that of the profile in force (R430): planes that leave it go dark and every pair retrains without
them; planes that enter it begin to relight. -/
def State.switchPlanes (s : State) : State :=
  let profile := s.getF Reg.glbProfile
  let old := s.planeSet (s.getF Reg.glbPlanesOf)
  let s := s.substitute profile
  let new := s.planeSet profile
  let leaving := (List.range 9).filter fun p => old.testBit p && !new.testBit p
  let entering := (List.range 9).filter fun p => new.testBit p && !old.testBit p
  let s := leaving.foldl (fun s p => if p = 8 then s.darkenSpare else s.darkenPlane p) s
  if entering.isEmpty then
    let s := (s.usePlanes profile).refreshLasers
    if leaving.isEmpty then s else s.retrainAll
  else
    { s with hawk := { s.hawk with relight := some ⟨entering, profile⟩ } }.setB Reg.glbRelocking true

/-- A full acquisition begins (R243, R256): the fabric's lasers are lit, those of colour 0 for self-test, and every ring is swept. -/
def State.beginAcquire (s : State) : State :=
  let s := (List.range 288).foldl (fun s l => s.lightLaser l) s
  (s.eachRing (List.range 19008) fun n s r => s.sweepRing n r).refreshLasers

/-- A plane is acquired in full: its lasers are on their passbands and its rings locked; self-test of it is over (R256, R239). -/
def State.acquirePlane (s : State) (plane : Nat) : State :=
  let s := (List.range 31).foldl (fun s c => s.onGrid (32 * plane + c + 1)) s
  let s := s.eachRing (planeRings plane) fun n s r => if s.getF (Reg.heatState r) = 1 then s.lockRing n 0 r else s
  (s.parkSelfTest plane).darkLaser (32 * plane)

/-- Relock begins (R256); a write of 0 while the part is still entering DARK cancels the entry (R254). -/
def State.relockRequest (s : State) : State :=
  let s := s.setB Reg.dark false
  if s.getF Reg.fabric = 3 then
    let s := (s.setF Reg.fabric 2).updatePins
    if s.getF Reg.glbProfile = s.getF Reg.glbPlanesOf ∨ s.hawk.relight.isSome then s else s.switchPlanes
  else if s.getF Reg.fabric = 0 ∧ s.on Reg.glbReady then
    { s with light := { s.light with relockAt := s.clk.now } }.beginAcquire.setF Reg.fabric 1
  else s

/-- RELOCK_REQUEST. -/
def execRelockRequest (s : State) : Out := s.live fun s => .next s.relockRequest

/-- Whether a plane is lit in the plane set in force: it is active, or PL8 is pre-warmed (R188). -/
def State.planeLit (s : State) (plane : Nat) : Bool :=
  (s.getF (Reg.planeActive 0)).testBit plane || (plane == 8 && s.on (Reg.prewarm 0))

/-- RELOCKED (R256, R430): all nine planes have been acquired, a plane set that was recorded takes effect, the planes outside
it go dark, and the pairs train. -/
def execRelocked (acquired : Nat) (s : State) : Out := s.live fun s =>
  if s.getF Reg.fabric ≠ 1 then .next s
  else
    let profile := s.getF Reg.glbProfile
    let s := (s.substitute profile).usePlanes profile
    let s := (List.range 9).foldl (fun s p => s.acquirePlane p) s
    let s := (List.range 9).foldl (fun s p => if s.planeLit p then s else if p = 8 then s.darkenSpare else s.darkenPlane p) s
    let s := (s.bump (Reg.lxCnt 2) acquired).setF Reg.fabric 2
    let s := s.trainAll.raise 0x300C lxUnit [s.clk.now - s.light.relockAt, acquired]
    .next s.refreshLasers.updatePins

/-- PLANE_RELOCKED (R244, R256): a plane that a change of the plane set waits for is lit and locked. -/
def execPlaneRelocked (plane : PlaneN) (s : State) : Out := s.live fun s =>
  match s.hawk.relight with
  | none => .next s
  | some x =>
    if !decide (plane.val ∈ x.waiting) then .next s
    else
      let s := (s.lightPlane plane).refreshLasers
      .next { s with hawk := { s.hawk with relight := some { x with waiting := x.waiting.erase plane } } }

end Sys2Proof.Machine
end

