-- ==== Sys2Proof/Machine/HostPort.lean ====
section
/-!
DEFINITION. The CXL ports, apertures and host windows (R321-R328).
-/
namespace Sys2Proof.Machine

/-! ## Ports (R321, R323, R324) -/

def State.linkUp (s : State) (n : Nat) : Bool := s.on (Reg.portLink n)

/-- The port that carries the engines' host traffic: the active controller's, or the other while its link is down. -/
def State.hostPort (s : State) : Option Nat :=
  let c := s.controller
  if s.linkUp c then some c else if s.linkUp (1 - c) then some (1 - c) else none

/-- Whether the port in use has CXL.cache (R330). -/
def State.hostCache (s : State) : Bool := match s.hostPort with | some n => s.on (Reg.portCache n) | none => false

/-- RING_STATUS.DB_FALLBACK follows the port in use (R330). -/
def State.refreshFallback (s : State) : State :=
  if s.hostPort.isNone then s
  else (List.range 256).foldl (fun s n => s.setB (Reg.sqDbFallbackBit n) (!s.hostCache)) s

/-- CXL_LINK_UP (R321): a port's link trains at width x4, x8 or x16; the disabling for want of a link is reported (R324). -/
def execCxlLinkUp (n : IoN) (width : Fin 4) (cache : Bool) (s : State) : Out := s.live fun s =>
  let p := n.val
  let st := s.getF (Reg.dieState (28 + p))
  if width = 0 ∨ s.getF Reg.glbPhase < 4 ∨ s.on (Reg.identHeldOut (28 + p)) ∨ s.linkUp p ∨ Tbl.look (fun _ => false) s.pins.perst p ∨ st = 2 ∨ st = 4 ∨ st = 5 then .next s
  else
    let s := ((s.setB (Reg.portLink p) true).setB (Reg.portCache p) cache).setF (Reg.portWidth p) width
    let s := s.raise 0x6006 (0x1200 + p) [p, width.val, cache.toNat]
    let was := s.host.disabledRings
    let s := { s with host := { s.host with noLinkSince := none, disabledRings := none } }
    let s := match was with
      | some k => s.raise 0x600A (0x1200 + s.controller) [k]
      | none => s
    .next s.refreshFallback

/-- A port's link goes down (R321, R324). -/
def State.linkDown (s : State) (p cause : Nat) : State :=
  let s := ((s.setB (Reg.portLink p) false).setB (Reg.portCache p) false).setF (Reg.portWidth p) 0
  let s := s.raise 0x6005 (0x1200 + p) [p, cause]
  let since := match s.host.noLinkSince with
    | some t => some t
    | none => if s.linkUp (1 - p) then none else some s.clk.now
  { s with host := { s.host with noLinkSince := since } }.refreshFallback

/-- CXL_LINK_DOWN (R321, R324): a link is lost, or fails to train to its profile and stays down. -/
def execCxlLinkDown (n : IoN) (notReached : Bool) (s : State) : Out := s.live fun s =>
  .next (if s.linkUp n.val = notReached then s else s.linkDown n.val notReached.toNat)

/-- CXL_PERST (R324): the pin resets the link of its port alone. Its assertion ends DARK (R256). -/
def execCxlPerst (n : IoN) (asserted : Bool) (s : State) : Out := s.live fun s =>
  let p := n.val
  let s := { s with pins := { s.pins with perst := Tbl.put (fun _ => false) s.pins.perst p asserted } }
  let s := if asserted && s.getF Reg.fabric == 0 then s.relockRequest else s
  .next (if asserted && s.linkUp p then s.linkDown p 2 else s)

/-! ## Apertures (R325-R327) -/

/-- What the host receives from a port. -/
def State.hostAnswer (s : State) (n status : Nat) (bytes : List Byte) : State :=
  { s with host := { s.host with rsp := s.host.rsp ++ [⟨n, status, bytes⟩] } }

/-- A failed access counts, and is an APERTURE_FAULT of this frame (R327). -/
def State.aperFault (s : State) (n status la : Nat) : State :=
  (s.bump (Reg.ringCnt 10) 1).accum 0x6007 (0x1200 + n) [n, status, la] fun _ d => d

/-- A read that fails: Completer Abort, or poisoned data (R327). -/
def State.aperReadFails (s : State) (n status la : Nat) : State :=
  (s.aperFault n status la).hostAnswer n (if status = 0x40 ∨ status = 0x41 then 2 else 1) []

/-- The address of this node's local space. -/
def hereGa (la : Nat) : W64 := BitVec.ofNat 64 (la % 2 ^ 48 + 0xFFFF * 2 ^ 48)

/-- The aperture's requests of a port that serve writes, or any. -/
def isAper (n : Nat) (writes : Bool) : Purpose → Bool
  | .aperRead m _ _ _ => m == n && !writes
  | .aperMerge m _ _ => m == n
  | .aperWrite m _ => m == n
  | _ => false

/-- Whether an earlier write of the aperture is still in progress. -/
def State.aperWriting (s : State) (n : Nat) : Bool := !(s.enginesFor (isAper n true)).isEmpty
/-- Whether any access of the aperture is in progress. -/
def State.aperBusy (s : State) (n : Nat) : Bool := !(s.enginesFor (isAper n false)).isEmpty

/-- Lines from an address cut where a request must not cross a page (R118): address and number of lines. -/
def pageRuns : Nat → Nat → Nat → List (Nat × Nat)
  | 0, _, _ => []
  | _, _, 0 => []
  | n + 1, a, k =>
    let room := min k (64 - a / 64 % 64)
    (a, room) :: pageRuns n (a + 64 * room) (k - room)

/-- Loads of whole lines for an engine. -/
def State.loadReqOf (s : State) (unit seq : Nat) (key : W32) (ga : W64) (lines : Nat) : Req := s.mkReq unit seq 1 key ga lines

/-- A read starts: LOADs of the lines that cover it (R326). -/
def State.startRead (s : State) (n la len : Nat) : State :=
  let u := 0x1200 + n
  let key := BitVec.ofNat 32 (s.getF (Reg.aperKey n))
  let first := la / 64 * 64
  let count := (la % 64 + len + 63) / 64
  let runs := pageRuns (count + 1) first count
  match runs.find? (fun r => laReserved r.1) with
  | some r => s.aperReadFails n 0x12 r.1
  | none =>
    let id := Tbl.look (fun _ => 0) s.host.seqs u
    runs.foldl (fun s r => s.engineSend u (.aperRead n id la len) fun s seq => s.loadReqOf u seq key (hereGa r.1) r.2) s

/-- The line that bytes make, the first lowest. -/
def lineOf (bs : List Byte) : Line := BitVec.ofNat 512 (natOfBytes bs)

/-- Cuts a list into lines of bytes. -/
def byteLines (bs : List Byte) : List Line := (List.range (bs.length / 64)).map fun i => lineOf ((bs.drop (64 * i)).take 64)

/-- Bytes of part of a line are loaded, merged and stored (R326). -/
def State.startMerge (s : State) (n la : Nat) (bs : List Byte) : State :=
  let u := 0x1200 + n
  let key := BitVec.ofNat 32 (s.getF (Reg.aperKey n))
  if bs.isEmpty then s
  else if laReserved (la / 64 * 64) then s.aperFault n 0x12 (la / 64 * 64)
  else s.engineSend u (.aperMerge n la bs) fun s seq => s.loadReqOf u seq key (hereGa (la / 64 * 64)) 1

/-- Whole lines are stored. -/
def State.startStores (s : State) (n la : Nat) (lines : List Line) : State :=
  let u := 0x1200 + n
  let key := BitVec.ofNat 32 (s.getF (Reg.aperKey n))
  (pageChunks (lines.length + 1) la lines).foldl (fun s c =>
    if laReserved c.1 then s.aperFault n 0x12 c.1
    else s.engineSend u (.aperWrite n c.1) fun s seq => s.storeReqOf u seq 2 key (hereGa c.1) c.2) s

/-- A write starts: its first and last lines may be parts of a line. -/
def State.startWrite (s : State) (n la : Nat) (bs : List Byte) : State :=
  let head := if la % 64 = 0 then 0 else min bs.length (64 - la % 64)
  let rest := bs.drop head
  let whole := rest.length / 64 * 64
  let s := s.startMerge n la (bs.take head)
  let s := s.startStores n (la + head) (byteLines (rest.take whole))
  s.startMerge n (la + head + whole) (rest.drop whole)

/-- An access of the host starts, at the base then in force (R326, R327). -/
def State.startAper (s : State) (n : Nat) (a : AperAcc) : State :=
  let la := s.getF (Reg.aperBlock n) * 2 ^ 36 + a.offset
  if !s.on (Reg.aperEnable n) then (if a.write then s else s.hostAnswer n 0 (List.replicate a.len 0xFF))
  else if a.write then s.startWrite n la a.bytes
  else s.startRead n la a.len

def State.heldAt (s : State) (n : Nat) : List AperAcc := Tbl.look (fun _ => []) s.host.held n
def State.setHeld (s : State) (n : Nat) (l : List AperAcc) : State :=
  { s with host := { s.host with held := Tbl.put (fun _ => []) s.host.held n l } }

/-- Held accesses start in order, each once no earlier write is in progress. -/
def State.startHeld (s : State) (n : Nat) : List AperAcc → State
  | [] => s.setHeld n []
  | a :: r => if s.aperWriting n then s.setHeld n (a :: r) else (s.startAper n a).startHeld n r

/-- A base that waits applies once every earlier access has completed (R327); then the held accesses start. -/
def State.aperNext (s : State) (n : Nat) : State :=
  match Tbl.find s.host.moving n with
  | some v =>
    if s.aperBusy n then s
    else
      let s := (s.setR (Reg.aperBlock n).addr v).setB (Reg.aperMoving n) false
      { s with host := { s.host with moving := Tbl.drop s.host.moving n } }.startHeld n (s.heldAt n)
  | none => s.startHeld n (s.heldAt n)

/-- An access arrives: it starts, or is held behind a base that moves or an earlier write (R326, R327). -/
def State.aperAccess (s : State) (n : Nat) (a : AperAcc) : State :=
  if !s.linkUp n ∨ a.len = 0 ∨ 2 ^ 36 < a.offset + a.len then s
  else if s.on (Reg.aperMoving n) ∨ s.aperWriting n ∨ !(s.heldAt n).isEmpty then s.setHeld n (s.heldAt n ++ [a])
  else s.startAper n a

/-- APERTURE_READ (R326): a read of up to 4,096 B through BAR2. -/
def execApertureRead (n : IoN) (offset len : Nat) (s : State) : Out := s.live fun s =>
  .next (if 4096 < len then s else s.aperAccess n ⟨false, offset, len, []⟩)

/-- APERTURE_WRITE (R326): a posted write through BAR2. -/
def execApertureWrite (n : IoN) (offset : Nat) (bytes : List Byte) (s : State) : Out := s.live fun s =>
  .next (s.aperAccess n ⟨true, offset, bytes.length, bytes⟩)

/-- APER_BASE_WRITE (R327): the new base waits for the accesses in progress. -/
def State.aperBaseWrite (s : State) (n : Nat) (value : W32) : State :=
  let s := { s with host := { s.host with moving := Tbl.add s.host.moving n (value &&& 0x8000000F#32) } }
  (s.setB (Reg.aperMoving n) true).aperNext n

def execAperBaseWrite (n : IoN) (value : W32) (s : State) : Out := s.live fun s => .next (s.written (Reg.aperBlock n).addr fun s => s.aperBaseWrite n value)

/-- An engine request leaves the list of those that await replies. -/
def State.dropEngine (s : State) (e : EngineReq) : State :=
  { s with engine := s.engine.filter fun x => !(x.unit == e.unit && x.seq == e.seq) }.pumpEngines

/-- The bytes of lines, a marked line as zeros. -/
def bytesOfLines (ls : List (Option Line)) : List Byte :=
  ls.flatMap fun l => match l with | some l => bytesOfNat 64 l.toNat | none => List.replicate 64 0

/-- A reply to a load of an aperture read: with the last of them, the read completes (R326, R327). -/
def State.aperReadReply (s : State) (n id la len : Nat) : State :=
  let es := s.enginesFor fun u => u == .aperRead n id la len
  if es.any fun e => (s.answered e).isNone then s
  else
    let rs := es.filterMap s.answered
    let bad := (es.filter fun e => match s.answered e with | some r => r.status != 0 | none => false).head?
    let st := s.firstFault es
    let bytes := ((bytesOfLines (rs.flatMap fun r => r.data)).drop (la % 64)).take len
    let s := s.tookReplies es
    let s := match bad with
      | some e => s.aperReadFails n st (gaLa e.req.ga)
      | none => s.hostAnswer n 0 bytes
    s.aperNext n

/-- The reply to the load of a partial-line write: the bytes are merged and the line is stored (R326). -/
def State.aperMergeReply (s : State) (n la : Nat) (bs : List Byte) (e : EngineReq) (r : Reply) : State :=
  let s := (s.dropEngine e).dropReply r
  let fails := fun (s : State) => (s.aperFault n r.status.toNat (la / 64 * 64)).aperNext n
  match r.data with
  | [some l] =>
    if r.status = 0 then
      let old := bytesOfNat 64 l.toNat
      let new := old.take (la % 64) ++ bs ++ old.drop (la % 64 + bs.length)
      (s.startStores n (la / 64 * 64) [lineOf new]).aperNext n
    else fails s
  | _ => fails s

/-- The reply to a store of the aperture. -/
def State.aperWriteReply (s : State) (n la : Nat) (e : EngineReq) (r : Reply) : State :=
  let s := (s.dropEngine e).dropReply r
  (if r.status = 0 then s else s.aperFault n r.status.toNat la).aperNext n

/-! ## Host windows (R262, R328) -/

/-- Bytes reach host memory. -/
def State.hostWrite (s : State) (a : Nat) : List Byte → State
  | [] => s
  | b :: r => { s with host := { s.host with mem := Tbl.add s.host.mem (a % 2 ^ 64) b } }.hostWrite (a + 1) r

def laWin (la : Nat) : Nat := (la - 0x10000000000) / 0x20000000000
def laIsWindow (la : Nat) : Bool := decide (0x10000000000 ≤ la ∧ la < 0x90000000000)

/-- A failed window request counts, and is a WINDOW_FAULT of this frame (R328). `host` is the host's completion status. -/
def State.winFault (s : State) (w status host : Nat) : State :=
  (s.bump (Reg.ringCnt 11) 1).accum 0x6008 0x1202 [w, status, host] fun _ d => d

/-- Whether a window takes no such request (R269): it is neither a LOAD nor a STORE, it is a hub's store of a plait, or its
payload is wrong (R274). -/
def winRefuses (r : Req) : Bool :=
  (r.opc != 1 && r.opc != 2) || (r.opc == 2 && decide (0x1000 ≤ r.srcUnit.toNat ∧ r.srcUnit.toNat < 0x1020)) ||
    reqMalformed r r.opc.toNat

/-- A window request at the I/O die (R262, R328). -/
def State.serveWindow (s : State) (r : Req) (res : HostResult) : State × Option Answer :=
  let la := gaLa r.ga
  let w := laWin la
  let x := (la - 0x10000000000) % 0x20000000000
  let refuse := fun (st : Nat) => (s.accessFault 0x1202 st (reqSrcId r) w, some (Answer.refuse st 0))
  if winRefuses r then (s, some (Answer.refuse 0x12 0))
  else if reqBadAddress r ≠ 0 then (s, some (Answer.refuse (reqBadAddress r) 0))
  else if r.remote ∨ !s.on (Reg.winValid w) then refuse 0x12
  else if s.getF (Reg.winKey w) ≠ r.key.toNat then refuse 0x10
  else if 2 ^ s.getF (Reg.winLog2 w) < x + 64 * r.lines then (s, some (Answer.refuse 0x12 0))
  else if s.hostPort.isNone then (s.tookFree.winFault w 0x31 (s.freeWord.toNat % 8), some (Answer.refuse 0x31 0))
  else
    let base := (s.getR (Reg.win w)).toNat + (s.getR (Reg.win w + 4)).toNat * 2 ^ 32
    match res with
    | .unsupported => (s.winFault w 0x12 1, some (Answer.refuse 0x12 0))
    | .aborted => (s.winFault w 0x12 4, some (Answer.refuse 0x12 0))
    | .poisoned => (s.winFault w 0x40 0, some (Answer.refuse 0x40 0))
    | .ok data =>
      if r.opc = 1 then (s, some ⟨0, true, false, 0, 0, (List.range r.lines).map fun i => some (data.getD i 0)⟩)
      else (s.hostWrite (base + x) (r.data.flatMap fun l => bytesOfNat 64 l.toNat), some ⟨0, true, false, 0, 0, []⟩)

/-- A window's answer: an applied store is acknowledged once a later read has flushed it (R272, R328). -/
def State.winAnswer (s : State) (w : Nat) (r : Reply) : State :=
  if r.opc = 2 ∧ r.status = 0 then { s with host := { s.host with winStores := s.host.winStores ++ [(w, r)] } } else s.reply r

/-- HOST_WINDOW_REQUEST (R262, R328): a LOAD or STORE of a window; `res` is how its host transactions end. -/
def execHostWindowRequest (r : Req) (res : HostResult) (s : State) : Out := s.live fun s =>
  let la := gaLa r.ga
  if !laIsWindow la ∨ !s.isHere (gaNode r.ga) then .next s
  else
    .next (s.atTargetBy (fun s a => s.winAnswer (laWin la) a) (fun s a => s.winAnswer (laWin la) a) (0x1200 + s.controller) r (r.opc != 1) noPage fun s =>
      s.serveWindow r res)

/-- WINDOW_FLUSH_READ (R328): a later read of the window completes, and every store before it is acknowledged. -/
def execWindowFlushRead (w : ChanN) (s : State) : Out := s.live fun s =>
  let due := s.host.winStores.filter fun e => e.1 == w.val
  let rest := s.host.winStores.filter fun e => e.1 != w.val
  let s := { s with host := { s.host with winStores := rest } }
  .next (due.foldl (fun s e => s.reply e.2) s)

end Sys2Proof.Machine
end

