-- ==== Sys2Proof/Machine/Rings.lean ====
section
/-!
DEFINITION. Doorbells, submission rings, descriptors and completion records (R329-R354).
-/
namespace Sys2Proof.Machine

/-! ## Ring sizes and halting (R331, R351, R353) -/

def State.sqSize (s : State) (n : Nat) : Nat := 2 ^ s.getF (Reg.sqLog2 n)
def State.cqSize (s : State) (m : Nat) : Nat := 2 ^ s.getF (Reg.cqLog2 m)
def State.evrSize (s : State) : Nat := 2 ^ s.getF Reg.evrLog2
/-- The distance between two free-running 32-bit counts. -/
def ahead (a b : Nat) : Nat := (a + 2 ^ 32 - b % 2 ^ 32) % 2 ^ 32

/-- A running ring halts (R331). -/
def State.haltRing (s : State) (n cause : Nat) : State :=
  if s.getF (Reg.sqState n) ≠ 1 then s
  else ((s.setF (Reg.sqState n) 3).setF (Reg.sqHaltCause n) cause).raise 0x6002 (ringUnit n) [n, cause]

/-- CQ_STATUS shows whether a slot is free, and the PHASE of the next record (R351). -/
def State.refreshCq (s : State) (m : Nat) : State :=
  let w := s.getF (Reg.cqWritten m)
  (s.setB (Reg.cqFull m) (decide (s.cqSize m ≤ ahead w (s.cq m).head))).setF (Reg.cqPhase m) (1 - w / s.cqSize m % 2)

/-- Whether the event ring has no free slot (R353). -/
def State.evrNoRoom (s : State) : Bool := decide (s.evrSize ≤ ahead s.host.evrWritten s.host.evrHead)
def State.refreshEvr (s : State) : State := s.setB Reg.evrFull s.evrNoRoom

/-! ## Doorbells (R329, R330) -/

/-- A ring's line is held: the ring is enabled or valid. -/
def State.lineHeld (s : State) (kind n : Nat) : Bool :=
  if kind = 0 then s.getF (Reg.sqState n) == 1 else if kind = 1 then s.on (Reg.cqValid n) else s.on Reg.evrValid

/-- The count that the device last read from a line. -/
def State.doorbell (s : State) (kind n : Nat) : Nat :=
  if kind = 0 then (s.sq n).tail else if kind = 1 then (s.cq n).head else s.host.evrHead

/-- The device acts on a new count; a tail that runs more than the ring size ahead of the descriptors started halts. -/
def State.takeDoorbell (s : State) (kind n count : Nat) : State :=
  if kind = 0 then
    let s := s.modSq n fun q => { q with tail := count }
    let q := s.sq n
    if s.sqSize n < ahead count (q.next + 2 ^ 32 - q.queue.length) then s.haltRing n 2 else s
  else if kind = 1 then (s.modCq n fun c => { c with head := count }).refreshCq n
  else { s with host := { s.host with evrHead := count } }.refreshEvr

/-- DOORBELL_SNOOP (R329): the host's write snoops a held line away, and the device reads it again. -/
def execDoorbellSnoop (kind : Fin 3) (n : RingN) (count : W32) (s : State) : Out := s.live fun s =>
  .next (if s.lineHeld kind n ∧ s.hostCache then (s.bump (Reg.ringCnt 5) 1).takeDoorbell kind n count.toNat else s)

/-- DOORBELL_POLL (R330): each period the device reads each line; a count that changed without a snoop is counted. -/
def execDoorbellPoll (kind : Fin 3) (n : RingN) (count : W32) (s : State) : Out := s.live fun s =>
  if !s.lineHeld kind n ∨ s.hostPort.isNone ∨ s.doorbell kind n = count.toNat then .next s
  else
    let unit := if kind = 0 then ringUnit n else 0x1200 + s.controller
    let s := (s.bump (Reg.ringCnt 6) 1).raiseLimited 0x6009 unit (kind.val * 256 + n.val) [n.val]
    .next (s.takeDoorbell kind n count.toNat)

/-- SQ_DB_FALLBACK_WRITE (R330, R356): a write of the tail, treated as a doorbell write. -/
def State.dbFallback (s : State) (n : Nat) (count : W32) : State :=
  let s := s.setF (Reg.sqDbFallback n) count.toNat
  if s.lineHeld 0 n then s.takeDoorbell 0 n count.toNat else s

def execSqDbFallbackWrite (n : RingN) (count : W32) (s : State) : Out := s.live fun s =>
  .next (s.written (Reg.sq n) fun s => s.dbFallback n count)

/-! ## Fetching (R331) -/

/-- Whether a descriptor needs the fabric: those of opcodes 1 to 9 (R254, R336-R347). -/
def needsFabric (l : Line) : Bool := decide (1 ≤ descOpcode l ∧ descOpcode l ≤ 9)

/-- Work wakes a part in DARK (R256). -/
def State.wakeOnWork (s : State) (l : Line) : State :=
  if s.getF Reg.fabric = 0 ∧ s.on Reg.wakeOnWork ∧ needsFabric l then s.relockRequest else s

/-- DESCRIPTOR_FETCHED (R331): the next descriptor arrives, up to 16 beyond those started; a fetch that the host fails halts
the ring. -/
def execDescriptorFetched (n : RingN) (desc : Option Line) (s : State) : Out := s.live fun s =>
  let q := s.sq n
  if s.getF (Reg.sqState n) ≠ 1 ∨ s.ctl.startsStopped ∨ s.hostPort.isNone ∨ 16 ≤ q.queue.length ∨ ahead q.tail q.next = 0 then
    .next s
  else
    match desc with
    | none => .next (s.haltRing n 1)
    | some l =>
      let s := s.modSq n fun q =>
        { q with next := (q.next + 1) % 2 ^ 32, queue := q.queue ++ [⟨q.next, l, s.clk.now, false⟩] }
      .next (((s.setF (Reg.sqFetched n) ((q.next + 1) % 2 ^ 32)).bump (Reg.ringCnt 0) 1).wakeOnWork l)

/-! ## The fields of descriptors (R333-R347) -/

/-- The fields of a descriptor that may hold ones: byte offset and width. COMPARE is CAS64's. -/
def descFields (l : Line) : List (Nat × Nat) :=
  [(0, 16), (2, 4), (3, 2), (4, 32)] ++
  match descOpcode l with
  | 1 => [(8, 10), (10, 3), (12, 32), (16, 64)]
  | 2 => [(8, 64), (16, 64), (24, 64), (32, 3), (34, 10)]
  | 3 => [(8, 64), (16, 64), (24, 64), (32, 3), (34, 10)]
  | 4 => [(8, 16), (16, 64), (24, 64)] ++ (if dfield l 8 2 = 9 then [(32, 64)] else [])
  | 5 => [(8, 12), (10, 5), (11, 4), (12, 16), (14, 16), (16, 32), (20, 16), (22, 16), (24, 64), (32, 64), (40, 16)]
  | 6 => [(8, 16), (10, 16), (12, 2), (16, 48)]
  | 7 => [(8, 16), (10, 16), (12, 2), (16, 48), (24, 32)]
  | 8 => [(8, 64), (16, 64), (24, 32), (28, 32)]
  | 9 => [(8, 256), (40, 64), (48, 32)]
  | 10 => [(8, 2)]
  | _ => []

/-- The bits that must be zero. FILL's byte 32 holds SPOKE alone; SELECT's bits 30 to 12 are zero (R395). -/
def descZeros (l : Line) : Nat :=
  let used := ((descFields l).map fun f => (2 ^ f.2 - 1) * 2 ^ (8 * f.1)).sum
  let extra := if descOpcode l = 3 then 3 * 2 ^ 256 else if descOpcode l = 8 then 0x7FFFF000 * 2 ^ 224 else 0
  2 ^ 512 - 1 - used + extra

/-- The offset of the first byte that holds a one where a zero belongs. -/
def descStray (l : Line) : Option Nat :=
  let x := l.toNat &&& descZeros l
  (List.range 64).find? fun i => decide (x / 2 ^ (8 * i) % 256 ≠ 0)

def descMode (l : Line) : Nat := dfield l 12 1 % 4
def xferDst (l : Line) : Nat := if descOpcode l = 2 then dfield l 16 8 else dfield l 8 8
def xferLen (l : Line) : Nat := if descOpcode l = 2 then dfield l 24 8 else dfield l 16 8
def xferSrcHost (l : Line) : Bool := descOpcode l == 2 && (dfield l 32 1).testBit 0
def xferDstHost (l : Line) : Bool := descOpcode l == 2 && (dfield l 32 1).testBit 1
def xferSpoke (l : Line) : Bool := (dfield l 32 1).testBit 2
def xferEntry (l : Line) : Nat := dfield l 34 2 % 1024

/-- The node of an address, as this package names it. -/
def State.ownNode (s : State) (ga : Nat) : Nat := if s.isHere (ga / 2 ^ 48) then 0xFFFF else ga / 2 ^ 48

/-- Whether the two device ranges of a COPY overlap (R338). -/
def State.overlaps (s : State) (l : Line) : Bool :=
  let a := dfield l 8 8
  let b := xferDst l
  let n := xferLen l
  !xferSrcHost l && !xferDstHost l && !xferSpoke l && s.ownNode a == s.ownNode b &&
  decide (a % 2 ^ 48 < b % 2 ^ 48 + n ∧ b % 2 ^ 48 < a % 2 ^ 48 + n)

/-- The home of a group that an I/O hub reduces, where it is another node (R380). -/
def State.awayHome (s : State) (g port : Nat) : Option Nat :=
  if 28 ≤ port ∧ s.on (Reg.plaitHomeValid g) ∧ !s.isHere (s.getF (Reg.plaitHome g)) then some (s.getF (Reg.plaitHome g)) else none

/-- Whether a group's home lies at L4 (R286, R342). -/
def State.levelFour (s : State) (g port : Nat) : Bool :=
  match s.awayHome g port with
  | some h =>
    let e := s.routeEntry (s.getF Reg.wtyActive) h
    routeValid e && routeLevel e == 1
  | none => false

/-- The checks of the fields of an opcode, in order: what holds of a good field, and the offset of the field. -/
def State.descChecks (s : State) (l : Line) : List (Bool × Nat) :=
  let len := fun (o : Nat) => (decide (64 ≤ xferLen l ∧ xferLen l ≤ 2 ^ 40 ∧ xferLen l % 64 = 0), o)
  match descOpcode l with
  | 1 => [(decide (dfield l 16 8 % 32 = 0), 16)]
  | 2 => [(decide (dfield l 8 8 % 64 = 0), 8), (decide (dfield l 16 8 % 64 = 0), 16), len 24,
          (!(xferSrcHost l && xferDstHost l), 32), (!(xferSpoke l && xferDstHost l), 32), (!s.overlaps l, 16)]
  | 3 => [(decide (dfield l 8 8 % 64 = 0), 8), len 16]
  | 4 => [(isAtomicOp (dfield l 8 2), 8), (decide (dfield l 16 8 % atomicBytes (dfield l 8 2) = 0), 16)]
  | 5 => [(!s.levelFour (dfield l 8 2) (dfield l 10 1), 8), (decide (dfield l 11 1 ≤ 6), 11),
          (decide (1 ≤ dfield l 12 2 ∧ dfield l 12 2 ≤ 64), 12), (decide (1 ≤ dfield l 14 2 ∧ dfield l 14 2 ≤ 4096), 14),
          (decide (dfield l 22 2 < 1024 ∨ dfield l 22 2 = 0xFFFF), 22), (decide (dfield l 24 8 % 64 = 0), 24),
          (decide (dfield l 32 8 % 64 = 0), 32)]
  | 6 => [(decide (descMode l ≠ 2 ∨ dfield l 10 2 = 0xFFFF), 10), (decide (descMode l < 3), 12)]
  | 7 => [(decide (descMode l < 3), 12)]
  | 8 => [(decide (dfield l 16 8 % 64 = 0), 16), (decide (dfield l 24 4 % 64 = 0), 24)]
  | 9 => [(decide (dfield l 40 8 % 64 = 0), 40)]
  | _ => []

/-- Whether an opcode or mode is for SQ0 alone (R336, R343-R347). -/
def sq0Only (l : Line) : Bool :=
  match descOpcode l with
  | 6 => descMode l == 2
  | 7 => descMode l != 0
  | 8 => true
  | 9 => true
  | 10 => (dfield l 8 1).testBit 0
  | _ => false

/-- The status and detail with which a descriptor fails its checks (R335). -/
def State.descFault (s : State) (n : Nat) (d : Desc) : Option (Nat × Nat) :=
  let l := d.line
  if 10 < descOpcode l then some (0xF0, 0)
  else
    match descStray l, (s.descChecks l).find? (fun c => !c.1) with
    | some o, _ => some (0xF0, o)
    | none, some c => some (0xF0, c.2)
    | none, none => if sq0Only l && n != 0 then some (0x11, 0) else none

/-! ## Starting (R332, R334) -/

/-- The gates of a ring: WAIT, FENCE and a descriptor with FENCE_PREV (R332). -/
def isGate (l : Line) : Bool := descOpcode l == 7 || descOpcode l == 10 || descFlag l 0

/-- The front descriptor of a ring, when it can start now (R332). -/
def State.canStart (s : State) (n : Nat) : Option Desc :=
  let q := s.sq n
  match q.queue with
  | [] => none
  | d :: _ =>
    let open_ := q.started.filter fun (x : Started) => !x.finished
    if s.getF (Reg.sqState n) = 1 ∧ !s.ctl.startsStopped ∧ q.started.length < s.getF (Reg.sqInflight n) ∧
        s.getF Reg.ringInflight < 4096 ∧ open_.all (fun x => !isGate x.line) ∧ (!descFlag d.line 0 ∨ open_.isEmpty) ∧
        (!needsFabric d.line ∨ s.getF Reg.fabric = 2) then some d
    else none

/-- The front descriptor moves to the started ones. -/
def State.beginDesc (s : State) (n : Nat) (d : Desc) : State :=
  let x : Started :=
    { num := d.num, line := d.line, fetchedAt := d.fetchedAt, startFrame := s.clk.frame, seq := 0, progress := 0,
      checkpoint := 0, quantum := 0, closedIn := 0, fail := none, waits := [], waited := 0, latest := 0, redone := false,
      stopping := false, finished := false }
  (s.modSq n fun q => { q with queue := q.queue.drop 1, started := q.started ++ [x] }).countStarted n

/-- Starts the front descriptor of a ring when it is one that `mine` selects (R332-R335). -/
def State.startDesc (s : State) (n : Nat) (mine : Line → Bool) (act : State → Desc → State) : State :=
  match s.canStart n with
  | none => s
  | some d =>
    if !mine d.line then s
    else
      let fault := s.descFault n d
      let s := s.beginDesc n d
      match fault with
      | some (st, detail) => if st = 0xF0 then s.finish n d.num st 0 0 detail else s.finishOpen n d.num st 0 0 0 allBits
      | none =>
        if descFlag d.line 0 && descFlag d.line 1 && d.failedPrev then s.finishOpen n d.num 0x03 0 0 0 allBits else act s d

/-- The key of a descriptor's governed requests (R334). -/
def State.descKey (s : State) (n : Nat) (l : Line) : W32 := s.getR (Reg.ringKey n (dfield l 3 1 % 4))

/-- NOP_DESC (R336): completes at once. An opcode that is not defined completes DESCRIPTOR_MALFORMED (R335). -/
def execNopDesc (n : RingN) (s : State) : Out := s.live fun s =>
  .next (s.startDesc n (fun l => descOpcode l == 0 || decide (10 < descOpcode l)) fun s d => s.finishOpen n d.num 0 0 0 0 allBits)

/-- LAUNCH (R337, R80): the course of a group is queued, and claims its members when it can. -/
def execLaunch (n : RingN) (s : State) : Out := s.live fun s =>
  .next (s.startDesc n (fun l => descOpcode l == 1) fun s d =>
    let c : Course :=
      { group := dfield d.line 8 2, ring := n, num := d.num, listGa := BitVec.ofNat 64 (dfield d.line 16 8),
        listKey := dfield d.line 10 1, startFrame := s.resolveFrame (dfield d.line 12 4), claimed := false, running := false,
        began := 0, members := [], statuses := [], faults := [], progress := [], notBefore := 0 }
    { s with courses := s.courses ++ [c] }.claimCourses)

/-! ## COPY and FILL (R338-R340) -/

/-- An engine awaits a reply to something that is not a request of the fabric. -/
def State.engineHold (s : State) (unit : Nat) (purpose : Purpose) (opc : Nat) : State × Nat :=
  let seq := s.nextSeq unit
  let e : EngineReq := { unit := unit, seq := seq, purpose := purpose, req := s.mkReq unit seq opc 0 0 0, retries := 0, issued := true }
  let s := s.tookSeqOf unit
  ({ s with engine := s.engine ++ [e] }, seq)

/-- Lines of a COPY or FILL go to their place in the range: a spoke set, host memory or device memory. -/
def State.placeData (s : State) (n num : Nat) (l : Line) (off : Nat) (data : List Line) : State :=
  let dst := xferDst l + off
  let u := ringUnit n
  if xferSpoke l then
    (s.tookSeqOf u).newSpoke s.ioPort (xferEntry l) u (s.nextSeq u) 2 dst num off none data
  else if xferDstHost l then
    if s.hostPort.isNone then s.failCopy n num off 0x31 dst else s.hostWrite dst (data.flatMap fun x => bytesOfNat 64 x.toNat)
  else
    (pageChunks (data.length + 1) dst data).foldl (fun s c =>
      let ga := BitVec.ofNat 64 c.1
      let o := off + (c.1 - dst)
      if s.isHere (gaNode ga) && laReserved (gaLa ga) then s.failCopy n num o 0x12 c.1
      else s.engineSend u (.copyStore num o) fun s seq => s.storeReqOf u seq 2 (s.descKey n l) ga c.2) s

/-- `k` lines of a list from the b-th; the list stands for the host's data, with zeros after its end. -/
def linesFrom (data : List Line) (b k : Nat) : List Line :=
  let x := (data.drop b).take k
  x ++ List.replicate (k - x.length) 0

/-- The requests of a quantum. -/
def State.issueQuantum (s : State) (n : Nat) (d : Started) (bytes : Nat) (host : List Line) : State :=
  let l := d.line
  let u := ringUnit n
  let p := d.progress
  let count := bytes / 64
  if descOpcode l = 3 then
    let x := BitVec.ofNat 512 ((List.range 8).map fun i => dfield l 24 8 * 2 ^ (64 * i)).sum
    (pageRuns (count + 1) (xferDst l + p) count).foldl (fun s r =>
      s.placeData n d.num l (r.1 - xferDst l) (List.replicate r.2 x)) s
  else if xferSrcHost l then
    if s.hostPort.isNone then s.failCopy n d.num p 0x31 (dfield l 8 8 + p)
    else
      (pageRuns (count + 1) (xferDst l + p) count).foldl (fun s r =>
        let off := r.1 - xferDst l
        s.placeData n d.num l off (linesFrom host ((off - p) / 64) r.2)) s
  else
    let src := dfield l 8 8
    (pageRuns (count + 1) (src + p) count).foldl (fun s r =>
      let ga := BitVec.ofNat 64 r.1
      let off := r.1 - src
      if s.isHere (gaNode ga) && laReserved (gaLa ga) then s.failCopy n d.num off 0x12 r.1
      else s.engineSend u (.copyLoad d.num off) fun s seq => s.loadReqOf u seq (s.descKey n l) ga r.2) s

/-- A quantum begins: the next QUANTUM_MIB of the range, or what is left (R340). -/
def State.beginQuantum (s : State) (n num : Nat) (host : List Line) : State :=
  match s.started n num with
  | none => s
  | some d =>
    let bytes := min (s.getF (Reg.sqQuantum n) * 2 ^ 20) (xferLen d.line - d.progress)
    (s.modStarted n num fun d => { d with quantum := bytes }).issueQuantum n d bytes host

/-- COPY (R338): the descriptor starts, and its first quantum begins. `host` is what host memory holds from SRC on. -/
def execCopy (n : RingN) (host : List Line) (s : State) : Out := s.live fun s =>
  .next (s.startDesc n (fun l => descOpcode l == 2) fun s d => s.beginQuantum n d.num host)

/-- FILL (R339): the descriptor starts, and its first quantum begins. -/
def execFill (n : RingN) (s : State) : Out := s.live fun s =>
  .next (s.startDesc n (fun l => descOpcode l == 3) fun s d => s.beginQuantum n d.num [])

/-- COPY_QUANTUM_BEGIN (R340): at the first tick at which the one before it has closed. `host` is what host memory holds
from the place in SRC that the progress has reached. -/
def execCopyQuantumBegin (n : RingN) (num : W32) (host : List Line) (s : State) : Out := s.live fun s =>
  match s.started n num.toNat with
  | none => .next s
  | some d =>
    let xfer := descOpcode d.line == 2 || descOpcode d.line == 3
    if d.finished ∨ !xfer ∨ d.quantum ≠ 0 ∨ d.stopping ∨ s.clk.frame ≤ d.closedIn ∨ s.clk.now ≠ s.clk.tick then .next s
    else .next (s.beginQuantum n num.toNat host)

/-- Whether a request of a descriptor's quantum is outstanding. -/
def State.copying (s : State) (n num : Nat) : Bool :=
  (s.engine.any fun e => e.unit == ringUnit n && (match e.purpose with
    | .copyLoad m _ => m == num
    | .copyStore m _ => m == num
    | _ => false)) ||
  ((List.range 32).any fun p => (s.hub p).spokes.any fun o => o.unit == ringUnit n && o.num == num && o.group.isNone)

/-- Progress of a COPY or FILL, counted (R358). -/
def State.copied (s : State) (n : Nat) (d : Started) (progress : Nat) : State :=
  (s.modStarted n d.num fun d => { d with progress := progress, quantum := 0 }).bump
    (Reg.ringCnt (if descOpcode d.line = 2 then 3 else 4)) (progress - d.progress)

/-- COPY_QUANTUM_CLOSE (R340, R338): every request of the quantum has completed; the descriptor goes on at the next tick, or
completes. -/
def execCopyQuantumClose (n : RingN) (num : W32) (s : State) : Out := s.live fun s =>
  match s.started n num.toNat with
  | none => .next s
  | some d =>
    if d.finished ∨ d.quantum = 0 ∨ s.copying n d.num then .next s
    else
      match d.fail with
      | some (off, st, addr) => .next ((s.copied n d off).finish n d.num st 0 off addr)
      | none =>
        let p := d.progress + d.quantum
        let s := s.copied n d p
        .next (if p = xferLen d.line then s.finish n d.num 0 0 p 0
          else if d.stopping then s.finishOpen n d.num 0x01 0 p 0 allBits
          else
            let f := if s.clk.now = s.clk.tick then s.clk.frame - 1 else s.clk.frame
            s.modStarted n d.num fun d => { d with closedIn := f })

/-! ## REMOTE, SIGNAL, WAIT and FENCE (R341, R343, R344, R347) -/

/-- REMOTE (R341): one atomic. -/
def execRemote (n : RingN) (s : State) : Out := s.live fun s =>
  .next (s.startDesc n (fun l => descOpcode l == 4) fun s d =>
    let l := d.line
    let ga := BitVec.ofNat 64 (dfield l 16 8)
    if s.isHere (gaNode ga) && laReserved (gaLa ga) then s.finishOpen n d.num 0x12 0 0 0 allBits
    else s.engineSend (ringUnit n) (.remote d.num) fun s seq =>
      let base := s.mkReq (ringUnit n) seq (dfield l 8 2) (s.descKey n l) ga 0
      { base with operand := BitVec.ofNat 64 (dfield l 24 8), compare := BitVec.ofNat 64 (dfield l 32 8) })

/-- The counter word that a SIGNAL or WAIT names. -/
def descWord (l : Line) : W64 := BitVec.ofNat 64 (dfield l 8 2 + dfield l 10 2 * 2 ^ 16)

/-- A SIGNAL of mode 0 or 1 sends its sync operation (R343). -/
def State.signalDesc (s : State) (n opc : Nat) (d : Desc) : State :=
  s.engineSend (ringUnit n) (.signal d.num) fun s seq =>
    s.syncReq (ringUnit n) seq opc (descWord d.line) (BitVec.ofNat 64 (dfield d.line 16 6))

/-- SIGNAL_ADD (R343): mode 0 adds to a counter; the mode that is not defined is malformed. -/
def execSignalAdd (n : RingN) (s : State) : Out := s.live fun s =>
  .next (s.startDesc n (fun l => descOpcode l == 6 && (descMode l == 0 || descMode l == 3)) fun s d => s.signalDesc n 0x18 d)

/-- SIGNAL_SET (R343): mode 1 sets a counter. -/
def execSignalSet (n : RingN) (s : State) : Out := s.live fun s =>
  .next (s.startDesc n (fun l => descOpcode l == 6 && descMode l == 1) fun s d => s.signalDesc n 0x19 d)

/-- The I/O hub at which ring 0 meets rim channels: the first of the active I/O die (R218, R344). -/
def State.ringHub (s : State) : Nat := s.ioPort

/-- RIM_FLAG_SET_DESC (R343): mode 2 sets a rim flag, where the hub takes the channel (R221). -/
def execRimFlagSetDesc (n : RingN) (s : State) : Out := s.live fun s =>
  .next (s.startDesc n (fun l => descOpcode l == 6 && descMode l == 2) fun s d =>
    let c := dfield d.line 8 1 % 64
    let p := s.ringHub
    if !s.rimHere p c then s.finish n d.num 0x12 0 0 0
    else
      let e := s.engineHold (ringUnit n) (.signal d.num) opcRim
      e.1.rimSetAt p c (ringUnit n) e.2 (BitVec.ofNat 32 (dfield d.line 16 4)))

/-- WAIT_COUNTER_DESC (R344): mode 0 waits at the counter's primary hub; a counter of another node is out of range. -/
def execWaitCounterDesc (n : RingN) (s : State) : Out := s.live fun s =>
  .next (s.startDesc n (fun l => descOpcode l == 7 && (descMode l == 0 || descMode l == 3)) fun s d =>
    if !s.isHere (dfield d.line 10 2) then s.finishOpen n d.num 0x12 0 0 0 allBits
    else s.engineSend (ringUnit n) (.wait d.num) fun s seq =>
      s.syncReq (ringUnit n) seq 0x1A (descWord d.line) (BitVec.ofNat 64 (dfield d.line 16 6)))

/-- WAIT_RIM_BARRIER_DESC (R344): mode 1 arrives at a rim barrier and waits for its release, where the hub takes the channel
(R221). -/
def execWaitRimBarrierDesc (n : RingN) (s : State) : Out := s.live fun s =>
  .next (s.startDesc n (fun l => descOpcode l == 7 && descMode l == 1) fun s d =>
    let c := dfield d.line 8 1 % 64
    let p := s.ringHub
    if !s.isHere (dfield d.line 10 2) then s.finishOpen n d.num 0x12 0 0 0 allBits
    else if !s.rimHere p c then s.finish n d.num 0x12 0 0 0
    else
      let e := s.engineHold (ringUnit n) (.wait d.num) opcRim
      let gen := s.on (Reg.rimGen p c)
      e.1.modChan p c fun x => { x with inbox := x.inbox ++ [(ringUnit n, e.2, gen)] })

/-- WAIT_RIM_FLAG_DESC (R344): mode 2 waits for a rim flag, where the hub takes the channel (R221). -/
def execWaitRimFlagDesc (n : RingN) (s : State) : Out := s.live fun s =>
  .next (s.startDesc n (fun l => descOpcode l == 7 && descMode l == 2) fun s d =>
    let c := dfield d.line 8 1 % 64
    let p := s.ringHub
    let v := dfield d.line 16 4
    if !s.isHere (dfield d.line 10 2) then s.finishOpen n d.num 0x12 0 0 0 allBits
    else if !s.rimHere p c then s.finish n d.num 0x12 0 0 0
    else if v ≤ s.getF (Reg.rimFlag p c) then s.finish n d.num 0 0 1 (s.getF (Reg.rimFlag p c))
    else
      let e := s.engineHold (ringUnit n) (.wait d.num) opcRim
      e.1.modChan p c fun x => { x with flagWait := x.flagWait ++ [(ringUnit n, e.2, v)] })

/-- The engine's request that serves a wait. -/
def State.waitEngine (s : State) (n num : Nat) : Option EngineReq :=
  s.engine.find? fun e => e.unit == ringUnit n && e.purpose == .wait num

/-- A WAIT is withdrawn from its hub, and completes (R344, R354). -/
def State.withdrawDesc (s : State) (n num status : Nat) : State :=
  let s := match s.waitEngine n num with
    | some e => (s.withdraw e.unit e.seq).dropEngine e
    | none => s
  s.finishOpen n num status 0 0 0 allBits

/-- WAIT_DESC_TIMEOUT (R344): TIMEOUT frames pass without the condition. -/
def execWaitDescTimeout (n : RingN) (num : W32) (s : State) : Out := s.live fun s =>
  match s.started n num.toNat with
  | none => .next s
  | some d =>
    let t := dfield d.line 24 4
    if d.finished ∨ descOpcode d.line ≠ 7 ∨ t = 0 ∨ s.clk.frame < d.startFrame + t then .next s
    else .next (s.withdrawDesc n d.num 0x32)

/-- The descriptors a FENCE waits for (R347): those of its ring that have not completed, or of every ring those fetched
before it. -/
def State.fenceWaits (s : State) (n : Nat) (d : Desc) : List (Nat × Nat) :=
  let all := (dfield d.line 8 1).testBit 0
  s.host.sq.flatMap fun e =>
    let begun := (e.2.started.filter fun (x : Started) =>
      !x.finished && (if e.1 = n then x.num != d.num else all && decide (x.fetchedAt < d.fetchedAt))).map fun x => (e.1, x.num)
    let queued := (e.2.queue.filter fun x => e.1 != n && all && decide (x.fetchedAt < d.fetchedAt)).map fun x => (e.1, x.num)
    begun ++ queued

/-- A FENCE completes when its conditions hold (R347); DETAIL is the mask of the stacks left out. -/
def State.checkFence (s : State) (n num : Nat) : State :=
  match s.started n num with
  | none => s
  | some d =>
    let out := fun (k : Nat) => s.getF (Reg.scState k) == 3
    let after := max d.fetchedAt d.latest
    let durable := (List.range 12).all fun k => out k || decide (after < s.durable k)
    let wants := (dfield d.line 8 1).testBit 1
    if d.finished ∨ !d.waits.isEmpty ∨ (wants ∧ !durable) then s
    else s.finish n num 0 0 d.waited (if wants then (((List.range 12).filter out).map fun k => 2 ^ k).sum else 0)

/-- FENCE (R347): the front FENCE of a ring starts, and one that has started completes once its conditions hold. -/
def execFence (n : RingN) (s : State) : Out := s.live fun s =>
  match (s.sq n).started.find? (fun (d : Started) => descOpcode d.line == 10 && !d.finished) with
  | some d => .next (s.checkFence n d.num)
  | none =>
    .next (s.startDesc n (fun l => descOpcode l == 10) fun s d =>
      let ws := s.fenceWaits n d
      (s.modStarted n d.num fun x => { x with waits := ws, waited := ws.length }).checkFence n d.num)

/-! ## PLAIT (R211, R212, R342, R380) -/

def State.setForwarder (s : State) (g : Nat) (f : Option Forwarder) : State :=
  { s with fab := { s.fab with forwarders := Tbl.put (fun _ => none) s.fab.forwarders g f } }
def State.forwarder (s : State) (g : Nat) : Option Forwarder := Tbl.look (fun _ => none) s.fab.forwarders g

/-- Whether a group is armed: it has not reported its completion. -/
def State.plaitArmed (s : State) (g : Nat) : Bool :=
  (match s.plait g with | some x => decide (x.phase < 4) | none => false) || (s.forwarder g).isSome

/-- The group's route reaches every hub (R212). -/
def State.setRoute (s : State) (g port : Nat) : State :=
  { s with fab := { s.fab with route := Tbl.put (fun _ => none) s.fab.route g (some port) } }

/-- Whether a port's buffers take another group (R212, R380). -/
def State.plaitFits (s : State) (port bytes : Nat) : Bool :=
  let room := if port < 16 then 2 ^ 24 else 2 ^ 23
  decide (s.plaitUsed port + bytes ≤ room) && s.getF (Reg.hubState port) != 3 &&
  (decide (16 ≤ port) || s.getF (Reg.sdState (port / 2)) == 1)

/-- A group is armed with the fields of its descriptor. -/
def armedPlait (s : State) (n : Nat) (d : Desc) : Plait :=
  let l := d.line
  { port := dfield l 10 1, op := dfield l 11 1, lines := dfield l 12 2, expect := dfield l 14 2,
    key := BitVec.ofNat 32 (dfield l 16 4), resultGa := BitVec.ofNat 64 (dfield l 24 8),
    statusGa := BitVec.ofNat 64 (dfield l 32 8), counter := BitVec.ofNat 64 (dfield l 20 2 + 0xFFFF * 2 ^ 16),
    spoke := if dfield l 22 2 = 0xFFFF then none else some (dfield l 22 2), patience := dfield l 40 2, frame := s.clk.frame,
    ring := n, num := d.num, acc := List.replicate (dfield l 12 2) none, bitmap := 0, count := 0, completed := false,
    phase := 0, status := 0, fault := 0, doneAt := 0, doneFrame := 0, nodes := [] }

/-- PLAIT_DESC (R342, R212, R380): arms a group, or at a node that is not its home a forwarder, which joins the home. -/
def execPlaitDesc (n : RingN) (s : State) : Out := s.live fun s =>
  .next (s.startDesc n (fun l => descOpcode l == 5) fun s d =>
    let x := armedPlait s n d
    let g := dfield d.line 8 2
    if s.plaitArmed g then s.finish n d.num 0x02 0 0 2
    else
      match s.awayHome g x.port with
      | some home =>
        let f : Forwarder := ⟨home, x.lines, x.op, x.expect, x.key, x.counter, n, d.num, false⟩
        ((s.setForwarder g (some f)).setRoute g x.port).tell home (.plaitJoin g)
      | none =>
        if !s.plaitFits x.port (plaitBytes x.op x.lines x.expect) then s.finish n d.num 0x02 0 0 3
        else
          let s := ((s.setPlait g (some x)).setRoute g x.port)
          let s := if 16 ≤ x.port ∧ x.port < 28 then s.modSc (x.port - 16) fun c => c.fit (s.cachePlaces (x.port - 16)) [] else s
          s.setF (Reg.plaitsArmed x.port) (s.getF (Reg.plaitsArmed x.port) + 1))

/-! ## Replies to descriptors' requests (R338-R344) -/

/-- The flags of a record that a reply sets (R350). -/
def replyFlags (r : Reply) : Nat := (if r.saturated then 2 else 0) + (if r.ledgerHit then 8 else 0)

/-- Whether a started descriptor is a WAIT for a rim barrier, whose release has no value (R344). -/
def State.barrierWait (s : State) (n num : Nat) : Bool :=
  match s.started n num with
  | some d => descOpcode d.line == 7 && descMode d.line == 1
  | none => false

/-- A reply completes a REMOTE, SIGNAL or WAIT: progress 1 and the value when it is OK. -/
def State.opReply (s : State) (n num : Nat) (r : Reply) : State :=
  let ok := decide (r.status = 0)
  if ok && !s.barrierWait n num then s.finish n num 0 (replyFlags r) 1 r.value.toNat
  else s.finishOpen n num r.status.toNat (replyFlags r) (if ok then 1 else 0) 0 allBits

/-- The lines of a COPY's load arrive. -/
def State.copyLoadReply (s : State) (n num off : Nat) (e : EngineReq) (r : Reply) : State :=
  match s.started n num with
  | none => s
  | some d =>
    if r.status ≠ 0 then s.failCopy n num off r.status.toNat e.req.ga.toNat
    else if d.fail.isSome then s
    else s.placeData n num d.line off (r.data.map fun l => l.getD 0)

/-- A reply to a request of a ring. -/
def State.descReply (s : State) (e : EngineReq) (r : Reply) : State :=
  let n := e.unit - 0x1300
  let s := (s.dropEngine e).dropReply r
  match e.purpose with
  | .copyLoad num off => s.copyLoadReply n num off e r
  | .copyStore num off => if r.status = 0 then s else s.failCopy n num off r.status.toNat e.req.ga.toNat
  | .remote num => s.opReply n num r
  | .signal num => s.opReply n num r
  | .wait num => s.opReply n num r
  | _ => s

/-! ## Completion records and interrupts (R350-R352) -/

/-- MSI-X (R352): the vector is signalled on the active controller's port, or set pending while its entry is masked. -/
def State.msix (s : State) (v : Nat) : State :=
  let p := s.controller
  if (s.getR (Reg.msixTable p v + 12)).getLsbD 0 then
    let a := Reg.msixPba p (v / 32)
    s.setR a (s.getR a ||| BitVec.ofNat 32 (2 ^ (v % 32)))
  else { s with host := { s.host with signals := s.host.signals ++ [v] } }

/-- A completion ring signals its vector. -/
def State.cqSignal (s : State) (m : Nat) : State :=
  (s.modCq m fun c => { c with since := 0 }).msix (s.getF (Reg.cqVector m))

/-- The 32 B of a completion record (R350). -/
def Rec.bytes (r : Rec) (phase : Nat) : List Byte :=
  bytesOfNat 4 r.tag ++ bytesOfNat 1 r.status ++ bytesOfNat 1 (phase + r.flags) ++ [0, 0] ++ bytesOfNat 8 r.progress ++
    bytesOfNat 8 r.stime ++ bytesOfNat 8 r.detail

/-- A host address in two registers. -/
def State.hostAddr (s : State) (lo : Nat) : Nat := (s.getR lo).toNat + (s.getR (lo + 4)).toNat * 2 ^ 32

/-- The oldest record that waits is written (R351), and its vector is signalled by the first of the triggers of R352. -/
def State.writeCompletion (s : State) (m : Nat) (r : Rec) : State :=
  let w := s.getF (Reg.cqWritten m)
  let phase := 1 - w / s.cqSize m % 2
  let s := s.hostWrite (s.hostAddr (Reg.cq m) + 32 * (w % s.cqSize m)) (r.bytes phase)
  let s := s.setF (Reg.cqWritten m) ((w + 1) % 2 ^ 32)
  let s := s.modCq m fun c =>
    { c with waiting := c.waiting.drop 1, since := c.since + 1, firstAt := if c.since = 0 then s.clk.now else c.firstAt }
  let s := (s.modSq r.ring fun q => { q with started := q.started.filter fun (x : Started) => !(x.num == r.num && x.finished) })
  let s := ((s.countStarted r.ring).refreshCq m).noteFull m
  if r.irq ∨ s.getF (Reg.cqIrqCount m) ≤ (s.cq m).since ∨ s.getF (Reg.cqDelay m) = 0 then s.cqSignal m else s

/-- COMPLETION_RECORD_WRITE (R351, R356): a record is written while a slot is free; a write that the host fails halts every
ring that names the completion ring. -/
def execCompletionRecordWrite (m : RingN) (hostOk : Bool) (s : State) : Out := s.live fun s =>
  let i := m.val
  match (s.cq i).waiting with
  | [] => .next s
  | r :: _ =>
    if !s.on (Reg.cqValid i) ∨ s.cqSize i ≤ ahead (s.getF (Reg.cqWritten i)) (s.cq i).head ∨ s.hostPort.isNone then .next s
    else if hostOk then .next (s.writeCompletion i r)
    else .next ((List.range 256).foldl (fun s n => if s.getF (Reg.sqCq n) = i then s.haltRing n 3 else s) s)

/-- CQ_IRQ_DELAY (R352): DELAY_US after the first record written since the last signal. -/
def execCqIrqDelay (m : RingN) (s : State) : Out := s.live fun s =>
  let c := s.cq m
  .next (if 0 < c.since ∧ c.firstAt + 1000 * s.getF (Reg.cqDelay m) ≤ s.clk.now then s.cqSignal m else s)

/-! ## The event ring (R353) -/

/-- The 32 B of an event record (R14). -/
def EventRec.bytes (e : EventRec) : List Byte :=
  bytesOfNat 2 e.code ++ bytesOfNat 2 e.unit ++ bytesOfNat 2 e.node ++ [0, 0] ++ bytesOfNat 8 e.stime ++
    bytesOfNat 16 (Config.eventDetailBytes (BitVec.ofNat 16 e.code) e.detail).toNat

/-- A record is written to the event ring, and vector 0 is signalled (R352). -/
def State.writeEvent (s : State) (e : EventRec) : State :=
  let w := s.host.evrWritten
  let s := s.hostWrite (s.hostAddr Reg.evrBaseLo + 32 * (w % s.evrSize)) e.bytes
  let s := { s with host := { s.host with evrWritten := (w + 1) % 2 ^ 32 } }
  ((s.bump (Reg.ringCnt 8) 1).refreshEvr).msix 0

/-- EVENT_RECORD_WRITE (R353): the oldest event staged in a hub is written while the event ring has a free slot; the count
of events lost is written first. In DARK the events of other dies stay in their hubs (R255). -/
def execEventRecordWrite (hub : PortN) (s : State) : Out := s.live fun s =>
  let p := hub.val
  if (p < 28 ∧ s.getF Reg.fabric < 2) ∨ !s.on Reg.evrValid ∨ s.evrNoRoom ∨ s.hostPort.isNone then .next s
  else
    let s := if s.ev.lost = 0 then s
      else
        let e : EventRec := ⟨0x6004, 0x1200 + s.controller, s.getF Reg.wtyNode, s.clk.now, [s.ev.lost]⟩
        { s with ev := { s.ev with lost := 0 } }.writeEvent e
    match Tbl.look (fun _ => []) s.ev.staged p with
    | [] => .next s
    | e :: r =>
      if s.evrNoRoom then .next s
      else .next ({ s with ev := { s.ev with staged := Tbl.put (fun _ => []) s.ev.staged p r } }.writeEvent e)

/-! ## Enabling and disabling (R351, R354) -/

/-- A configuration write that is ignored (R351, R354, R356). -/
def State.cfgIgnored (s : State) (n : Nat) : State := s.setB (Reg.sqCfgIgnored n) true

/-- RING_ENABLE (R351, R354): a stopped ring runs from slot 0, if its completion ring is valid. -/
def State.ringEnable (s : State) (n : Nat) : State :=
  let st := s.getF (Reg.sqState n)
  if st = 2 then s.cfgIgnored n
  else if st ≠ 0 then s
  else if !s.on (Reg.cqValid (s.getF (Reg.sqCq n))) then s.cfgIgnored n
  else
    let s := ((s.setB (Reg.sqEnable n) true).setF (Reg.sqState n) 1).setF (Reg.sqHaltCause n) 0
    (s.setF (Reg.sqFetched n) 0).setSq n Sq.zero

def execRingEnable (n : RingN) (s : State) : Out := s.live fun s => .next (s.written (Reg.sq n) fun s => s.ringEnable n)

/-- Every descriptor fetched and not started completes NOT_STARTED with cause 0 (R354). -/
def State.dropQueue (s : State) (n : Nat) : State :=
  (s.sq n).queue.foldl (fun s d => (s.beginDesc n d).finish n d.num 0x02 0 0 0) s

/-- A LAUNCH's course is stopped (R354, R94). -/
def State.stopCourse (s : State) (n num : Nat) : State :=
  match s.courses.find? (fun (c : Course) => c.ring == n && c.num == num) with
  | none => s
  | some c =>
    if c.claimed then c.members.foldl (fun s u =>
      match (s.tile u).member with
      | some m => if m.group = c.group then s.stopMember u .ringDisabled else s
      | none => s) s
    else { s with courses := s.courses.erase c }.finishOpen n num 0x01 0 0 (c.group * 2 ^ 16) launchOpen

/-- A PLAIT's descriptor completes PARTIAL, and its group goes on by itself (R354). -/
def State.detachPlait (s : State) (n : Nat) (d : Started) : State :=
  let g := dfield d.line 8 2
  let away := 0x10000
  let count := match s.plait g with | some x => x.count | none => 0
  let s := s.modPlait g fun x => if x.ring = n ∧ x.num = d.num then { x with ring := away } else x
  let s := match s.forwarder g with
    | some f => if f.ring = n ∧ f.num = d.num then s.setForwarder g (some { f with ring := away }) else s
    | none => s
  s.finish n d.num 0x01 0 count (g + dfield d.line 14 2 * 2 ^ 16)

/-- What the disabling of its ring does to a started descriptor (R354). -/
def State.stopDesc (s : State) (n : Nat) (d : Started) : State :=
  if d.finished then s
  else
    match descOpcode d.line with
    | 1 => s.stopCourse n d.num
    | 2 => if d.quantum = 0 then s.finishOpen n d.num 0x01 0 d.progress 0 allBits else s.modStarted n d.num fun d => { d with stopping := true }
    | 3 => if d.quantum = 0 then s.finishOpen n d.num 0x01 0 d.progress 0 allBits else s.modStarted n d.num fun d => { d with stopping := true }
    | 5 => s.detachPlait n d
    | 7 => s.withdrawDesc n d.num 0x01
    | 10 => s.finishOpen n d.num 0x01 0 0 0 allBits
    | _ => s

/-- RING_DISABLE (R354): fetch stops, and the ring drains. -/
def State.ringDisable (s : State) (n : Nat) : State :=
  let st := s.getF (Reg.sqState n)
  if st ≠ 1 ∧ st ≠ 3 then s
  else
    let s := (s.setB (Reg.sqEnable n) false).setF (Reg.sqState n) 2
    let s := s.modSq n fun q => { q with notStarted := 0, partials := 0 }
    let s := s.dropQueue n
    (s.sq n).started.foldl (fun s d => s.stopDesc n d) s

def execRingDisable (n : RingN) (s : State) : Out := s.live fun s => .next (s.written (Reg.sq n) fun s => s.ringDisable n)

/-- RING_STOPPED (R354): every started descriptor has completed and its record is written. -/
def execRingStopped (n : RingN) (s : State) : Out := s.live fun s =>
  let q := s.sq n
  .next (if s.getF (Reg.sqState n) = 2 ∧ q.started.isEmpty ∧ q.queue.isEmpty then
    (s.setF (Reg.sqState n) 0).raise 0x6001 (ringUnit n) [n.val, q.notStarted, q.partials]
  else s)

/-- RINGS_DISABLED_NO_LINK (R324): neither port has had a link for 100 ms, and every enabled ring is disabled. -/
def execRingsDisabledNoLink (s : State) : Out := s.live fun s =>
  match s.host.noLinkSince with
  | none => .next s
  | some t =>
    if s.clk.now < t + 100000000 ∨ s.host.disabledRings.isSome then .next s
    else
      let on := (List.range 256).filter fun n => s.getF (Reg.sqState n) == 1 || s.getF (Reg.sqState n) == 3
      let s := on.foldl (fun s n => s.ringDisable n) s
      .next { s with host := { s.host with disabledRings := some on.length } }

end Sys2Proof.Machine
end

