-- ==== Sys2Proof/Machine/Withy.lean ====
section
/-!
DEFINITION. The Withy ports: training, codewords, routing, proxies, time across nodes, and replies to engines (R360-R385).
-/
namespace Sys2Proof.Machine

/-! ## Training and failure (R364, R371) -/

/-- The register of a fibre's peer (R383). -/
def peerWord (node : BitVec 16) (die : IoN) (fibre : FibreN) (cap : BitVec 4) : W32 :=
  BitVec.ofNat 32 (node.toNat + die.val * 2 ^ 16 + fibre.val * 2 ^ 17 + cap.toNat * 2 ^ 21 + 2 ^ 31)

/-- A fibre's training begins. -/
def State.startTraining (s : State) (n f : Nat) : State :=
  let s := (s.setF (Reg.fibState n f) 1).setF (Reg.fibActive n f) 0
  (s.modFib n f fun x => { x with up := false, down := false, trainSince := s.clk.now }).refreshWithy n

/-- A fibre is enabled or disabled: it trains while it has ENABLE and the node an ID, and a failed fibre stays failed (R364, R371). -/
def State.fibreEnable (s : State) (n f : Nat) (enable : Bool) : State :=
  let was := s.on (Reg.fibEnable n f)
  let s := s.setB (Reg.fibEnable n f) enable
  if was = enable ∨ s.getF (Reg.fibState n f) = 5 then s
  else if enable then (if s.getF Reg.wtyNode = 0xFFFF then s else s.startTraining n f)
  else
    let s := (s.setF (Reg.fibState n f) 0).setF (Reg.fibActive n f) 0
    (s.modFib n f fun x => { x with up := false, down := false, trainSince := s.clk.now }).refreshWithy n

/-- WITHY_FIBRE_ENABLE (R364): a write of WTY_FIBRE_CTRL.ENABLE. -/
def execWithyFibreEnable (n : IoN) (f : FibreN) (enable : Bool) (s : State) : Out := s.live fun s => .next (s.written (Reg.wty n) fun s => s.fibreEnable n f enable)

/-- A write of RETRAIN: full training, which clears a failed state (R383). -/
def State.fibreRetrain (s : State) (n f : Nat) : State :=
  if s.on (Reg.fibEnable n f) ∧ s.getF Reg.wtyNode ≠ 0xFFFF then (s.bump (Reg.wtyCnt n 6) 1).startTraining n f
  else if s.getF (Reg.fibState n f) = 5 then (s.setF (Reg.fibState n f) 0).refreshWithy n
  else s

/-- WITHY_RETRAIN (R383). -/
def execWithyRetrain (n : IoN) (f : FibreN) (s : State) : Out := s.live fun s => .next (s.written (Reg.wty n) fun s => s.fibreRetrain n f)

/-- The positions of a direction (R364 step 4): the lowest healthy colours. -/
def positionsOf (healthy : Nat) : List Nat :=
  let c := coloursOf healthy
  if 16 ≤ c.length then c.take 16 else if 8 ≤ c.length then c.take 8 else []

/-- Flits of one class among unacknowledged codewords. -/
def classFlits (replay : List (Nat × List WithyFlit)) (tc : Nat) : Nat :=
  (replay.map fun e => (e.2.filter fun x => x.tc.toNat == tc).length).sum

/-- Whether the lasers that transmit from a die are on grid (R361, R364): every index is lit, but for one without a serviceable
laser, whose colour is out of service (R372). GRID_LOCKED is of fabric indexes only (R257). -/
def State.withyOnGrid (s : State) (n : Nat) : Bool :=
  (List.range 18).all fun j =>
    let l := 288 + 18 * n + j
    s.getF (Reg.lsrServing l) != 0 || (!s.laserOk l false && !s.laserOk l true)

/-- A fibre has trained (R364 steps 4 and 5). -/
def State.fibreTrained (s : State) (n f : Nat) (tx rx : List Nat) : State :=
  let narrow := min tx.length rx.length
  let s := (s.setF (Reg.fibState n f) (if narrow = 16 then 2 else 3)).setF (Reg.fibActive n f) narrow
  let s := s.modFib n f fun x =>
    { x with tx := tx, rx := rx, up := true, down := false, skip := false, nakAt := none, rest := [], errors := [], returned := [0, 0, 0, 0],
             given := [0, 0, 0, 0], used := (List.range 4).map (classFlits x.replay) }
  s.fibReplayAll n f

/-- WITHY_UP (R364): training completes; the peer's masks, identity and round trip are what KIND 6 flits carried. -/
def execWithyUp (n : IoN) (f : FibreN) (peerNode : BitVec 16) (peerDie : IoN) (peerFibre : FibreN) (peerCap : BitVec 4)
    (healthy txHealthy : BitVec 18) (rtt : Nat) (s : State) : Out := s.live fun s =>
  let st := s.getF (Reg.fibState n f)
  if (st ≠ 1 ∧ st ≠ 4) ∨ !s.on (Reg.fibEnable n f) ∨ s.getF Reg.wtyNode = 0xFFFF ∨ peerNode.toNat = s.getF Reg.wtyNode ∨
      !s.withyOnGrid n then .next s
  else
    let s := s.setR (Reg.fibPeer n f) (peerWord peerNode peerDie peerFibre peerCap)
    let s := s.setF (Reg.fibHealthy n f) healthy.toNat
    let s := s.modFib n f fun x => { x with txHealthy := txHealthy.toNat, rtt := rtt }
    let tx := positionsOf txHealthy.toNat
    let rx := positionsOf healthy.toNat
    if tx.isEmpty ∨ rx.isEmpty then .next (s.fibFailed n f)
    else
      let s := (s.fibreTrained n f tx rx).raise 0x2F01 (wtyUnit n)
        [n, f, peerNode.toNat, peerDie, peerFibre, min tx.length rx.length]
      .next ((s.refreshSpares n f).refreshWithy n)

/-- WITHY_ALIGNMENT_LOST (R371): the direction goes down, and retrains at once. -/
def execWithyAlignmentLost (n : IoN) (f : FibreN) (s : State) : Out := s.live fun s =>
  if !(s.fib n f).up then .next s else .next ((s.bump (Reg.wtyCnt n 6) 1).startTraining n f)

/-! ## Routing (R363, R366, R373-R375) -/

/-- Credit for a class (R366): 64 flits of TC3; for TC0 to TC2 the 512 reserved, then what is left of the shared pool. -/
def WFib.credit (x : WFib) (tc : Nat) : Bool :=
  let used := x.used.getD tc 0
  if tc = 3 then decide (used < 64)
  else
    let shared := ((List.range 3).map fun c => x.used.getD c 0 - 512).sum
    decide (used < 512 ∨ shared < 8192 - 3 * 512)

/-- Whether a fibre takes a flit now: it runs, its replay buffer has room, and it has credit. -/
def State.fibreTakes (s : State) (k tc : Nat) : Bool :=
  let x := s.fib (k / 16) (k % 16)
  x.up && decide (x.replay.length < 4096) && x.credit tc

/-- A flit leaves on a fibre, in a sequenced codeword. -/
def State.launchWithy (s : State) (k : Nat) (flit : WithyFlit) : State :=
  let n := k / 16
  let tc := flit.tc.toNat
  let s := s.modFib n (k % 16) fun x =>
    { x.coded x.txSeq [flit] with
             txSeq := (x.txSeq + 1) % 2 ^ 18, replay := x.replay ++ [(x.txSeq, [flit])],
             ackAt := if x.replay.isEmpty then s.clk.now else x.ackAt, used := setNth x.used tc (x.used.getD tc 0 + 1) }
  let sent := s.net.withy ++ [(k, flit)]
  { s with net := { s.net with withy := sent } }.bump (Reg.wtyCnt n 0) 1

/-- A Withy flit as the hubs carry it: its tag and its payload. -/
def flitOfWithy (x : WithyFlit) : Flit :=
  taggedFlit 0 (if x.reply then 1 else 0) x.srcUnit.toNat x.seq.toNat x.inc.toNat x.payload.toNat

/-- Whether a flit continues a request or reply (R273, R274). -/
def withyCont (x : WithyFlit) : Bool := flitCont (flitOfWithy x)

/-- Whether two flits are of one request or reply. -/
def sameFlit (x y : WithyFlit) : Bool :=
  x.destNode == y.destNode && x.srcNode == y.srcNode && x.srcUnit == y.srcUnit && x.seq == y.seq && x.inc == y.inc &&
    x.reply == y.reply

/-- The fibre whose turn it is among the usable ones, after the last that took a request (R373): one at 8 positions lets every
second turn pass. -/
def State.fibreTurn (s : State) : List Nat → State × Option Nat
  | [] => (s, none)
  | k :: r =>
    let half := s.getF (Reg.fibState (k / 16) (k % 16)) == 3
    if half && (s.fib (k / 16) (k % 16)).skip then
      (s.modFib (k / 16) (k % 16) fun x => { x with skip := false }).fibreTurn r
    else (if half then s.modFib (k / 16) (k % 16) fun x => { x with skip := true } else s, some k)

/-- The usable fibres in the order of their turns. -/
def turnOrder (last : Nat) (ks : List Nat) : List Nat := ks.filter (fun k => decide (last < k)) ++ ks.filter fun k => decide (k ≤ last)

/-- A fibre named in an entry but trained to another peer is reported (R373). -/
def State.peerMismatch (s : State) (version node : Nat) : State :=
  let e := s.routeEntry version node
  if !routeValid e then s
  else
    (List.range 32).foldl (fun s k =>
      let peer := s.getF (Reg.fibPeerNode (k / 16) (k % 16))
      if e.1.getLsbD k && s.fibreUp (k / 16) (k % 16) && peer != routeNext e then
        s.raiseLimited 0x2F09 (wtyUnit (k / 16)) k [k / 16, k % 16, routeNext e, peer]
      else s) s

/-- A flit finds no usable fibre: it is discarded, counted, and NO_ROUTE of this frame. -/
def State.noRoute (s : State) (n node : Nat) : State := (s.bump (Reg.wtyCnt n 8) 1).accItem 0x2F08 (wtyUnit n) node

/-- The fibre on which the earlier flits of a request or reply left. -/
def State.fibreOf (s : State) (ks : List Nat) (flit : WithyFlit) : Option Nat :=
  (s.net.withy.reverse.find? fun e => sameFlit flit e.2 && decide (e.1 ∈ ks)).map Prod.fst

/-- A flit is routed by a version, over the fibres that `mine` allows: on the fibre of its first flit, or by turn. `sent` and
`none_` act on the state when it leaves and when no fibre is usable; a flit without credit waits. -/
def State.routeFlit (s : State) (version : Nat) (mine : Nat → Bool) (flit : WithyFlit) (sent none_ : State → State) : State :=
  let node := flit.destNode.toNat
  let s := if withyCont flit then s else s.peerMismatch version node
  let ks := (s.usableFibres version node).filter mine
  let next := routeNext (s.routeEntry version node)
  let again := if withyCont flit then s.fibreOf ks flit else none
  match again with
  | some k => if s.fibreTakes k flit.tc.toNat then sent (s.launchWithy k flit) else s
  | none =>
    if ks.isEmpty then none_ s
    else
      let last := Tbl.look (fun _ => 31) s.withy.turn next
      let order := turnOrder last ks
      match s.fibreTurn (order ++ order) with
      | (s', some k) =>
        if s.fibreTakes k flit.tc.toNat then
          let s' := { s' with withy := { s'.withy with turn := Tbl.put (fun _ => 31) s'.withy.turn next k } }
          sent (s'.launchWithy k flit)
        else s
      | (_, none) => s

def State.setWtyOffset (s : State) (x : Int) : State :=
  let w := BitVec.ofInt 64 x
  (s.setF Reg.wtyOffsetLo (w.toNat % 2 ^ 32)).setF Reg.wtyOffsetHi (w.toNat / 2 ^ 32)

/-- DEADLINE in the first flit of a request, bytes 40 to 47, becomes system time (R374 step 3). -/
def State.toSystem (s : State) (x : WithyFlit) : WithyFlit :=
  if x.reply || withyCont x || x.kind != 1#3 then x
  else
    let old : Nat := x.payload.toNat / 2 ^ 320 % 2 ^ 64
    let new := (((old : Int) + s.wtyOffset) % 2 ^ 64 : Int).toNat
    { x with payload := BitVec.ofNat 1920 (x.payload.toNat - old * 2 ^ 320 + new * 2 ^ 320) }

/-- The I/O hub to which a source's hub sends its next request or reply for another node (R374 step 1). -/
def State.ioTurn (s : State) (unit : Nat) : Nat := 28 + Tbl.look (fun _ => 0) s.withy.hubTurn (s.hubOf unit) % 4
def State.passTurn (s : State) (unit : Nat) : State :=
  let h := s.hubOf unit
  let t := Tbl.look (fun _ => 0) s.withy.hubTurn h
  { s with withy := { s.withy with hubTurn := Tbl.put (fun _ => 0) s.withy.hubTurn h ((t + 1) % 4) } }

/-- A flit that leaves takes its request, or its waiting reply, out of the package. -/
def State.leftPackage (s : State) (x : WithyFlit) : State :=
  if x.reply then
    let left := s.withy.outbound.filter fun e =>
      !(e.2.srcNode == x.destNode && e.2.srcUnit == x.srcUnit && e.2.seq == x.seq && e.2.inc == x.inc)
    { s with withy := { s.withy with outbound := left } }
  else
    let left := s.net.reqs.filter fun r =>
      !(r.srcUnit == x.srcUnit && r.seq == x.seq && r.inc == x.inc && s.isHere r.srcNode.toNat)
    { s with net := { s.net with reqs := left } }

/-- WITHY_OUTBOUND_FLIT (R374): a flit for another node is routed by the active version, with HOPS 0 and DEADLINE in system
time, on a usable fibre of either die. The first flit of a request comes to the die whose hub has the turn. -/
def execWithyOutboundFlit (n : IoN) (flit : WithyFlit) (s : State) : Out := s.live fun s =>
  let v := s.getF Reg.wtyActive
  let u := flit.srcUnit.toNat
  let turns := !withyCont flit && !flit.reply
  if flit.destNode.toNat = s.getF Reg.wtyNode ∨ (turns ∧ (s.ioTurn u - 28) / 2 ≠ n.val) then .next s
  else
    let x := s.toSystem { flit with epoch := decide (v = 1), hops := 0 }
    .next (s.routeFlit v (fun _ => true) x (fun s => (if turns then s.passTurn u else s).leftPackage x)
      fun s => s.noRoute n flit.destNode.toNat)

/-- A die holds a transit flit no more. -/
def State.leftTransit (s : State) (n : Nat) (x : WithyFlit) : State :=
  { s with withy := { s.withy with transit := s.withy.transit.erase (n, x) } }

/-- WITHY_TRANSIT_FLIT (R375): a flit for another node goes on by the version it names, on the same die; one without credit stays. -/
def execWithyTransitFlit (n : IoN) (flit : WithyFlit) (s : State) : Out := s.live fun s =>
  if flit.destNode.toNat = s.getF Reg.wtyNode then .next s
  else if flit.hops = 3 then .next ((s.leftTransit n flit).bump (Reg.wtyCnt n 9) 1)
  else
    .next (s.routeFlit flit.epoch.toNat (fun k => k / 16 == n.val) { flit with hops := flit.hops + 1 }
      (fun s => (s.leftTransit n flit).bump (Reg.wtyCnt n 7) 1) fun s => (s.leftTransit n flit).noRoute n flit.destNode.toNat)

/-- The unacknowledged flits of a fibre that is down leave on another usable fibre to the same node, or are discarded; those
that wait for credit stay (R371). -/
def State.resendFibre (s : State) (n f : Nat) : State :=
  let replay := (s.fib n f).replay
  let peer := s.getF (Reg.fibPeerNode n f)
  let s := s.modFib n f fun x => { x with replay := [] }
  replay.foldl (fun s cw => cw.2.foldl (fun s flit =>
    let v := flit.epoch.toNat
    let kept := fun (s : State) => s.modFib n f fun x => { x with replay := x.replay ++ [(cw.1, [flit])] }
    let here := decide (routeNext (s.routeEntry v flit.destNode.toNat) = peer)
    let ks := if here then (s.usableFibres v flit.destNode.toNat).filter fun k =>
      decide (k ≠ 16 * n + f) && (flit.hops == 0 || k / 16 == n) else []
    match ks, ks.find? (fun k => s.fibreTakes k flit.tc.toNat) with
    | [], _ => s.noRoute n flit.destNode.toNat
    | _, some k => s.launchWithy k flit
    | _, none => kept s) s) s

/-- A fibre is down (R371): STATE is 4 while it is enabled. -/
def State.fibreDown (s : State) (n f cause : Nat) : State :=
  let s := if (s.fib n f).down then s
    else
      let s := if s.getF (Reg.fibState n f) = 0 then s else (s.setF (Reg.fibState n f) 4).setF (Reg.fibActive n f) 0
      s.raise 0x2F02 (wtyUnit n) [n, f, cause]
  let s := s.modFib n f fun x => { x with down := true, up := false }
  (s.resendFibre n f).refreshWithy n

/-- WITHY_DOWN (R371): the fibre has stayed down for 1 ms, or a cold training has failed within 5 ms. -/
def execWithyDown (n : IoN) (f : FibreN) (cause : Nat) (s : State) : Out := s.live fun s =>
  let x := s.fib n f
  let st := s.getF (Reg.fibState n f)
  let wait := if cause = 1 then 5000000 else 1000000
  if x.up ∨ (st ≠ 0 ∧ st ≠ 1 ∧ st ≠ 4) ∨ (cause = 2) ≠ (st = 0) ∨ 3 < cause ∨ s.clk.now < x.trainSince + wait ∨
      (x.down ∧ x.replay.isEmpty) then .next s
  else .next (s.fibreDown n f cause)

/-! ## Codewords and link control (R363, R365) -/

/-- A NAK with the expected CW_SEQ, unless one was sent within the round trip plus 1 µs (R365). -/
def State.wtyNak (s : State) (n f : Nat) : State :=
  s.modFib n f fun x =>
    match x.nakAt with
    | some t => if s.clk.now < t + x.rtt + 1000 then x else { x with nakAt := some s.clk.now }
    | none => { x with nakAt := some s.clk.now }

/-- A flit of a request or reply for this node joins its assembly (R376). -/
def State.assemble (s : State) (n : Nat) (x : WithyFlit) : State :=
  let mine := fun (a : Assembly) =>
    a.die == n && a.node == x.srcNode.toNat && a.unit == x.srcUnit.toNat && a.inc == x.inc.toNat &&
      a.seq == x.seq.toNat && a.reply == x.reply
  let grow := fun (a : Assembly) => if x ∈ a.flits then a else { a with flits := a.flits ++ [x] }
  let asm := if s.withy.asm.any mine then s.withy.asm.map fun a => if mine a then grow a else a
    else s.withy.asm ++ [⟨n, x.srcNode.toNat, x.srcUnit.toNat, x.inc.toNat, x.seq.toNat, x.reply, s.clk.now, [x]⟩]
  { s with withy := { s.withy with asm := asm } }

/-- The message of an assembly, once every flit of it is here: its first flit and its continuation flits. -/
def Assembly.message (a : Assembly) : Option (Flit × List Flit) :=
  let fs := a.flits.map flitOfWithy
  fs.findSome? fun f => if flitCont f then none else completeMessage fs f

/-- A flit of an accepted codeword is received: its credit returns; one for this node joins its assembly, one for another waits
to go on. -/
def State.receiveWithy (s : State) (n f : Nat) (x : WithyFlit) : State :=
  if x.kind = 0 then s
  else
    let tc := x.tc.toNat
    let s := (s.modFib n f fun y => { y with given := setNth y.given tc ((y.given.getD tc 0 + 1) % 2 ^ 32) }).bump (Reg.wtyCnt n 1) 1
    if x.destNode.toNat = s.getF Reg.wtyNode then (if x.kind = 1 then s.assemble n x else s)
    else if x.kind = 1 ∨ x.kind = 4 then { s with withy := { s.withy with transit := s.withy.transit ++ [(n, x)] } }
    else s

/-- The colour errors of a codeword count at the receiver, which remembers those of the last 1 ms (R368). -/
def State.noteColours (s : State) (n f : Nat) (word : CwRead) (margin : Nat) : State :=
  let bad := wordColourErrors (s.fib n f).rx word margin
  let s := s.modFib n f fun x =>
    { x with errors := x.errors.filter (fun e => decide (s.clk.now < e.2 + 1000000)) ++ bad.map fun j => (j, s.clk.now) }
  if bad.isEmpty then s else s.bump (Reg.wtyCnt n 5) bad.length

/-- WITHY_CODEWORD_RECEIVE (R362, R365, R368): a sequenced codeword in order is accepted and its flits are delivered; an
uncorrectable one, or one out of order, is answered with a NAK, and so is one in which the CRC of a flit fails (log entry 147).
`control` and `data` are the symbols of the codeword as decoded, `margin` the colours whose margin monitor found more than 1 symbol in 4,096 in its guard
band. -/
def execWithyCodewordReceive (n : IoN) (f : FibreN) (failed : Bool) (corrected : List (Fin 544)) (control : BitVec 20) (data : List (BitVec 10))
    (margin : BitVec 18) (s : State) : Out := s.live fun s =>
  let word := wordRead failed corrected control data
  if !(s.fib n f).up then .next s
  else
    let s := s.noteColours n f word margin.toNat
    if word.failed then .next ((s.bump (Reg.wtyCnt n 4) 1).wtyNak n f)
    else
      let s := if word.corrected.isEmpty then s else s.bump (Reg.wtyCnt n 3) word.corrected.length
      let cut := wordFlits (s.fib n f).rest word.symbols
      let flits := cut.1.map withyOf
      if !wordSequenced word.symbols then .next s
      else if wordSeq word.symbols ≠ (s.fib n f).expect ∨ flits.any (fun x => x.isNone) then .next (s.wtyNak n f)
      else
        let s := s.modFib n f fun x => { x with expect := (x.expect + 1) % 2 ^ 18, nakAt := none, rest := cut.2 }
        .next ((flits.filterMap id).foldl (fun s x => s.receiveWithy n f x) s)

/-- Codewords up to and including an acknowledged sequence leave the replay buffer. -/
def WFib.acked (x : WFib) (cw now : Nat) : WFib :=
  if x.replay.any (fun e => e.1 == cw) then { x with replay := (x.replay.dropWhile fun e => e.1 != cw).drop 1, ackAt := now } else x

/-- What this end sends in its next KIND 5 flit (R363): the highest CW_SEQ received in order, the CW_SEQ that a NAK names, the
running counts of credits returned, and the receive colours that are suspect. -/
def State.linkControl (s : State) (n f : Nat) : Nat × Option Nat × List Nat × Nat :=
  let x := s.fib n f
  ((x.expect + 2 ^ 18 - 1) % 2 ^ 18, x.nakAt.map fun _ => x.expect, x.given, 2 ^ 18 - 1 - s.getF (Reg.fibHealthy n f))

/-- The peer's running counts of credits returned: only their growth counts (R363). -/
def WFib.credited (x : WFib) (counts : List Nat) : WFib :=
  (List.range 4).foldl (fun (x : WFib) tc =>
    let c := counts.getD tc 0 % 2 ^ 32
    let grown := (c + 2 ^ 32 - x.returned.getD tc 0) % 2 ^ 32
    { x with used := setNth x.used tc (x.used.getD tc 0 - grown), returned := setNth x.returned tc c }) x

/-- WITHY_LINK_CONTROL (R363): a KIND 5 flit. Its suspect colours are those of this end's transmit direction (R368-R370). -/
def execWithyLinkControl (n : IoN) (f : FibreN) (ack : BitVec 18) (nak : Option (BitVec 18)) (credits : List Nat)
    (suspect : BitVec 18) (s : State) : Out := s.live fun s =>
  if !(s.fib n f).up then .next s
  else
    let s := s.modFib n f fun x => (x.acked ack.toNat s.clk.now).credited credits
    let s := match nak with
      | some q => s.fibReplay n f q.toNat
      | none => s
    .next ((coloursOf suspect.toNat).foldl (fun s j =>
      let x := s.fib n f
      let mask := setBit x.txHealthy j false
      if x.txHealthy.testBit j then (s.modFib n f fun x => { x with txHealthy := mask }).loseColour n f false j mask else s) s)

/-- WITHY_REPLAY_TIMEOUT (R365): the round trip plus 1 µs has passed without an acknowledgement, and the sender replays from its
oldest unacknowledged codeword. -/
def execWithyReplayTimeout (n : IoN) (f : FibreN) (s : State) : Out := s.live fun s =>
  let x := s.fib n f
  .next (if x.up ∧ x.ackAt + x.rtt + 1000 ≤ s.clk.now then s.fibReplayAll n f else s)

/-! ## Proxies (R376) -/

/-- The unit as which an I/O die proxies. -/
def proxyUnit (n : Nat) : Nat := 0x1210 + n

/-- Assemblies of one request or reply end. -/
def State.dropAssembly (s : State) (n node unit inc seq : Nat) (reply : Bool) : State :=
  let left := s.withy.asm.filter fun a =>
    !(a.die == n && a.node == node && a.unit == unit && a.inc == inc && a.seq == seq && a.reply == reply)
  { s with withy := { s.withy with asm := left } }

/-- The proxied request with a remote tag. -/
def State.proxiedFor (s : State) (n : Nat) (r : Req) : Option Proxied :=
  s.withy.proxied.find? fun p =>
    p.die == n && p.node == r.srcNode.toNat && p.unit == r.srcUnit.toNat && p.inc == r.inc.toNat && p.seq == r.seq.toNat

/-- A reply waits for the fibres to its node. -/
def State.answerNode (s : State) (port : Nat) (r : Reply) : State :=
  { s with withy := { s.withy with outbound := s.withy.outbound ++ [(port, r)] } }

/-- The proxied request enters the package under the proxy's own sequence and the control incarnation. -/
def State.proxy (s : State) (n : Nat) (r : Req) : State :=
  let u := proxyUnit n
  let seq := Tbl.look (fun _ => 0) s.host.seqs u
  let p : Proxied := ⟨n, r.srcNode.toNat, r.srcUnit.toNat, r.inc.toNat, r.seq.toNat, r.replyPort.val, r.opc.toNat, seq, r.deadline⟩
  let s := { s with withy := { s.withy with proxied := s.withy.proxied ++ [p] } }
  s.engineSend u (.proxy r.srcNode.toNat r.srcUnit.toNat r.inc.toNat r.seq.toNat) fun s seq =>
    { r with srcUnit := BitVec.ofNat 16 u, seq := BitVec.ofNat 24 seq, inc := BitVec.ofNat 8 (s.incOf u), retry := false,
             remote := true, replyPort := Fin.ofNat 32 (28 + 2 * n), rack := none }

/-- The assembly of a message with a tag on a die. -/
def State.assemblyOf (s : State) (n node unit inc seq : Nat) (reply : Bool) : Option Assembly :=
  s.withy.asm.find? fun a => a.die == n && a.node == node && a.unit == unit && a.inc == inc && a.seq == seq && a.reply == reply

/-- The request that an I/O die has assembled under a tag (R376): none while flits of it are missing. -/
def State.assembledReq (s : State) (n : Nat) (r : Req) : Option Req :=
  match s.assemblyOf n r.srcNode.toNat r.srcUnit.toNat r.inc.toNat r.seq.toNat false with
  | none => some r
  | some a => a.message.map fun m => { reqOfFlits r.srcNode.toNat m.1 m.2 with srcNode := r.srcNode }

/-- The reply that an I/O die has assembled under a tag. -/
def State.assembledReply (s : State) (n : Nat) (r : Reply) : Option Reply :=
  match s.assemblyOf n r.srcNode.toNat r.srcUnit.toNat r.inc.toNat r.seq.toNat true with
  | none => some r
  | some a => a.message.map fun m =>
    replyOfFlits r.srcNode.toNat (s.linesAsked r.srcUnit.toNat r.seq.toNat r.data.length) m.1 m.2

/-- Whether a proxy refuses a request itself (R261): it names a reserved range. -/
def proxyRefuses (r : Req) : Bool := r.opc.toNat / 8 != 3 && r.opc != 0x10 && laReserved (gaLa r.ga)

/-- WITHY_INBOUND_REQUEST (R376): a request of another node, whose DEADLINE is in system time, is discarded, answered from the
proxy's ledger, absorbed, refused where it names a reserved range, or issued in the package. One that is being assembled from the
die's flits is taken as they spell it, once all are here. -/
def execWithyInboundRequest (n : IoN) (r : Req) (s : State) : Out := s.live fun s =>
  if s.isHere r.srcNode.toNat then .next s
  else match s.assembledReq n r with
  | none => .next s
  | some r =>
    let s := s.dropAssembly n r.srcNode.toNat r.srcUnit.toNat r.inc.toNat r.seq.toNat false
    let r := { r with deadline := ((r.deadline : Int) - s.wtyOffset).toNat }
    .next (s.atTargetBy (fun s a => s.answerNode r.replyPort a) (fun s a => s.answerNode r.replyPort a) (0x1200 + n.val) r (r.opc != 1) noPage fun s =>
      if (s.proxiedFor n r).isSome then (s, none)
      else if proxyRefuses r then (s, some (Answer.refuse 0x12 0))
      else (s.proxy n r, none))

/-- WITHY_ASSEMBLY_TIMEOUT (R376): an assembly is still incomplete 64 µs after its first flit. -/
def execWithyAssemblyTimeout (n : IoN) (srcNode srcUnit : BitVec 16) (inc : Byte) (seq : BitVec 24) (s : State) : Out := s.live fun s =>
  let old := s.withy.asm.filter fun a =>
    a.die == n.val && a.node == srcNode.toNat && a.unit == srcUnit.toNat && a.inc == inc.toNat && a.seq == seq.toNat &&
      decide (a.first + 64000 ≤ s.clk.now) && a.message.isNone
  if old.isEmpty then .next s
  else
    .next ({ s with withy := { s.withy with asm := s.withy.asm.filter fun a => !decide (a ∈ old) } }.bump (Reg.wtyCnt n 11) old.length)

/-- A reply is acknowledged to its target (R279), unless a retry was sent. -/
def State.ackReply (s : State) (e : EngineReq) (r : Reply) : State :=
  let a := (e.unit, r.seq)
  if e.retries ≠ 0 ∨ r.opc.toNat = opcRim ∨ a ∈ s.net.acks then s else { s with net := { s.net with acks := s.net.acks ++ [a] } }

/-- WITHY_PROXY_REPLY (R376): the reply is recorded, except a LOAD's, acknowledged, and sent with the remote tag. -/
def execWithyProxyReply (n : IoN) (r : Reply) (s : State) : Out := s.live fun s =>
  let u := proxyUnit n
  match s.withy.proxied.find? (fun p => p.die == n.val && p.localSeq == r.seq.toNat),
        s.engine.find? (fun e => e.unit == u && e.seq == r.seq.toNat) with
  | some p, some e =>
    if r.srcUnit.toNat ≠ u ∨ r.srcNode.toNat ≠ p.node then .next s
    else
      let s := ((s.dropReply r).dropEngine e).ackReply e r
      let s := { s with withy := { s.withy with proxied := s.withy.proxied.erase p } }
      let h := 0x1200 + n.val
      let entry : LedgerEntry :=
        { node := p.node, unit := p.unit, inc := p.inc, seq := p.seq, opc := p.opc, status := r.status.toNat,
          saturated := r.saturated, offPackage := true, value := r.value, expires := p.deadline + 2000, spilled := false,
          page := noPage, durable := false, slot := none, control := false, latest := p.deadline, acked := false }
      let l := s.ledger h
      let s := if p.opc = 1 then s
        else (s.putLedger h { l with entries := l.entries ++ [entry] }).bump (Reg.ledgerCnt h 0) 1
      .next (s.answerNode p.port
        { r with srcUnit := BitVec.ofNat 16 p.unit, inc := BitVec.ofNat 8 p.inc, seq := BitVec.ofNat 24 p.seq })
  | _, _ => .next s

/-- WITHY_INBOUND_REPLY (R376): a reply for this node goes on to DEST_PORT unchanged; one that is being assembled, once all its
flits are here. -/
def execWithyInboundReply (n : IoN) (destPort : PortN) (r : Reply) (s : State) : Out := s.live fun s =>
  if !s.isHere r.srcNode.toNat ∨ s.getF (Reg.hubState destPort) = 3 then .next s
  else match s.assembledReply n r with
  | none => .next s
  | some r => .next ((s.dropAssembly n r.srcNode.toNat r.srcUnit.toNat r.inc.toNat r.seq.toNat true).reply r)

/-! ## Replies to the I/O engines and the rings (R341, R343, R344, R326, R209) -/

/-- ENGINE_REPLY: a reply reaches an engine of an I/O die, a ring unit or a hub's own engine. -/
def execEngineReply (r : Reply) (s : State) : Out := s.live fun s =>
  let u := r.srcUnit.toNat
  match s.engine.find? (fun e => e.unit == u && e.seq == r.seq.toNat) with
  | none => .next s
  | some e =>
    if !decide (r ∈ s.net.replies) ∨ !s.isHere r.srcNode.toNat ∨ r.inc ≠ e.req.inc then .next s
    else
      let s := s.ackReply e r
      .next (match e.purpose with
        | .aperRead port id la len => s.aperReadReply port id la len
        | .aperMerge port la bytes => s.aperMergeReply port la bytes e r
        | .aperWrite port la => s.aperWriteReply port la e r
        | .spoke hub op port idx => ((s.dropReply r).dropEngine e).spokeAck hub op port idx r.status.toNat
        | .plaitSignal g =>
          (match s.plait g with
            | some x => if x.phase = 3 then s else (s.dropReply r).dropEngine e
            | none => (s.dropReply r).dropEngine e)
        | .plaitStore _ _ => s
        | .proxy _ _ _ _ => s
        | _ => s.descReply e r)

/-! ## Route epochs (R377, R378, R383) -/

/-- The flip of the active version at a trowel tick (R377). -/
def State.flipEpoch (s : State) (v : Nat) : State :=
  let s := (s.setF Reg.wtyActive v).setB Reg.wtyDraining true
  { s with withy := { s.withy with flipFrame := s.clk.frame } }.raise 0x2F06 0x101C [v, s.clk.frame]

/-- The flits of a version that a die holds (R378): its transit flits, and the flits of a fibre that is down, which wait to leave
on another. What a running fibre has sent and not had acknowledged is on its way (log entry 148). -/
def State.heldFlits (s : State) (n : Nat) (old : Bool) : Nat :=
  (s.withy.transit.filter fun e => e.1 == n && e.2.epoch == old).length +
    ((List.range 16).map fun f => if (s.fib n f).up then 0
      else ((s.fib n f).replay.map fun cw => (cw.2.filter fun x => x.epoch == old).length).sum).sum

/-- A die discards the flits of a version that it holds, each counted. -/
def State.drain (s : State) (n : Nat) (old : Bool) : State :=
  let count := s.heldFlits n old
  let s := { s with withy := { s.withy with transit := s.withy.transit.filter fun e => !(e.1 == n && e.2.epoch == old) } }
  let s := (List.range 16).foldl (fun s f => if (s.fib n f).up then s
    else s.modFib n f fun x => { x with replay := (x.replay.map fun cw => (cw.1, cw.2.filter fun y => y.epoch != old)).filter fun cw => !cw.2.isEmpty }) s
  if count = 0 then s else s.bump (Reg.wtyCnt n 10) count

/-- ROUTE_DRAINED (R378): four frames after the flip each die discards the flits of the old version that it holds; the operands are
their numbers (log entry 10). -/
def execRouteDrained (discarded0 discarded1 : Nat) (s : State) : Out := s.live fun s =>
  if !s.on Reg.wtyDraining ∨ s.clk.frame < s.withy.flipFrame + 4 then .next s
  else
    let old := decide (s.getF Reg.wtyActive = 0)
    if discarded0 ≠ s.heldFlits 0 old ∨ discarded1 ≠ s.heldFlits 1 old then .next s
    else
      let s := (s.drain 0 old).drain 1 old
      .next ((s.setB Reg.wtyDraining false).raise 0x2F07 0x101C [1 - s.getF Reg.wtyActive, discarded0 + discarded1])

/-- A Withy block through which the package-wide registers are reached (R383): IO0's, or IO1's while IO0 is held out. -/
def State.wtyBlock (s : State) : Nat := if s.on (Reg.identHeldOut 28) then Reg.wty 1 else Reg.wty 0

/-- A write of WTY_RT_IDX loads the entry (R383). -/
def State.rtIdxWrite (s : State) (value : W32) : State :=
  let s := s.setR Reg.wtyRtNode.addr (value &&& 0x1FFFF#32)
  let e := s.routeEntry (s.getF Reg.wtyRtVersion) (s.getF Reg.wtyRtNode)
  (s.setR Reg.wtyRtLo.addr e.1).setR Reg.wtyRtHi.addr e.2

/-- WTY_RT_IDX_WRITE (R383). -/
def execWtyRtIdxWrite (value : W32) (s : State) : Out := s.live fun s => .next (s.written s.wtyBlock fun s => s.rtIdxWrite value)

/-- A write of WTY_RT_HI stores the entry, unless its version is active or draining (R378): then both dies' RT_IGNORED is set. -/
def State.rtHiWrite (s : State) (value : W32) : State :=
  let v := s.getF Reg.wtyRtVersion
  if v = s.getF Reg.wtyActive ∨ s.on Reg.wtyDraining then
    (s.setB (Reg.wtyRtIgnored 0) true).setB (Reg.wtyRtIgnored 1) true
  else
    let hi := value &&& 0x8001FFFF#32
    let s := s.setR Reg.wtyRtHi.addr hi
    let e := (s.getR Reg.wtyRtLo.addr, hi)
    { s with withy := { s.withy with
        routes := Tbl.put (fun _ => (0, 0)) s.withy.routes (65536 * v + s.getF Reg.wtyRtNode) e } }

/-- WTY_RT_HI_WRITE (R378, R383). -/
def execWtyRtHiWrite (value : W32) (s : State) : Out := s.live fun s => .next (s.written s.wtyBlock fun s => s.rtHiWrite value)

/-! ## Time across nodes (R379) -/

/-- TIME_PATH shows the fibre of the time exchange. -/
def State.showTimePath (s : State) (k : Option Nat) : State :=
  (List.range 32).foldl (fun s i => s.setB (Reg.fibTimePath (i / 16) (i % 16)) (k == some i)) s

/-- The offset moves toward the measured one, by no more than 50 ppm of the elapsed time. -/
def slewed (old measured : Int) (elapsed : Nat) : Int :=
  let lim : Int := elapsed * 50 / 1000000
  old + max (-lim) (min lim (measured - old))

/-- The offset that an exchange measures (R379): the parent's system time minus this node's stake time, when the two fibres take
the same time. `sent` is when this node's stamp left, `parentIn` and `parentOut` the system times at which the parent took it and
answered (log entry 149). -/
def measuredOffset (sent parentIn parentOut now : Int) : Int := ((parentIn - sent) + (parentOut - now)) / 2

/-- TIME_EXCHANGE (R379): every 65,536 st, an exchange with the parent over a fibre trained to it. The root keeps offset 0. -/
def execTimeExchange (sent : Int) (stamps : ParentStamps) (hops : Nat) (s : State) : Out := s.live fun s =>
  let parent := s.getF Reg.wtyParent
  let root := decide (parent = s.getF Reg.wtyNode)
  let path := (s.fibresTo parent).head?
  if !s.on Reg.wtyTimeEnable ∨ s.getF Reg.wtyNode = 0xFFFF ∨ (!root ∧ path.isNone) ∨ s.clk.now < s.withy.exchangedAt + 65536 then
    .next s
  else
    let measured := measuredOffset sent stamps.taken stamps.answered s.clk.now
    let new := if root then 0 else slewed s.wtyOffset measured (s.clk.now - s.withy.exchangedAt)
    let agrees := decide (measured - new ≤ 2 ∧ new - measured ≤ 2)
    let agreed := if agrees || root then s.withy.agreed + 1 else 0
    let s := (s.setWtyOffset new).setF Reg.wtyErrorBound (if root then 0 else min 255 (2 * hops))
    let s := (s.setB Reg.wtyParentLost false).showTimePath (if root then none else path)
    let s := { s with withy := { s.withy with agreed := agreed, exchangedAt := s.clk.now } }
    .next (if 16 ≤ agreed ∧ !s.on Reg.wtyAligned then
      (s.setB Reg.wtyAligned true).raise 0x100A (0x1200 + s.controller) []
    else s)

/-- TIME_PARENT_LOST (R379): no fibre has reached the parent for 1 ms; the offset is held. -/
def execTimeParentLost (s : State) : Out := s.live fun s =>
  let parent := s.getF Reg.wtyParent
  let gone := match s.withy.cutAt with
    | some t => decide (t + 1000000 ≤ s.clk.now) && (s.fibresTo parent).isEmpty
    | none => false
  if !s.on Reg.wtyTimeEnable ∨ parent = s.getF Reg.wtyNode ∨ s.on Reg.wtyParentLost ∨ !gone then .next s
  else
    let s := { s with withy := { s.withy with lostAt := s.clk.now, agreed := 0 } }
    .next ((s.setB Reg.wtyParentLost true).showTimePath none)

/-- NODE_ALIGN_LOST (R379): the parent has been lost for 400 ms. -/
def execNodeAlignLost (s : State) : Out := s.live fun s =>
  .next (if s.on Reg.wtyParentLost ∧ s.on Reg.wtyAligned ∧ s.withy.lostAt + 400000000 ≤ s.clk.now then
    (s.setB Reg.wtyAligned false).raise 0x100B (0x1200 + s.controller) []
  else s)

/-! ## Group plaits and system barriers (R380, R381) -/

/-- PLAIT_JOIN (R380): a forwarder of another node joins; a completed group answers with its completion, one that is not
armed with RANGE_FAULT. -/
def execPlaitJoin (g : PlaitN) (node : BitVec 16) (s : State) : Out := s.live fun s =>
  let m := node.toNat
  if s.isHere m then .next s
  else
    match s.plait g with
    | none => .next (s.tell m (.plaitStatus g 0x12 0))
    | some x =>
      if x.phase = 4 then .next (s.tell m (.plaitStatus g (if x.fault ≠ 0 then x.fault else x.status) x.count))
      else .next (s.modPlait g fun x => { x with nodes := addTo x.nodes m })

/-- PLAIT_HOME_STATUS (R380): the home's completion reaches the forwarder, which signals its COUNTER by 1 and completes with
the home's status and progress. -/
def execPlaitHomeStatus (g : PlaitN) (status : Byte) (applied : Nat) (s : State) : Out := s.live fun s =>
  match s.forwarder g with
  | none => .next s
  | some f =>
    let s := s.setForwarder g none
    let u := hubUnit s.ringHub
    let s := if status = 0x12 then s
      else s.engineSend u (.plaitSignal g) fun s seq => s.syncReq u seq 0x18 f.counter 1
    .next (s.finish f.ring f.num status.toNat 0 applied (g.val + f.expect * 2 ^ 16))

/-- The I/O hubs take note of a release (R381). -/
def State.acrossAll (s : State) (c : Nat) : State := (setPorts 28).foldl (fun s p => s.rimAcross p c) s

/-- RIM_NODE_ARRIVAL (R278, R381): at the root, a node's arrival for the present generation reaches an I/O die, which records it;
a copy is answered from the ledger. -/
def execRimNodeArrival (ch : ChanN) (node : NodeArrival) (s : State) : Out := s.live fun s =>
  let c := ch.val
  let tag := node.tag
  if !s.on (Reg.rimNodesValid c) ∨ !s.isHere (s.getF (Reg.rimRoot c)) ∨ s.isHere tag.node.toNat then .next s
  else .next (s.nodeOnce node.io c tag fun s =>
    if node.gen = s.on (Reg.rimGen 28 c) then (s.rootArrival c tag.node.toNat node.gen).acrossAll c else s)

/-- RIM_ROOT_RELEASE (R381): the root's release reaches a node that has arrived, and its I/O set completes. -/
def execRimRootRelease (ch : ChanN) (s : State) : Out := s.live fun s =>
  let c := ch.val
  if !s.on (Reg.rimNodesValid c) ∨ s.isHere (s.getF (Reg.rimRoot c)) ∨ !(s.rimNet c).sent then .next s
  else .next ((s.setRimNet c { s.rimNet c with released := true }).acrossAll c)

end Sys2Proof.Machine
end

