-- ==== Sys2Proof/Machine/Secure.lean ====
section
/-!
DEFINITION. The seal loop, the lifecycle, the sealed stores, the command window and the random sources (R439-R451).
-/
namespace Sys2Proof.Machine

/-- The active I/O die's engine, the source of security events (R457). -/
def State.secUnit (s : State) : Nat := 0x1200 + s.controller

/-! ## Fuses and lifecycle (R441, R442) -/

/-- The state that a fuse count gives: 0 BLANK, 1 PROVISIONED, 2 DEPLOYED, 3 RETURNED. -/
def lifecycleOf (n : Nat) : Nat := if n = 0 then 0 else (n - 1) % 3 + 1

/-- The least count from n on that reaches a state. -/
def reachCount (n target : Nat) : Nat := ((List.range 4).map (fun i => n + i)).find? (fun m => lifecycleOf m == target) |>.getD n

def State.ioOut (s : State) (d : Nat) : Bool := s.on (Reg.identHeldOut (28 + d))
def State.fuse (s : State) (d : Nat) : Nat := Tbl.look (fun _ => 0) s.sec.fuses d

/-- The part's count n: that of the dies that are not held out. -/
def State.fuseCount (s : State) : Nat := ([0, 1].filter fun d => !s.ioOut d).foldl (fun a d => max a (s.fuse d)) 0

/-- SEC_STATUS shows the lifecycle and n. -/
def State.showLifecycle (s : State) : State :=
  let n := s.fuseCount
  (s.setF Reg.transitions n).setF Reg.secLifecycle (lifecycleOf n)

/-- Bits are blown until a die's count is n: first in IO0, then in IO1; blown bits stay. -/
def State.blow (s : State) (n : Nat) : State :=
  let fuses := [0, 1].foldl (fun t d => if s.ioOut d ∨ n ≤ s.fuse d then t else Tbl.put (fun _ => 0) t d n) s.sec.fuses
  { s with sec := { s.sec with fuses := fuses } }.showLifecycle

/-! ## The sealed store (R443-R445) -/

def SealCopy.blank : SealCopy := ⟨none, [], [], none, none⟩
def State.sealCopy (s : State) (d : Nat) : SealCopy := Tbl.look (fun _ => SealCopy.blank) s.sec.copies d
def State.setCopy (s : State) (d : Nat) (c : SealCopy) : State :=
  { s with sec := { s.sec with copies := Tbl.put (fun _ => SealCopy.blank) s.sec.copies d c } }

/-- The copy that is read: IO0's, or IO1's while IO0 is held out. -/
def State.store (s : State) : SealCopy := s.sealCopy (if s.ioOut 0 then 1 else 0)

/-- SEC_STATUS shows whether a key and a statement are held and a transition is in progress. -/
def State.showStore (s : State) : State :=
  let c := s.store
  ((s.setB Reg.keyPresent c.secret.isSome).setB Reg.endorsed (!c.statement.isEmpty)).setB Reg.journalActive c.journal.isSome

/-- Both copies change alike, but for a held-out die's. -/
def State.modStores (s : State) (f : SealCopy → SealCopy) : State :=
  ([0, 1].foldl (fun s d => if s.ioOut d then s else s.setCopy d (f (s.sealCopy d))) s).showStore

/-- A wipe (R444): the secret and the pending parts become zeros. -/
def State.wipe (s : State) (cause : Nat) : State :=
  (s.modStores fun c => { c with secret := none, pend := none }).raise 0x8006 s.secUnit [cause]

/-- A copy fails its digests (R445): it is rewritten from the other, or the store is wiped when none is good. -/
def State.checkStores (s : State) (bad : List Nat) : State :=
  let here := [0, 1].filter fun d => !s.ioOut d
  let s := s.setB Reg.storeSingle (decide (here.length = 1))
  let failed := here.filter fun d => decide (d ∈ bad)
  if failed.isEmpty then s.showStore
  else if failed.length = here.length then
    ((s.modStores fun _ => SealCopy.blank).raise 0x8006 s.secUnit [3]).showStore
  else
    (failed.foldl (fun s d => ((s.setCopy d (s.sealCopy (1 - d))).bump (Reg.secCnt 5) 1).raise 0x8007 s.secUnit [d]) s).showStore

/-! ## The command window (R446, R447) -/

/-- A refusal (R447). -/
def State.refuseCmd (s : State) (code cause : Nat) : State :=
  let s := (s.setF Reg.secCmdState 5).setF Reg.secResult cause
  (s.bump (Reg.secCnt 2) 1).raise 0x8003 s.secUnit [code, cause]

/-- Whether a window is open. -/
def State.windowOpen (s : State) : Bool := s.getF Reg.secCmdState == 1 || s.getF Reg.secCmdState == 2

/-- Whether R441 allows a transition. -/
def allowedStep (old new : Nat) : Bool :=
  (old == 0 && new == 1) || (old == 1 && new == 2) || (old == 2 && new == 3) || (old == 3 && new == 1)

/-- The refusal that a command meets at OPEN: the lowest cause that holds. -/
def State.openFault (s : State) : Option Nat :=
  let code := s.getF Reg.secCode
  let target := s.getF Reg.secTarget
  let n := s.fuseCount
  let busy := s.windowOpen || s.getF Reg.secCmdState == 3
  let tests : List (Nat × Bool) :=
    [ (1, decide (code < 1 ∨ 3 < code)), (2, !s.on Reg.sealIntact), (3, busy),
      (4, code == 1 && !allowedStep (lifecycleOf n) target), (5, code == 1 && n == 15),
      (6, code == 1 && (target == 1 || target == 2) && !s.on Reg.rngOk), (9, s.on Reg.journalActive) ]
  (tests.find? Prod.snd).map Prod.fst

/-- OPEN is written: the window opens for 30 s, and holds the command's CODE and TARGET, or the command is refused. -/
def State.openWindow (s : State) : State :=
  match s.openFault with
  | some c => s.refuseCmd (s.getF Reg.secCode) c
  | none =>
    let sec := { s.sec with openAt := s.clk.now, holdAt := 0, released := !s.pins.presenceAsserted,
                            code := s.getF Reg.secCode, target := s.getF Reg.secTarget }
    ({ s with sec := sec }.setF Reg.secCmdState 1).setF Reg.secResult 0

/-- A write of SEC_CMD. -/
def State.secCmdWrite (s : State) (value : W32) : State :=
  let s := s.setR Reg.secCode.addr (value &&& 0x3F#32)
  if value.getLsbD 31 then s.openWindow else s

/-- A write of SEC_CMD with OPEN = 1. -/
def State.openCmd (s : State) (code target : Nat) : State :=
  s.written Reg.secBase fun s => s.secCmdWrite (BitVec.ofNat 32 (code + target * 16 + 2 ^ 31))

/-- ADVANCE (R446, R447): the window of CODE 1 opens, or the command is refused. -/
def execAdvance (target : BitVec 2) (s : State) : Out := s.live fun s => .next (s.openCmd 1 target.toNat)

/-- DEBUG_UNLOCK (R446, R447): the window of CODE 2. TARGET is not part of it, and is written as 0. -/
def execDebugUnlock (s : State) : Out := s.live fun s => .next (s.openCmd 2 0)

/-- SEALED_CLEAR (R446, R447): the window of CODE 3. -/
def execSealedClear (s : State) : Out := s.live fun s => .next (s.openCmd 3 0)

/-- PRESENCE_CHANGE (R446): PRESENCE_N counts as asserted or released after 10 samples. A hold starts on an assertion that
follows a release seen within the window; a release before it is complete ends it. -/
def execPresenceChange (asserted : Bool) (s : State) : Out := s.live fun s =>
  let s := { s with pins := { s.pins with presenceAsserted := asserted } }.setB Reg.presence asserted
  .next (if !s.windowOpen then s
    else if asserted then
      (if s.getF Reg.secCmdState = 1 ∧ s.sec.released then
        { s with sec := { s.sec with holdAt := s.clk.now } }.setF Reg.secCmdState 2
      else s)
    else { s with sec := { s.sec with released := true } }.setF Reg.secCmdState 1)

/-- SEC_CMD_EXPIRED (R446): the window has lasted 30 s. -/
def execSecCmdExpired (s : State) : Out := s.live fun s =>
  .next (if s.windowOpen ∧ s.sec.openAt + 30000000000 ≤ s.clk.now then
    ((s.setF Reg.secCmdState 6).bump (Reg.secCnt 3) 1).raise 0x8004 s.secUnit [s.sec.code]
  else s)

/-- A command completes. -/
def State.cmdDone (s : State) : State := ((s.setF Reg.secCmdState 4).setF Reg.secResult 0).bump (Reg.secCnt 1) 1

/-! ## A transition (R448, R449) -/

/-- The statement of a transition: its body and the old key's signature. -/
def State.statement (s : State) (old new n : Nat) (newPub oldPub : List Byte) : List Byte :=
  let serial := (s.getR 4).toNat + (s.getR 8).toNat * 2 ^ 32
  let body := [0x50, 0x46, 0x4C, 0x43] ++ bytesOfNat 2 1 ++ bytesOfNat 1 old ++ bytesOfNat 1 new ++ bytesOfNat 1 n ++
    bytesOfNat 7 0 ++ bytesOfNat 8 serial ++ bytesOfNat 8 s.clk.now ++
    (if new = 3 then bytesOfNat 32 0 else shake256 newPub) ++ shake256 oldPub ++ bytesOfNat 32 0
  body ++ Config.falconSign s.freeCount body

/-- Steps 1 and 2: the new secret and keys, where the target carries a key, and the statement that the table of R441 calls for. -/
def State.prepare (s : State) (target : Nat) : State :=
  let old := lifecycleOf s.fuseCount
  let n := reachCount s.fuseCount target
  let c := s.store
  let k := Config.randomSecret s.freeCount
  let seed := BitVec.ofNat 256 (natOfBytes (shake256 (bytesOfNat 64 k.toNat ++ bytesOfNat 1 n)))
  let keyed := target == 1 || target == 2
  let pub := if keyed then Config.falconPublic seed else []
  let secret := if keyed then some ⟨k, Config.falconPrivate seed⟩ else none
  let s := s.tookFree
  let signs := c.secret.isSome && ((old == 1 && target == 2) || (old == 2 && target == 3))
  let st := if signs then s.statement old target n pub c.pub else []
  s.tookFree.modStores fun c => { c with pend := some ⟨secret, pub, st⟩ }

/-- Step 4: the old secret is wiped, and the pending part becomes current. It is kept until step 5, so that a transition that
resumes at step 4 finds it again. -/
def State.makeCurrent (s : State) : State :=
  let p := s.store.pend
  let s := s.wipe 0
  s.modStores fun c => match p with
    | some x => { c with secret := x.secret, pub := x.pub, statement := x.statement, pend := p }
    | none => { c with statement := [] }

/-- The journal names the step that is about to begin. -/
def State.note (s : State) (target step : Nat) : State := s.modStores fun c => { c with journal := some (target, step) }

/-- The transition from `step` on, up to an interruption after `stop` steps. The old state is that of the fuses before step 3. -/
def State.transition (s : State) (old target step : Nat) (stop : Option Nat) : State :=
  let runs := fun (k : Nat) => decide (step ≤ k) && (match stop with | some x => decide (k ≤ x) | none => true)
  let s := if runs 2 then s.prepare target else s
  let s := if runs 3 then s.blow (reachCount s.fuseCount target) else s
  let s := if runs 4 then s.makeCurrent else s
  match stop with
  | some x => s.note target (x + 1)
  | none =>
    (s.modStores fun c => { c with journal := none, pend := none }).raise 0x8002 s.secUnit [old, target, s.fuseCount]

/-- PRESENCE_HOLD_COMPLETE (R446-R450): the hold has lasted 2,000 ms before the window ends, and the command executes. An ADVANCE may be interrupted by
a takeover or a power loss once `stop` of its steps are done. -/
def execPresenceHoldComplete (stop : Option (Fin 5)) (s : State) : Out := s.live fun s =>
  if s.getF Reg.secCmdState ≠ 2 ∨ s.clk.now < s.sec.holdAt + 2000000000 ∨
      s.sec.openAt + 30000000000 < s.sec.holdAt + 2000000000 then .next s
  else
    match s.sec.code with
    | 1 =>
      let old := lifecycleOf s.fuseCount
      let s := s.setF Reg.secCmdState 3
      let target := s.sec.target
      match stop with
      | some x => .next (s.transition old target 1 (some x.val))
      | none => .next (s.transition old target 1 none).cmdDone
    | 2 => .next (((s.setB Reg.debugUnlocked true).raise 0x8005 s.secUnit [s.getF Reg.secLifecycle]).cmdDone)
    | _ => .next (s.wipe 2).cmdDone

/-- TRANSITION_RESUMED (R448): an interrupted ADVANCE goes on at step 4 when the fuse count has reached the target; else it
starts again. -/
def execTransitionResumed (powerUp : Bool) (s : State) : Out := s.live fun s =>
  match s.store.journal with
  | none => .next s
  | some (target, step) =>
    if powerUp ∧ !s.on Reg.glbReady then .next s
    else
      let done := decide (lifecycleOf s.fuseCount = target)
      let old := if done then (if target = 1 then (if s.fuseCount = 1 then 0 else 3) else target - 1) else lifecycleOf s.fuseCount
      let s := s.raise 0x8009 s.secUnit [step, powerUp.toNat]
      let s := if done then s else s.modStores fun c => { c with pend := none }
      let s := s.transition old target (if done then 4 else 1) none
      .next (if s.getF Reg.secCmdState = 3 then s.cmdDone else s)

/-! ## The seal loop (R439, R440) -/

/-- A tamper (R440): the store is wiped, the lifecycle moves to RETURNED, and a window or transition is abandoned. -/
def State.tamper (s : State) (inService : Bool) : State :=
  let before := lifecycleOf s.fuseCount
  let s := s.wipe 1
  let s := s.modStores fun c => { c with statement := [], journal := none }
  let s := s.blow (reachCount s.fuseCount 3)
  let s := if s.windowOpen then s.refuseCmd s.sec.code 7
    else if s.getF Reg.secCmdState = 3 then (s.setF Reg.secCmdState 5).setF Reg.secResult 7 else s
  (s.setB Reg.sealBrokenSeen true).raise 0x8001 s.secUnit [inService.toNat, before]

/-- A test of the loop; a break that a test has already found is no new tamper. -/
def State.sealTest (s : State) (intact inService : Bool) : State :=
  let known := !s.on Reg.sealIntact && s.on Reg.sealBrokenSeen
  let s := s.setB Reg.sealIntact intact
  if intact ∨ known then s else s.tamper inService

/-- SEAL_TEST (R439): every 1 ms after the test in phase 2 of bring-up. -/
def execSealTest (intact : Bool) (s : State) : Out := s.live fun s => .next (if s.getF Reg.glbPhase ≤ 2 then s else s.sealTest intact true)

/-! ## Changes of control (R447) and the random sources (R451) -/

/-- A takeover or hand-back during a window refuses its command. -/
def State.secMoved (s : State) : State := if s.windowOpen then s.refuseCmd s.sec.code 8 else s

def State.rngPasses (s : State) (d : Nat) : Bool := Tbl.look (fun _ => false) s.sec.rngPass d
def State.setRng (s : State) (d : Nat) (b : Bool) : State :=
  let s := { s with sec := { s.sec with rngPass := Tbl.put (fun _ => false) s.sec.rngPass d b } }
  let here := [0, 1].filter fun d => !s.ioOut d
  s.setB Reg.rngOk (!here.isEmpty && here.all fun d => s.rngPasses d)

/-- RNG_FAULT (R451): a source fails a health test. -/
def execRngFault (n : IoN) (test : Nat) (s : State) : Out := s.live fun s =>
  .next (if s.ioOut n then s
    else ((s.setRng n false).bump (Reg.secCnt 4) 1).raise 0x8008 s.secUnit [n.val, test])

end Sys2Proof.Machine
end

