-- ==== Sys2Proof/Machine/Isolation.lean ====
section
/-!
DEFINITION. Sites and logical numbers (R74, R75), the isolation and rejoin of compute dies (R398-R400), feeds and
temperatures (R410-R412, R465, R466).
-/
namespace Sys2Proof.Machine

/-- The DIE bit (R390): a die is held out, isolated, failed, or on its way back. -/
def State.refreshDies (s : State) : State :=
  s.setDegraded 10 ((List.range 30).any fun i => decide (2 ≤ s.getF (Reg.dieState i) ∧ s.getF (Reg.dieState i) ≤ 5))

/-- HLTH_DIE of a compute die and of its store die, which reflects it (R414). -/
def State.setDie (s : State) (f : Nat → Fld) (d v : Nat) : State := (s.setF (f d) v).setF (f (d + 8)) v

/-! ## Logical numbers (R74, R75) -/

/-- One site fails self-test: its logical number passes to the lowest reserve, or stays vacant. -/
def State.siteFails (s : State) (d x : Nat) : State :=
  let active := s.getF (Reg.siteState d x) == 1
  let l := s.getF (Reg.siteLogical d x)
  let s := s.setF (Reg.siteState d x) 3
  if !active then s
  else
    match (List.range 288).find? (fun y => s.getF (Reg.siteState d y) == 2) with
    | some y =>
      let s := ((s.setF (Reg.siteState d y) 1).setF (Reg.siteLogical d y) l).setF (Reg.mapSite d l) y
      s.raise 0x5006 (s.dieUnit d) [x, y, l]
    | none => (s.setB (Reg.mapValid d l) false).setF (Reg.mapSite d l) 0

/-- The TILES bit (R389): a die is below its grade count. -/
def State.refreshTiles (s : State) : State :=
  s.setDegraded 0 ((List.range 8).any fun d =>
    s.getF (Reg.dieState d) == 1 && decide (s.getF (Reg.activeCount d) < s.getF (Reg.gradeCount d)))

/-- Logical numbers are assigned from the fuses, and the sites that fail self-test lose them (R74). -/
def State.assignSites (s : State) (d : Nat) (failed : List Nat) : State :=
  let grade := s.getF (Reg.gradeCount d)
  let enabled := (List.range 288).filter fun x => s.on (Reg.siteFuse d x)
  let s := (List.range 288).foldl (fun s x =>
    (s.setF (Reg.siteState d x) (if s.on (Reg.siteFuse d x) then 2 else 0)).setF (Reg.siteLogical d x) 0) s
  let s := (List.range 288).foldl (fun s l => (s.setB (Reg.mapValid d l) false).setF (Reg.mapSite d l) 0) s
  let s := (enabled.take grade).zipIdx.foldl (fun s e =>
    ((((s.setF (Reg.siteState d e.1) 1).setF (Reg.siteLogical d e.1) e.2).setB (Reg.mapValid d e.2) true).setF
      (Reg.mapSite d e.2) e.1)) s
  let bad := enabled.filter fun x => decide (x ∈ failed)
  -- reserves that fail take no number
  let s := (bad.filter fun x => s.getF (Reg.siteState d x) == 2).foldl (fun s x => s.siteFails d x) s
  let s := (bad.filter fun x => s.getF (Reg.siteState d x) == 1).foldl (fun s x => s.siteFails d x) s
  let count := fun (s : State) (st : Nat) => ((List.range 288).filter fun x => s.getF (Reg.siteState d x) == st).length
  let s := ((s.setF (Reg.activeCount d) (count s 1)).setF (Reg.reserveCount d) (count s 2)).setF (Reg.failedCount d) (min 127 (count s 3))
  if count s 1 < grade then s.raise 0x5007 (s.dieUnit d) [d, count s 1, grade] else s

/-! ## Isolation (R399, R400) -/

/-- A tile of an isolated die stops and leaves its course (R94); its waits are withdrawn. -/
def State.loseTile (s : State) (u : Nat) : State :=
  let t := s.tile u
  let s := match t.wait.bind TWait.seq with | some q => s.withdraw u q | none => s
  match t.member with
  | none => s
  | some m =>
    let last := ((t.mover.filter fun r => r.state == .sent).map fun r => r.deadline) ++ t.sigs.map fun g => g.deadline
    let s := s.modTile u fun t => { t with member := some { m with stopping := some .isolated, lastEnded := false } }
    (s.modCourse m.group fun c => { c with notBefore := last.foldl max c.notBefore }).leave u

/-- Replies to the tiles of a die are discarded as stale (R399). -/
def State.dropDieReplies (s : State) (d : Nat) : State :=
  let mine := fun (r : Reply) => decide (r.srcUnit.toNat / 512 = d) && s.isHere r.srcNode.toNat
  let n := (s.net.replies.filter mine).length
  let left := s.net.replies.filter fun r => !mine r
  if n = 0 then s else { s with net := { s.net with replies := left } }.bump (Reg.hubCnt (2 * d) 7) n

/-- The registers of a compute die's block. -/
def State.blockOf (s : State) (d : Nat) : Tbl W32 := s.regs.filter fun e => decide (Reg.cd d ≤ e.1 ∧ e.1 < Reg.cd (d + 1))

/-- A compute die is isolated (R399): its links are fenced, its tiles stop, and its store die resets. The third isolation
within 1 s leaves it failed (R400). -/
def State.isolate (s : State) (d cause : Nat) : State :=
  if s.getF (Reg.dieState d) ≠ 1 then s
  else
    let held := s.blockOf d
    let units := (s.tiles.map Prod.fst).filter fun u => uDie u == d
    let s := units.foldl (fun s u => s.loseTile u) s
    let s := { s with tiles := s.tiles.filter fun e => uDie e.1 != d }
    let s := (s.dropDieReplies d).updateBoundMax
    let recent := (s.cdie d).isolations.filter (fun t => decide (s.clk.now < t + 1000000000)) ++ [s.clk.now]
    let s := s.setCdie d { s.cdie d with fencedAt := some s.clk.now, fenceDone := false, isolations := recent, grants := [], held := held }
    let s := s.setDie Reg.dieState d 2
    let s := s.setDie Reg.dieIsolations d (min 15 (s.getF (Reg.dieIsolations d) + 1))
    let s := (s.bump (Reg.hlthCnt 0) 1).raise 0x7003 s.hlthUnit [d, cause]
    let s := s.sdReset d 2
    let s := if 3 ≤ recent.length then (s.setDie Reg.dieState d 4).raise 0x7005 s.hlthUnit [d] else s
    s.refreshDies.claimCourses

/-- The causes of 0x7003. -/
def isolationCause : Cause → Nat
  | .clock => 0 | .selfCheck => 1 | .regulator => 2 | .register => 3 | .dieReset => 3

/-- DIE_ISOLATED (R399): the die's clock, supervisor or regulator fails, or RESET is written. -/
def execDieIsolated (die : DieN) (cause : Cause) (s : State) : Out := s.live fun s =>
  let s := if cause = .register ∧ s.getF (Reg.dieState die) = 1 then s.setDie Reg.dieResetBit die 1 else s
  .next (s.isolate die (isolationCause cause))

/-- Whether a request is held for, or on its way to, a die's slices and windows. -/
def State.forDie (s : State) (d : Nat) (r : Req) : Bool :=
  let op := r.opc.toNat
  (op == 1 || op == 2 || isAtomicOp op || (op == 0x20 && (s.spokeOf r).isNone)) && s.isHere (gaNode r.ga) &&
    !laIsStack (gaLa r.ga) && laGoverned (gaLa r.ga) && decide (laPort (gaLa r.ga) / 2 = d)

/-- ISOLATION_FENCE_TIMEOUT (R399): 16,000 st after isolation every such request completes TARGET_RESTARTED. -/
def execIsolationFenceTimeout (die : DieN) (s : State) : Out := s.live fun s =>
  let d := die.val
  match (s.cdie d).fencedAt with
  | none => .next s
  | some t =>
    if (s.cdie d).fenceDone ∨ s.clk.now < t + 16000 then .next s
    else
      let s := s.setCdie d { s.cdie d with fenceDone := true }
      let due := s.net.reqs.filter (s.forDie d)
      let ws := s.fab.rgnWait.filter fun w => !s.forDie d w.req
      let s := { s with fab := { s.fab with rgnWait := ws } }
      .next (due.foldl (fun s r => (s.tookReq r).reply ((Answer.refuse 0x30 0).toReply r false)) s)

/-- The tile registers of a die after its reset: no lap, no fault, no tally. -/
def State.clearTileRegs (s : State) (d : Nat) : State :=
  (List.range 288).foldl (fun s x =>
    let f := (Reg.faultStatus d x).addr
    ((((s.setR (Reg.tilePhase d x).addr 0).setR f 0).setR (f + 8) 0).setR (f + 12) 0).setR (Reg.stretchTally d x).addr 0) s

/-- The scratchpads of a die hold nothing after its reset (R387). -/
def State.clearSpads (s : State) (d : Nat) : State :=
  let lo := spadBase (d * 512)
  let bytes := s.mem.bytes.filter fun e => !(decide (lo ≤ e.1) && decide (e.1 < lo + 288 * 0x100000))
  { s with mem := { s.mem with bytes := bytes } }

/-- DIE_REJOIN (R400 steps 1 to 5): an isolated die is reset, self-tested and incarnated again. One that shut itself down waits
until it has cooled (R466). -/
def execDieRejoin (die : DieN) (failedSites : List TileId) (s : State) : Out := s.live fun s =>
  let d := die.val
  let c := s.cdie d
  let asked := s.on Reg.autoRejoin || s.on (Reg.dieResetBit d)
  if s.getF (Reg.dieState d) ≠ 2 ∨ !asked ∨ !c.fenceDone ∨ (c.shutdown ∧ d ∈ s.pins.hot) then .next s
  else
    let s := (s.clearTileRegs d).clearSpads d
    let s := s.assignSites d ((failedSites.filter fun t => t.die == die).map fun t => t.site.val)
    let s := (s.setDie Reg.dieInc d (s.getF (Reg.dieInc d) + 1)).restartSeqs d
    let s := (s.setDie Reg.dieState d 3).setDie Reg.dieResetBit d 0
    .next (s.setCdie d { s.cdie d with shutdown := false, suspect := [], errors := [] })

/-- DIE_REJOINED (R400): the store die has cleared and reloaded, and the die is operational. -/
def execDieRejoined (die : DieN) (s : State) : Out := s.live fun s =>
  let d := die.val
  if s.getF (Reg.dieState d) ≠ 3 ∨ s.getF (Reg.sdState d) ≠ 1 then .next s
  else
    let since := match (s.cdie d).fencedAt with | some t => s.clk.now - t | none => 0
    let s := s.setCdie d { s.cdie d with fencedAt := none, fenceDone := false, held := [] }
    let s := (s.setDie Reg.dieState d 1).setB (Reg.clockLost d) false
    let s := (s.bump (Reg.hlthCnt 1) 1).raise 0x7004 s.hlthUnit [d, s.getF (Reg.dieInc d), since]
    .next s.refreshDies.refreshTiles.claimCourses

/-! ## Feeds (R410, R411) -/

/-- The FEED bit (R389). -/
def State.refreshFeeds (s : State) : State :=
  s.setDegraded 8 ([0, 1].any fun b => !s.on (Reg.feedOk b) || !s.on (Reg.feedSetOk b))

def State.setFeedPin (s : State) (b ok : Bool) : State :=
  { s with pins := if b then { s.pins with feedB := ok } else { s.pins with feedA := ok } }

/-- FEED_LOST (R410): a feed stays below 38 V for 20 µs; the other set carries the load. -/
def execFeedLost (b : Bool) (s : State) : Out := s.live fun s =>
  if !s.on (Reg.feedOk b.toNat) then .next s
  else
    let s := (s.setB (Reg.feedOk b.toNat) false).setFeedPin b false
    let s := (s.bump (Reg.hlthCnt 7) 1).raise 0x7020 s.hlthUnit [b.toNat]
    .next s.refreshFeeds.updatePins

/-- FEED_RESTORED (R410): a feed has stayed at or above 40 V for 10 ms. -/
def execFeedRestored (b : Bool) (s : State) : Out := s.live fun s =>
  let powered := s.pins.feedA || s.pins.feedB
  if s.on (Reg.feedOk b.toNat) ∨ !powered then .next s
  else
    let s := ((s.setB (Reg.feedOk b.toNat) true).setFeedPin b true).raise 0x7021 s.hlthUnit [b.toNat]
    .next s.refreshFeeds.updatePins

/-- REGULATOR_FAILED (R411): a first-stage regulator takes its set of eight out of service. -/
def execRegulatorFailed (b : Bool) (j : Fin 8) (s : State) : Out := s.live fun s =>
  let r := 8 * b.toNat + j.val
  if s.on (Reg.pwrRegFailed r) then .next s
  else
    let s := (s.setB (Reg.pwrRegFailed r) true).setB (Reg.feedSetOk b.toNat) false
    let s := (List.range 8).foldl (fun s i => s.setB (Reg.pwrRegInService (8 * b.toNat + i)) false) s
    .next (s.raise 0x7022 s.hlthUnit [b.toNat, j.val]).refreshFeeds

/-- THERM_TRIP (R412, R465): a die's junction crosses its trip temperature. -/
def execThermTrip (i : DieIdx) (above : Bool) (s : State) : Out := s.live fun s =>
  let hot := if above then addTo s.pins.hot i.val else s.pins.hot.filter fun j => j != i.val
  .next { s with pins := { s.pins with hot := hot } }.updatePins

end Sys2Proof.Machine
end

