-- ==== Sys2Proof/Machine/Control.lean ====
section
/-!
DEFINITION. The control of the two I/O dies: frame copies, heartbeats, takeover, hand-back, and resets of dies (R349, R355,
R401-R409).
-/
namespace Sys2Proof.Machine

/-- The I/O die that is not in control. -/
def State.standbyDie (s : State) : Nat := 1 - s.controller

/-! ## The frame copy (R403) -/

/-- The bits that a frame copy carries of a register: the writable ones of the RING, CXL-local and Withy blocks. An enable bit
of a ring goes with the ring's state. -/
def copyMask (a : Nat) : W32 :=
  let here := (decide (0x30000 ≤ a) && decide (a < 0x40000)) || (decide (0x3400000 ≤ a) && decide (a < 0x3500000)) ||
    (decide (0x3800000 ≤ a) && decide (a < 0x4000000))
  let ctrl := decide (0x31000 ≤ a) && decide (a < 0x35000) && a % 64 == 0x14
  if here && !ctrl then BitVec.ofNat 32 (regDesc a).rw else 0

/-- A capture of what the standby holds a copy of. -/
def State.capture (s : State) : Copy :=
  { staged := s.hawk.staged, rgnStage := s.hawk.rgnStage, check := s.hawk.check, armed := s.hawk.armed,
    words := s.regs.filter fun e => copyMask e.1 != 0 }

/-- The checkpoint of each descriptor is the progress it has reached (R340). -/
def State.checkpoints (s : State) : State :=
  let sq := s.host.sq.map fun e => (e.1, { e.2 with started := e.2.started.map fun (d : Started) => { d with checkpoint := d.progress } })
  { s with host := { s.host with sq := sq } }

/-- Step 5 of R49: the capture, unless an earlier one is still being sent. -/
def State.shadowCapture (s : State) : State :=
  let st := s.getF Reg.hlthStandby
  let s := s.checkpoints
  if (st = 1 ∨ st = 2) ∧ s.ctl.sending.isNone then { s with ctl := { s.ctl with sending := some s.capture } } else s

/-- SHADOW_COPY_ACKED (R403): the standby has acknowledged every byte of a capture. -/
def execShadowCopyAcked (bytes : Nat) (s : State) : Out := s.live fun s =>
  match s.ctl.sending with
  | none => .next s
  | some c =>
    let s := { s with ctl := { s.ctl with sending := none, copy := some c } }
    let s := s.bump (Reg.hlthCnt 5) bytes
    .next (if 65536 < bytes then
      (s.bump (Reg.hlthCnt 6) 1).raiseLimited 0x7016 s.hlthUnit 0 [s.clk.frame, bytes]
    else s)

/-! ## Heartbeats (R405) -/

/-- HEARTBEAT (R405): a heartbeat of each controller on both paths; one that arrives on neither is missed. The optical path
carries none without its transmitters' light (R27). -/
def execHeartbeat (optical electrical : Bool) (s : State) : Out := s.live fun s =>
  if s.getF Reg.hlthStandby = 0 then .next s
  else
    let optical := optical && s.shadowLit
    let s := (s.showPath Reg.shadowOptical 0 optical).showPath Reg.shadowElectrical 1 electrical
    .next (if optical || electrical then { s with ctl := { s.ctl with missed := 0 } }
      else { s with ctl := { s.ctl with missed := s.ctl.missed + 1 } }.bump (Reg.hlthCnt 4) 1)

/-- The evidence that the active die has failed (R405). -/
def State.activeDead (s : State) : Bool :=
  let c := s.controller
  s.on (Reg.clockLost (28 + c)) || s.getF (Reg.dieState (28 + c)) != 1 ||
    (s.getF (Reg.vlinkWidth (28 + 2 * c)) == 2 && s.getF (Reg.vlinkWidth (29 + 2 * c)) == 2)

/-- Control is due to pass (R405, R408). -/
def State.takeoverDue (s : State) (cause : Nat) : State :=
  { s with ctl := { s.ctl with takeover := some (if s.getF Reg.hlthStandby = 2 then cause else 5) } }

/-- The STANDBY bit (R389): no ready standby. -/
def State.setStandby (s : State) (st : Nat) : State := (s.setF Reg.hlthStandby st).setDegraded 7 (decide (st ≠ 2))

/-- HEARTBEATS_MISSED (R405): heartbeats have been missed in a row on one path, or sixteen on both. With evidence the takeover begins; with both dies alive the
standby is not current. -/
def execHeartbeatsMissed (e : HeartbeatEvidence) (s : State) : Out := s.live fun s =>
  -- the watch pauses while the engines of an I/O die are stopped (R57)
  if s.clk.stopped.any (fun u => u == 0x1200 || u == 0x1201) then .next s
  else match e with
  | .opticalOnly => .next (s.showPath Reg.shadowOptical 0 false)
  | .electricalOnly => .next (s.showPath Reg.shadowElectrical 1 false)
  | .bothWithEvidence =>
    let other := s.getF (Reg.dieState (28 + s.standbyDie))
    if s.ctl.missed < 16 ∨ !s.activeDead ∨ (other ≠ 1 ∧ other ≠ 6) then .next s
    else .next (s.takeoverDue (if s.on (Reg.clockLost (28 + s.controller)) then 3 else 0))
  | .bothAlive =>
    let st := s.getF Reg.hlthStandby
    if s.ctl.missed < 16 ∨ s.activeDead ∨ (st ≠ 1 ∧ st ≠ 2) then .next s
    else
      let s := (s.setB Reg.shadowOptical false).setB Reg.shadowElectrical false
      .next ((s.setStandby 3).raise 0x7015 s.hlthUnit [s.clk.frame])

/-- CONTROL_RESIGN (R405): the active die fails its self-check and resigns. -/
def execControlResign (s : State) : Out := s.live fun s =>
  let other := s.getF (Reg.dieState (28 + s.standbyDie))
  .next (if other = 6 then s.takeoverDue 1 else s)

/-! ## Changes of control (R355, R406, R408, R409) -/

/-- The links of an I/O die that is gone: its CXL port and its fibres (R406). -/
def State.dropIoLinks (s : State) (n : Nat) : State :=
  let s := if s.linkUp n then s.linkDown n 0 else s
  (List.range 16).foldl (fun s f => if (s.fib n f).up then s.fibreDown n f 0 else s) s

/-- The accesses of a port's aperture are gone with its die. -/
def State.dropAperture (s : State) (n : Nat) : State :=
  let s := { s with engine := s.engine.filter fun e => !isAper n false e.purpose }
  let s := s.setHeld n []
  { s.setB (Reg.aperMoving n) false with host := { (s.setB (Reg.aperMoving n) false).host with moving := Tbl.drop s.host.moving n } }

/-- The last copy is installed: what was written after it is lost (R403, R420). A check or an armed set that it does not hold is
run again (R406, R427). -/
def State.installCopy (s : State) (c : Copy) : State :=
  let rerun := decide (s.hawk.check ≠ c.check ∨ s.hawk.armed ≠ c.armed) && (s.hawk.check.isSome || s.hawk.armed.isSome)
  let s := { s with hawk := { s.hawk with staged := c.staged, rgnStage := c.rgnStage } }
  let s := (s.setF Reg.rgnCount c.rgnStage.length).setB Reg.hawkRerun rerun
  let addrs := ((s.regs.map Prod.fst) ++ c.words.map Prod.fst).filter fun a => copyMask a != 0
  addrs.foldl (fun s a =>
    s.setR a ((s.getR a &&& ~~~copyMask a) ||| (Tbl.look regReset c.words a &&& copyMask a))) s

/-- A COPY or FILL is redone from its checkpoint, a SNAPSHOT or ATTEST is gathered or signed again (R355). -/
def State.carryOn (s : State) : State :=
  let back := fun (d : Started) =>
    let op := descOpcode d.line
    if d.finished then d
    else if op = 2 ∨ op = 3 then
      { d with progress := d.checkpoint, quantum := 0, closedIn := s.clk.frame, fail := none, redone := true }
    else if op = 8 ∨ op = 9 then { d with redone := true }
    else d
  let again := fun (d : Started) => !d.finished && [2, 3, 8, 9].contains (descOpcode d.line)
  let s := s.bump (Reg.ringCnt 12) (s.host.sq.map fun e => (e.2.started.filter again).length).sum
  let sq := s.host.sq.map fun e => (e.1, { e.2 with started := e.2.started.map back })
  let copying := fun (e : EngineReq) => match e.purpose with
    | .copyLoad _ _ => true
    | .copyStore _ _ => true
    | _ => false
  let gone := s.engine.filter copying
  let s := { s with host := { s.host with sq := sq }, engine := s.engine.filter fun e => !copying e }
  let s := gone.foldl (fun s e => s.tookReq e.req) s
  -- REMOTE, SIGNAL, WAIT and proxied requests leave again with their tags and a new DEADLINE (R404)
  let again := fun (e : EngineReq) => match e.purpose with
    | .remote _ => e.req.opc.toNat != opcRim
    | .signal _ => e.req.opc.toNat != opcRim
    | .wait _ => e.req.opc.toNat != opcRim
    | .proxy _ _ _ _ => true
    | _ => false
  s.engine.foldl (fun s e =>
    if again e && (s.answered e).isNone then
      let window := if s.isHere (reqNode e.req) then 8000 else 64000
      let proxied := match e.purpose with | .proxy _ _ _ _ => true | _ => false
      let r := { e.req with retry := true, deadline := if proxied then e.req.deadline else s.clk.now + 4 * window + 16000 }
      let e' := { e with req := r, retries := e.retries + 1 }
      ({ s with engine := s.engine.map fun x => if x = e then e' else x }.tookReq e.req).send r
    else s) s

/-- The vectors of the records at or beyond each ring's head are signalled again (R355 step 2). -/
def State.resignal (s : State) : State :=
  (List.range 256).foldl (fun s m =>
    if s.on (Reg.cqValid m) && decide (0 < ahead (s.getF (Reg.cqWritten m)) (s.cq m).head) then s.msix (s.getF (Reg.cqVector m))
    else s) s

/-- Control passes to an I/O die. -/
def State.setController (s : State) (b : Nat) : State :=
  let s := (s.setF Reg.hlthController b).setF Reg.ringController b
  ((s.setB (Reg.carriesControl b) true).setB (Reg.carriesControl (1 - b)) false).setF (Reg.dieState (28 + b)) 1

/-- HLTH_TAKEOVER (R414). -/
def State.showTakeover (s : State) (gap kind cause : Nat) : State :=
  ((s.setF Reg.lastGap (min 4095 gap)).setF Reg.lastKind kind).setF Reg.takeoverCause cause

/-- A ring is stopped without records (R408). -/
def State.killRing (s : State) (n : Nat) : State :=
  let st := s.getF (Reg.sqState n)
  let s := s.setSq n Sq.zero
  if st = 0 then s else (((s.setF (Reg.sqState n) 0).setB (Reg.sqEnable n) false).setF (Reg.sqFetched n) 0).setF (Reg.sqStarted n) 0

/-- Control passes with no current copy (R349, R408): the rings stop without records, the ledgers of the I/O dies are lost, and
the control incarnation changes. -/
def State.loseControl (s : State) : State :=
  let s := (List.range 256).foldl (fun s n => s.killRing n) s
  let s := s.setF Reg.ringInflight 0
  let own := fun (e : EngineReq) => decide (0x1200 ≤ e.unit ∧ e.unit < 0x1400)
  let host := { s.host with cq := s.host.cq.map fun e => (e.1, { e.2 with waiting := [] }),
                            seqs := s.host.seqs.filter fun e => e.1 < 0x1200 }
  let s : State := { s with host := host, engine := s.engine.filter fun e => !own e, snaps := [] }
  let s : State := { s with withy := { s.withy with proxied := [] }, hawk := { s.hawk with staged := [], check := none } }
  let s := ((s.setB (Reg.bankPending 0) false).setB (Reg.bankPending 1) false).clearRgnStage
  let s : State := if s.getF Reg.hawkState = 1 then s.setF Reg.hawkState 0 else s
  let s := s.wrapF Reg.controlInc 1
  (s.quarantine 0x1200 3).quarantine 0x1201 3

/-- The die that had control is gone. -/
def State.fenceOld (s : State) (a : Nat) : State :=
  let s := if s.getF (Reg.dieState (28 + a)) = 4 then s else s.setF (Reg.dieState (28 + a)) 2
  (s.dropAperture a).dropIoLinks a

/-- CONTROL_TAKEOVER (R406, R408): the other die takes control. `gap` is the interruption in 0.1 µs. -/
def execControlTakeover (gap : Nat) (s : State) : Out := s.live fun s =>
  match s.ctl.takeover with
  | none => .next s
  | some cause =>
    let a := s.controller
    let b := 1 - a
    let copy := if s.getF Reg.hlthStandby = 2 then s.ctl.copy else none
    let cause := if copy.isNone then 5 else cause
    let s := { s with ctl := { s.ctl with sending := none, copy := none, startsStopped := false, takeover := none, restart := false } }
    let s := (s.fenceOld a).setController b
    let s := match copy with
      | some c => (s.installCopy c).carryOn
      | none => s.loseControl
    let s := (s.setStandby 0).refreshDies.refreshFallback
    let s := if copy.isSome then s.resignal else s
    let s := s.secMoved
    let s := ((s.setB Reg.shadowOptical false).setB Reg.shadowElectrical false).showTakeover gap 0 cause
    .next ((s.bump (Reg.hlthCnt 2) 1).raise 0x7010 (0x1200 + b) [b, cause, gap]).updatePins

/-! ## The standby (R409, R416) -/

/-- STANDBY_JOIN (R409 steps 1 to 3): a restarted I/O die takes STATE 6 and a full copy. -/
def execStandbyJoin (s : State) : Out := s.live fun s =>
  let b := s.standbyDie
  let st := s.getF (Reg.dieState (28 + b))
  if s.getF Reg.hlthStandby ≠ 0 ∨ st = 5 ∨ st = 6 ∨ s.getF Reg.glbPhase < 4 ∨ s.getF Reg.glbPhase = 15 ∨
      s.on (Reg.identHeldOut (28 + b)) then .next s
  else
    let s := ((s.setF (Reg.dieState (28 + b)) 6).wrapF (Reg.dieInc (28 + b)) 1).restartSeqs (28 + b) |>.setB (Reg.dieResetBit (28 + b)) false
    let s := { s with ctl := { s.ctl with missed := 0 } }
    let s := (s.setB (Reg.clockLost (28 + b)) false).setStandby 1
    let s := (s.setB Reg.shadowOptical s.shadowLit).setB Reg.shadowElectrical true
    let ctl := { s.ctl with copy := some s.capture, sending := none, joinAt := s.clk.now, joinFrame := s.clk.frame }
    .next { s with ctl := ctl }.refreshDies

/-- STANDBY_READY (R409 step 4): it has been in step for the longer of 1,024 frames and 100 ms. -/
def execStandbyReady (s : State) : Out := s.live fun s =>
  if s.getF Reg.hlthStandby ≠ 1 ∨ s.clk.now < s.ctl.joinAt + 100000000 ∨ s.clk.frame < s.ctl.joinFrame + 1024 then .next s
  else .next ((s.setStandby 2).raise 0x7013 s.hlthUnit [28 + s.standbyDie, s.clk.now - s.ctl.joinAt])

/-- The standby is gone. -/
def State.standbyGone (s : State) (st : Nat) : State :=
  let b := s.standbyDie
  let s := s.setF (Reg.dieState (28 + b)) st
  let s := { s with ctl := { s.ctl with copy := none, sending := none, startsStopped := false } }
  (((s.setB Reg.shadowOptical false).setB Reg.shadowElectrical false).dropAperture b).dropIoLinks b

/-- The standby fails (R416). -/
def State.standbyLost (s : State) (st : Nat) : State :=
  let b := s.standbyDie
  (((s.standbyGone st).setStandby 0).raise 0x7012 s.hlthUnit [28 + b]).refreshDies

/-- STANDBY_LOST. -/
def execStandbyLost (s : State) : Out := s.live fun s =>
  .next (if s.getF (Reg.dieState (28 + s.standbyDie)) = 6 then s.standbyLost 2 else s)

/-! ## Hand-back and planned switchover (R401, R409) -/

/-- A write of HLTH_CTRL. -/
def State.hlthCtrlWrite (s : State) (value : W32) : State := s.setR Reg.preferred.addr (value &&& 3#32)

/-- PREFERRED_WRITE (R409). -/
def execPreferredWrite (value : W32) (s : State) : Out := s.live fun s => .next (s.hlthCtrlWrite value)

/-- Control is to move at the next tick: PREFERRED names the ready standby, or RESET of the active die asks for it. -/
def State.handDue (s : State) : Bool :=
  s.getF Reg.hlthStandby == 2 && (s.getF Reg.preferred != s.controller || s.ctl.restart) && s.ctl.takeover.isNone

/-- HANDBACK_FETCH_STOP (R409): at H − 4,096 fetch and descriptor starts stop. -/
def execHandbackFetchStop (s : State) : Out := s.live fun s =>
  if !s.handDue ∨ s.ctl.startsStopped ∨ !s.clk.running then .next s
  else
    let h := s.nextTick
    .next { s.reach (h - 4096) with ctl := { s.ctl with startsStopped := true, handTick := h } }

/-- CONTROL_HANDBACK (R409): after tick H the preferred die takes control with the final copy, and the old one is the standby,
or restarts (R401). -/
def execControlHandback (gap : Nat) (s : State) : Out := s.live fun s =>
  if !s.handDue ∨ !s.ctl.startsStopped ∨ s.clk.tick < s.ctl.handTick then .next s
  else
    let a := s.controller
    let b := 1 - a
    let restart := s.ctl.restart
    let s := { s with ctl := { s.ctl with startsStopped := false, restart := false } }
    let s := (s.setController b).setF (Reg.dieState (28 + a)) 6
    let s := s.carryOn.refreshFallback.resignal.secMoved
    let s := s.showTakeover gap 1 (if restart then 2 else 4)
    let s := (s.bump (Reg.hlthCnt 3) 1).raise 0x7011 (0x1200 + b) [b, gap]
    .next (if restart then ((s.standbyGone 0).setStandby 0).refreshDies.updatePins else s.updatePins)

/-! ## RESET of a die (R401) and thermal shutdown (R466) -/

/-- A write of 1 to HLTH_DIE.RESET. -/
def State.dieReset (s : State) (i : Nat) : State :=
  let st := s.getF (Reg.dieState i)
  if st = 5 then s
  else if i < 16 then
    let d := i % 8
    if st = 1 then (s.setDie Reg.dieResetBit d 1).isolate d 3
    else if st = 2 ∨ st = 4 then
      let c := s.cdie d
      let c := if c.fencedAt.isSome then c else { c with fencedAt := some s.clk.now, fenceDone := false, held := s.blockOf d }
      let s := s.setCdie d { c with isolations := [] }
      ((s.setDie Reg.dieResetBit d 1).setDie Reg.dieState d 2).refreshDies
    else s
  else if i < 28 then (if s.on (Reg.scDiscard (i - 16)) then s.scDiscardReset (i - 16) else s.scReset (i - 16) 0)
  else if i < 30 then
    let s := s.setB (Reg.dieResetBit i) true
    if i - 28 = s.controller then { s with ctl := { s.ctl with restart := true } }
    else ((s.standbyGone 0).setStandby 0).refreshDies
  else s

/-- HLTH_DIE_RESET (R401). -/
def execHlthDieReset (i : Fin 30) (s : State) : Out := s.live fun s => .next (s.dieReset i)

/-- An I/O die fails: its STATE shows it, and the standby is lost or waits for the evidence (R60, R405, R466). -/
def State.ioFailed (s : State) (n st : Nat) : State :=
  if n = s.controller then (s.setF (Reg.dieState (28 + n)) st).refreshDies
  else if s.getF (Reg.dieState (28 + n)) = 6 then s.standbyLost st
  else s

/-- DIE_THERMAL_SHUTDOWN (R466): a compute die is isolated with cause 2, an I/O die has failed; no other die shuts down. -/
def execDieThermalShutdown (i : Fin 30) (s : State) : Out := s.live fun s =>
  let hot := addTo s.pins.hot i.val
  if i.val < 8 then
    let d := i.val
    if s.getF (Reg.dieState d) ≠ 1 then .next s
    else
      let s := { s with pins := { s.pins with hot := hot } }.isolate d 2
      .next (s.setCdie d { s.cdie d with shutdown := true }).updatePins
  else if 28 ≤ i.val then
    let n := i.val - 28
    if s.getF (Reg.dieState i) ≠ 1 ∧ s.getF (Reg.dieState i) ≠ 6 then .next s
    else .next ({ s with pins := { s.pins with hot := hot } }.updatePins.ioFailed n 4)
  else .next s

end Sys2Proof.Machine
end

