-- ==== Sys2Proof/Machine/Snap.lean ====
section
/-!
DEFINITION. Snapshots of counters (R345, R392-R397).
-/
namespace Sys2Proof.Machine

/-! ## The classes (R395) -/

/-- The unit IDs of a class, in order. -/
def snapUnits (c : Nat) : List Nat :=
  let sites := (List.range 8).flatMap fun d => (List.range 288).map fun x => d * 512 + x
  match c with
  | 0 => [0xFFFF]
  | 1 => sites
  | 2 => sites
  | 3 => List.range 8
  | 4 => (List.range 32).map fun p => 0x1000 + p
  | 5 => (List.range 16).map fun p => 0x1000 + p
  | 6 => ((List.range 12).map fun k => 0x1100 + k) ++ ((List.range 16).map fun p => 0x1000 + p) ++ [0x1200, 0x1201]
  | 7 => (List.range 12).map fun k => 0x1100 + k
  | 8 => [0x101C]
  | 9 => [0xFFFF]
  | 10 => [0x1200, 0x1201]
  | 11 => [0xFFFF]
  | _ => []

/-- The number of values of a unit. -/
def snapValues (c : Nat) : Nat :=
  match c with
  | 0 => 1 | 1 => 9 | 2 => 8 | 3 => 7 | 4 => 21 | 5 => 4096 | 6 => 8 | 7 => 15 | 8 => 11 | 9 => 13 | 10 => 12 | 11 => 8 | _ => 0

/-- The low word of value i of a unit. -/
def snapAddr (c u i : Nat) : Nat :=
  match c with
  | 0 => Reg.refLosses
  | 1 => Reg.tileCnt (uDie u) (uSite u) i
  | 2 => Reg.siteCnt (uDie u) (uSite u) i
  | 3 => if i = 0 then Reg.meshRetries u else Reg.sdCnt u (i - 1)
  | 4 => Reg.hubCnt (u - 0x1000) i
  | 6 => Reg.ledgerCnt u i
  | 7 => Reg.scCnt (u - 0x1100) i
  | 8 => Reg.lxCnt i
  | 9 => Reg.ringCnt i
  | 10 => Reg.wtyCnt (u - 0x1200) i
  | _ => Reg.hlthCnt i

/-- Values that CLEAR never touches (R394). -/
def snapKept (c i : Nat) : Bool := c == 5 || (c == 6 && i == 6) || (c == 7 && i == 14)

/-- A value: the count, and OVF or SAT in bit 63 (R396). A sync counter's is its primary's; class 16 is its mirror's. -/
def State.snapValue (s : State) (c u i : Nat) : Nat :=
  if c = 5 ∨ c = 16 then
    let t := if c = 5 then s.fab.sync else s.fab.mirror
    let v := Tbl.look (fun _ => 0) t ((u - 0x1000) * 4096 + i)
    v + (if v = cntMax then 2 ^ 63 else 0)
  else
    let a := snapAddr c u i
    s.cnt a + (if (s.getR (a + 4)).getLsbD 31 then 2 ^ 63 else 0)

/-! ## Units that have no shadow (R396) -/

/-- The state of a hub as the status of a block: held out 1, in reset 2. -/
def State.hubSnap (s : State) (p : Nat) : Nat :=
  let st := s.getF (Reg.hubState p)
  if st = 3 then 1 else if st = 0 then 2 else 0

def State.scSnap (s : State) (k : Nat) : Nat :=
  if s.on (Reg.identHeldOut (16 + k)) then 1 else if s.getF (Reg.scState k) = 0 ∨ s.getF (Reg.scState k) = 3 then 2 else 0

def State.ioSnap (s : State) (n : Nat) : Nat :=
  let st := s.getF (Reg.dieState (28 + n))
  if st = 1 ∨ st = 6 then 0 else 1

/-- A unit's status at T: 1 when it is held out, isolated or disabled, 2 when it is in reset. -/
def State.snapStatus (s : State) (c u : Nat) : Nat :=
  let die := fun (d : Nat) => if s.getF (Reg.dieState d) = 1 then 0 else 1
  let store := fun (d : Nat) => if s.getF (Reg.dieState d) ≠ 1 then 1 else if s.getF (Reg.sdState d) = 0 then 2 else 0
  match c with
  | 1 => if s.getF (Reg.siteState (uDie u) (uSite u)) = 0 then 1 else die (uDie u)
  | 2 => if s.getF (Reg.siteState (uDie u) (uSite u)) = 0 then 1 else store (uDie u)
  | 3 => store u
  | 4 => s.hubSnap (u - 0x1000)
  | 5 => s.hubSnap (u - 0x1000)
  | 16 => s.hubSnap ((u - 0x1000) ^^^ 1)
  | 6 => if u < 0x1100 then s.hubSnap (u - 0x1000) else if u < 0x1200 then s.scSnap (u - 0x1100) else s.ioSnap (u - 0x1200)
  | 7 => s.scSnap (u - 0x1100)
  | 10 => s.ioSnap (u - 0x1200)
  | _ => 0

/-- What changes when a unit is reset. -/
def State.resetMark (s : State) (c u : Nat) : Nat :=
  let die := fun (d : Nat) => s.getF (Reg.dieInc d) + (if s.getF (Reg.dieState d) = 1 then 256 else 0)
  let hub := fun (p : Nat) => s.getF (Reg.hubResetCount p) + (if s.getF (Reg.hubState p) = 0 then 0 else 256)
  let sc := fun (k : Nat) => s.getF (Reg.scResetCount k) + (if s.scSnap k = 0 then 256 else 0)
  match c with
  | 1 => die (uDie u)
  | 2 => die (uDie u) + 512 * s.getF (Reg.sdResetCount (uDie u)) + (if s.getF (Reg.sdState (uDie u)) = 0 then 0 else 2 ^ 17)
  | 3 => die u + 512 * s.getF (Reg.sdResetCount u) + (if s.getF (Reg.sdState u) = 0 then 0 else 2 ^ 17)
  | 4 => hub (u - 0x1000)
  | 5 => hub (u - 0x1000)
  | 16 => hub ((u - 0x1000) ^^^ 1)
  | 6 => if u < 0x1100 then hub (u - 0x1000) else if u < 0x1200 then sc (u - 0x1100) else s.getF (Reg.dieInc (28 + (u - 0x1200)))
  | 7 => sc (u - 0x1100)
  | 10 => s.getF (Reg.dieInc (28 + (u - 0x1200)))
  | _ => 0

/-! ## The banks (R394) -/

def State.snap (s : State) (b : Nat) : Option SnapBank := Tbl.look (fun _ => none) s.snaps b
def State.setSnap (s : State) (b : Nat) (x : Option SnapBank) : State := { s with snaps := Tbl.put (fun _ => none) s.snaps b x }

/-- The free bank that the next SNAPSHOT takes: the banks are used in turn. -/
def State.freeBank (s : State) : Option Nat :=
  let b := s.ctl.snapNext % 2
  if (s.snap b).isNone then some b else if (s.snap (1 - b)).isNone then some (1 - b) else none

/-- SNAPSHOT (R345, R394): it starts while a bank is free; T lies at least 20,000 st ahead. -/
def execSnapshot (n : RingN) (s : State) : Out := s.live fun s =>
  let fails := match s.canStart n with
    | some d => (s.descFault n d).isSome
    | none => false
  .next (s.startDesc n (fun l => descOpcode l == 8 && (fails || s.freeBank.isSome)) fun s d =>
    let t := dfield d.line 8 8
    if t < s.clk.now + 20000 then s.finish n d.num 0x02 0 0 1
    else
      match s.freeBank with
      | none => s
      | some b =>
        let s := s.modStarted n d.num fun x => { x with seq := t }
        let bank : SnapBank :=
          { num := d.num, select := dfield d.line 28 4, at_ := t, latched := false, frame := 0, resets := [], units := [] }
        { s.setSnap b (some bank) with ctl := { s.ctl with snapNext := 1 - b } })

/-- The classes that SELECT chooses, in order. -/
def snapClasses (select : Nat) : List Nat := (List.range 12).filter fun c => select.testBit c

/-- CLEAR (R394): the counters of a class that latched restart from zero. -/
def State.clearClass (s : State) (c : Nat) : State :=
  (snapUnits c).foldl (fun s u =>
    if s.snapStatus c u ≠ 0 then s
    else
      (List.range (snapValues c)).foldl (fun s i =>
        if snapKept c i then s else (s.setR (snapAddr c u i) 0).setR (snapAddr c u i + 4) 0) s) s

/-- The units of a bank latch their counters at T (R393). -/
def State.latchBank (s : State) (b : Nat) (x : SnapBank) : State :=
  let classes := (snapClasses x.select).flatMap fun c => if c = 5 then [5, 16] else [c]
  let units := classes.map fun c =>
    let one := fun (u : Nat) =>
      let st := s.snapStatus c u
      (u, st, if st = 0 then (List.range (snapValues (if c = 16 then 5 else c))).map fun i => s.snapValue c u i else [])
    (c, (snapUnits (if c = 16 then 5 else c)).map one)
  let resets := classes.flatMap fun c => (snapUnits (if c = 16 then 5 else c)).map fun u => (c * 65536 + u, s.resetMark c u)
  let s := s.setSnap b (some { x with latched := true, frame := s.clk.frame, resets := resets, units := units })
  let s := s.setB (Reg.bankPending b) true
  if x.select.testBit 31 then (snapClasses x.select).foldl (fun s c => s.clearClass c) s else s

/-- SNAPSHOT_LATCH (R393): every unit's copy of stake time reaches T between two ticks. -/
def execSnapshotLatch (bank : Fin 2) (s : State) : Out := s.live fun s =>
  match s.snap bank with
  | none => .next s
  | some x =>
    if x.latched ∨ !s.clk.running ∨ s.nextTick ≤ x.at_ then .next s
    else .next ((s.reach x.at_).latchBank bank x)

/-- Step 2 of R49: the banks that name the tick latch. -/
def State.latchTick (s : State) : State :=
  [0, 1].foldl (fun s b =>
    match s.snap b with
    | some x => if !x.latched ∧ x.at_ = s.clk.tick then s.latchBank b x else s
    | none => s) s

/-! ## The gather (R396, R397) -/

/-- A unit's block as it is gathered: its status and values. A sync counter whose primary lost its shadow is its mirror's. -/
def State.gathered (s : State) (x : SnapBank) (c : Nat) (e : Nat × Nat × List Nat) : Nat × List Nat :=
  let lost := fun (c : Nat) => Tbl.look (fun _ => 0) x.resets (c * 65536 + e.1) != s.resetMark c e.1
  if e.2.1 = 0 ∧ !lost c then e.2
  else
    let mirror := ((x.units.find? fun k => k.1 == 16).bind fun k => k.2.find? fun m => m.1 == e.1)
    match (if c = 5 then mirror else none) with
    | some m => if m.2.1 = 0 ∧ !lost 16 then m.2 else (if e.2.1 = 1 then 1 else 2, [])
    | none => (if e.2.1 = 0 then 2 else e.2.1, [])

/-- A section (R396), with its blocks' statuses. -/
def State.section_ (s : State) (x : SnapBank) (c : Nat) (units : List (Nat × Nat × List Nat)) : List Byte × List Nat :=
  let n := snapValues c
  let blocks := units.map fun e => (e.1, s.gathered x c e)
  let one := fun (b : Nat × Nat × List Nat) =>
    bytesOfNat 2 b.1 ++ bytesOfNat 6 b.2.1 ++ ((List.range n).flatMap fun i => bytesOfNat 8 (b.2.2.getD i 0))
  let body := bytesOfNat 2 c ++ bytesOfNat 2 units.length ++ bytesOfNat 4 n ++ bytesOfNat 8 0 ++ blocks.flatMap one
  (body ++ List.replicate ((64 - body.length % 64) % 64) 0, blocks.map fun b => b.2.1)

/-- The bytes of a gather, and whether every block has status 0. -/
def State.gather (s : State) (x : SnapBank) : List Byte × Bool :=
  let parts := (x.units.filter fun k => k.1 != 16).map fun k => s.section_ x k.1 k.2
  let body := parts.flatMap Prod.fst
  let statuses := parts.flatMap Prod.snd
  let head := bytesOfNat 4 0x4E534650 ++ bytesOfNat 2 1 ++ bytesOfNat 2 parts.length ++ bytesOfNat 8 x.at_ ++
    bytesOfNat 4 x.select ++ bytesOfNat 4 (64 + body.length) ++ bytesOfNat 6 x.frame ++ bytesOfNat 2 0 ++
    bytesOfNat 4 (statuses.count 1) ++ bytesOfNat 4 (statuses.count 2) ++ bytesOfNat 24 0
  (head ++ body, statuses.all fun x => x == 0)

/-- SNAPSHOT_GATHER_DONE (R396, R397): the gather is written at DEST, as far as DEST_LEN allows; the bank is freed, and the
descriptor completes. -/
def execSnapshotGatherDone (bank : Fin 2) (s : State) : Out := s.live fun s =>
  match s.snap bank with
  | none => .next s
  | some x =>
    match s.started 0 x.num with
    | none => .next s
    | some d =>
      if !x.latched ∨ s.hostPort.isNone then .next s
      else
        let g := s.gather x
        let room := dfield d.line 24 4
        let out := g.1.take room
        let s := (s.hostWrite (dfield d.line 16 8) out).setSnap bank none
        let s := s.setB (Reg.bankPending bank) false
        let st := if g.2 ∧ g.1.length ≤ room then 0 else 1
        .next (s.finish 0 d.num st 0 out.length x.at_)

end Sys2Proof.Machine
end

