-- ==== Sys2Proof/Machine/Hawk.lean ====
section
/-!
DEFINITION. The hawk: staging, the check, the trowel and profiles (R218, R227, R267, R420-R430).
-/
namespace Sys2Proof.Machine

/-! ## The profiles (R428, R429) -/

/-- COMPUTE_MHZ that a profile stages, which is its ceiling. -/
def profileMhz (profile : Nat) : Nat := match profile with | 0 => 1600 | 1 => 1900 | 2 => 1400 | _ => 1200
/-- MEM_STEP of a profile. -/
def profileStep (profile : Nat) : Nat := if profile = 3 then 1 else 0

/-- A write that the hawk ignores while it checks (R421). -/
def State.hawkBusy (s : State) : Bool := s.getF Reg.hawkState == 1
def State.writeIgnored (s : State) : State := s.setB Reg.hawkWriteIgnored true

/-- A write of RWH bits changes their staged value (R420). -/
def State.rwhWrite (s : State) (a : Nat) (value : W32) : State := if s.hawkBusy then s.writeIgnored else s.stage a value

/-- A write of GLB_PROFILE.PROFILE stages COMPUTE_MHZ and MEM_STEP too. -/
def State.profileWrite (s : State) (value : W32) : State :=
  if s.hawkBusy then s.writeIgnored
  else
    let p := value.toNat % 4
    ((s.stageF Reg.glbProfile p).stageF Reg.computeMhz (profileMhz p)).stageF Reg.memStep (profileStep p)

/-- PROFILE_WRITE (R429). -/
def execProfileWrite (value : W32) (s : State) : Out := s.live fun s => .next (s.profileWrite value)

/-! ## The rules of the check (R425) -/

/-- The lap budget of a frame period in units of 1,024 st and a frequency (R52). -/
def lapBudgetOf (fpK mhz : Nat) : Nat := fpK * 1024 * 7 * mhz / 8000
/-- The stretch allowance (R52). -/
def stretchOf (fpK mhz : Nat) : Nat := fpK * 1024 * mhz / 8000 - 8

/-- Whether a register has a staged change. -/
def State.changed (s : State) (a : Nat) : Bool := s.hawk.staged.any fun e => e.1 == a

/-- The numbers that `f` gives the addresses with a staged change, rising. -/
def State.changedBy (s : State) (f : Nat → Option Nat) : List Nat :=
  ((s.hawk.staged.filterMap fun e => f e.1).foldl addTo []).insertionSort (· ≤ ·)

def State.heldOutDie (s : State) (d : Nat) : Bool := s.getF (Reg.dieState d) == 5
def State.heldOutHub (s : State) (p : Nat) : Bool := s.getF (Reg.hubState p) == 3

/-- The group whose field a register holds, on a die that is not held out. -/
def State.groupAt (s : State) (a : Nat) : Option Nat :=
  if a < 0x1000000 ∨ 0x1800000 ≤ a ∨ s.heldOutDie ((a - 0x1000000) / 0x100000) then none
  else
    let o := a % 0x100000
    if 0x8000 ≤ o ∧ o < 0xA000 then some ((o - 0x8000) / 8)
    else if 0xA000 ≤ o ∧ o < 0x12000 then some ((o - 0xA000) / 32) else none

/-- Whether a tile group breaks R77. -/
def State.groupBad (s : State) (g : Nat) : Bool :=
  let dies := (List.range 8).filter fun d => !s.heldOutDie d && s.getSF (Reg.grpValid d g) == 1
  let rangeBad := dies.any fun d =>
    decide (s.getSF (Reg.grpLast d g) < s.getSF (Reg.grpFirst d g) ∨ s.getF (Reg.gradeCount d) ≤ s.getSF (Reg.grpLast d g))
  let word := fun (d : Nat) =>
    s.getStaged (Reg.grpRimGrant d g).addr :: (List.range 8).map fun i => s.getStaged (Reg.grpKey d g i)
  let differ := match dies with | [] => false | d :: r => r.any fun e => word e != word d
  rangeBad || differ || s.courses.any fun c => c.group == g

/-- The spoke entry whose field a register holds: 65,536 times the hub, and the entry. -/
def State.spokeAt (s : State) (a : Nat) : Option Nat :=
  if a < 0x2000000 ∨ 0x2200000 ≤ a then none
  else
    let p := (a - 0x2000000) / 0x10000
    let o := a % 0x10000
    if 0x2000 ≤ o ∧ o < 0x6000 ∧ !s.heldOutHub p then some (p * 65536 + (o - 0x2000) / 16) else none

/-- Whether a COPY or FILL that has started names a spoke entry, at the hub that launches for it (R227). -/
def State.copyNames (s : State) (e : Nat) : Bool :=
  s.host.sq.any fun r => r.2.started.any fun d =>
    !d.finished && (descOpcode d.line == 2 || descOpcode d.line == 3) && xferSpoke d.line && xferEntry d.line == e

/-- Whether a changed spoke entry breaks R227. -/
def State.spokeBad (s : State) (x : Nat) : Bool :=
  let p := x / 65536
  let e := x % 65536
  let t := s.getSF (Reg.spkTargets p e)
  let inFlight := (List.range 32).any fun h => (s.hub h).spokes.any fun o => o.entry == e && (h == p || o.targets.testBit p)
  let armed := s.fab.plaits.any fun k => match k.2 with
    | some g => decide (g.phase < 4) && g.spoke == some e && (g.port == p || (s.getF (Reg.spkTargets g.port e)).testBit p)
    | none => false
  let started := s.copyNames e && (s.ioPort == p || (s.getF (Reg.spkTargets s.ioPort e)).testBit p)
  t.testBit p || ((List.range 32).any fun q => t.testBit q && s.heldOutHub q) || inFlight || armed || started

/-- The rim channel whose field a register holds. -/
def State.rimAt (s : State) (a : Nat) : Option Nat :=
  if a < 0x2000000 ∨ 0x2200000 ≤ a ∨ s.heldOutHub ((a - 0x2000000) / 0x10000) then none
  else if 0x6000 ≤ a % 0x10000 ∧ a % 0x10000 < 0x6200 then some ((a % 0x10000 - 0x6000) / 8) else none

/-- Whether a changed rim channel breaks R218. -/
def State.rimBad (s : State) (c : Nat) : Bool :=
  let hubs := (List.range 32).filter fun p => !s.heldOutHub p && s.getSF (Reg.rimValid p c) == 1
  let together := fun (p q : Nat) => p / 2 == q / 2 && decide (p < 16) || (decide (28 ≤ p) && decide (28 ≤ q))
  let pairBad := hubs.any fun p => hubs.any fun q =>
    s.getSF (Reg.rimMask p c) != s.getSF (Reg.rimMask q c) ||
    (together p q && s.getSF (Reg.rimExpect p c) != s.getSF (Reg.rimExpect q c))
  pairBad || (List.range 32).any fun p => s.getF (Reg.rimArrived p c) != 0

/-- Whether the copies of a partition can be written: those that are not held out. -/
def State.partitionOpen (s : State) (g : Nat) : Bool :=
  let ok := fun (d : Nat) => s.getF (Reg.sdState d) == 1
  let out := fun (d : Nat) => s.getF (Reg.sdState d) == 3
  let a := g % 8
  let b := (g + 4) % 8
  (ok a || out a) && (ok b || out b) && (ok a || ok b)

/-- The first granule of the region list that breaks R267. -/
def State.regionBad (s : State) : Option Nat :=
  let l := s.hawk.rgnStage
  (l.find? fun w =>
    decide (1 < (l.filter fun x => x.granule == w.granule).length) || (w.word &&& 0x300#64) == 0x300#64 ||
    (w.word &&& 0xFFFF00000000FC00#64) != 0#64 || (s.region w.granule).pending || !s.partitionOpen w.granule).map RgnWord.granule

/-- Whether the fields of a stack controller are out of range (R306, R318). -/
def State.scBad (s : State) (k : Nat) : Bool :=
  let pass := s.getSF (Reg.passMin k)
  let refresh := s.getSF (Reg.refreshMin k)
  !s.on (Reg.identHeldOut (16 + k)) &&
  (s.getSF (Reg.settleNormal k) == 0 || s.getSF (Reg.settleLong k) == 0 ||
    decide (pass < 10 ∨ 1380 < pass ∨ refresh < 60 ∨ 1380 < refresh ∨ 1440 < pass + refresh))

/-- The home of an armed L3 group that changes (R380). -/
def State.homeBad (s : State) : Option Nat :=
  (s.changedBy fun a => if 0x3401000 ≤ a ∧ a < 0x3405000 then some ((a - 0x3401000) / 4) else none).find? fun g => s.plaitArmed g

/-- The rules of R425 in order: the code, whether it fails, and its detail. -/
def State.hawkRules (s : State) (c : Check) : List (Nat × Bool × Nat) :=
  let profile := s.getSF Reg.glbProfile
  let fpK := s.getSF Reg.fpK
  let mhz := s.getSF Reg.computeMhz
  let budget := lapBudgetOf fpK mhz
  let step := s.getSF Reg.memStep
  let group := (s.changedBy s.groupAt).find? fun g => s.groupBad g
  let spoke := (s.changedBy s.spokeAt).find? fun x => s.spokeBad x
  let rim := (s.changedBy s.rimAt).find? fun x => s.rimBad x
  let stack := (List.range 12).find? fun k => s.scBad k
  [ (0x01, decide (c.tick < c.goTime + 65536 ∨ c.tick ≤ s.clk.now), (c.frame % 2 ^ 32).toNat),
    (0x02, s.on Reg.glbRelocking && s.planeSet profile != s.planeSet (s.getF Reg.glbProfile), profile),
    (0x03, decide (fpK < 4 ∨ 1024 < fpK), fpK),
    (0x04, decide (fpK * 1024 ≤ s.getSF Reg.lapOffset), s.getSF Reg.lapOffset),
    (0x05, decide (mhz % 25 ≠ 0 ∨ mhz < 1000 ∨ 1900 < mhz ∨ profileMhz profile < mhz), mhz),
    (0x06, decide (step ≠ profileStep profile), step),
    (0x07, decide (budget < s.getF Reg.boundMax), budget),
    (0x08, decide (s.getF Reg.computeMhz < mhz ∧ c.tick < c.goTime + 262144), c.tick - c.goTime),
    (0x09, decide (step ≠ s.clk.memNext) && (decide (fpK * 1024 < 16384) || s.on Reg.memstopActive), fpK * 1024),
    (0x0A, group.isSome, group.getD 0),
    (0x0B, spoke.isSome, spoke.getD 0),
    (0x0C, rim.isSome, rim.getD 0),
    (0x0D, s.regionBad.isSome, s.regionBad.getD 0),
    (0x0E, stack.isSome, stack.getD 0),
    (0x0F, s.on Reg.wtyDraining && s.getSF Reg.wtyActive != s.getF Reg.wtyActive, s.controller),
    (0x10, s.homeBad.isSome, s.homeBad.getD 0) ]

/-! ## Check, cancel, discard (R421, R424, R426) -/

/-- A write of GO: the check starts, with TROWEL_AT resolved (R47). -/
def State.hawkGo (s : State) : State :=
  let st := s.getF Reg.hawkState
  if st = 1 ∨ st = 2 then s.writeIgnored
  else
    let n := s.resolveFrame (s.getF Reg.trowelAt)
    let tick := (s.clk.tick : Int) + (n - s.clk.frame) * s.fp
    let c : Check := ⟨s.clk.now, n, tick.toNat⟩
    ({ s with hawk := { s.hawk with check := some c } }.setF Reg.hawkState 1).setB Reg.hawkRerun false

/-- HAWK_CHECK_GO (R424). -/
def execHawkCheckGo (s : State) : Out := s.live fun s => .next (s.written Reg.hawkBase State.hawkGo)

/-- The check passes: the region words are written, the changed values are armed, and the list is empty. -/
def State.hawkPass (s : State) (c : Check) : State :=
  let frame := (c.frame % 2 ^ 48).toNat
  let list := s.hawk.rgnStage
  let s := list.foldl (fun s w =>
    (s.setRegion w.granule { s.region w.granule with staged := w.word, pending := true, atFrame := frame % 65536 }).wroteEntry w.granule) s
  let a : Armed :=
    { frame := frame, tick := c.tick, words := s.hawk.staged, regionCount := list.length,
      raises := decide (s.getF Reg.computeMhz < s.getSF Reg.computeMhz) }
  let s := { s with hawk := { s.hawk with check := none, armed := some a, staged := [] } }.clearRgnStage
  let s := (s.setF Reg.hawkState 2).setF Reg.hawkRule 0
  (s.setF Reg.hawkTickLo c.tick).setF Reg.hawkTickHi (c.tick / 2 ^ 32)

/-- HAWK_CHECK_DONE (R424, R425): the check ends with the lowest code that fails, or the set is armed. -/
def execHawkCheckDone (s : State) : Out := s.live fun s =>
  match s.hawk.check with
  | none => .next s
  | some c =>
    match (s.hawkRules c).find? (fun r => r.2.1) with
    | none => .next (s.hawkPass c)
    | some r =>
      let s := { s with hawk := { s.hawk with check := none } }.setF Reg.hawkState 3
      .next ((s.setF Reg.hawkRule r.1).setF Reg.hawkDetail r.2.2)

/-- The armed set is gone; what is staged stays staged. -/
def State.disarm (s : State) (x : Armed) : State :=
  let keys := (x.words ++ s.hawk.staged).map Prod.fst
  let values := keys.map fun a => (a, s.getStaged a)
  let s := { s with hawk := { s.hawk with armed := none, staged := [] } }
  values.foldl (fun s e => s.stage e.1 e.2) s

/-- A write of CANCEL (R426). -/
def State.hawkCancelWrite (s : State) : State :=
  match s.hawk.armed with
  | none => s
  | some x =>
    if x.tick < s.clk.now + 60000 then s.setB Reg.hawkCancelLate true
    else
      let mine := fun (r : Region) => r.pending && r.atFrame == x.frame % 65536
      let s := s.regions.foldl (fun s e =>
        if mine e.2 then (s.setRegion e.1 { e.2 with staged := 0, pending := false, atFrame := 0 }).wroteEntry e.1 else s) s
      let s := (s.disarm x).setF Reg.hawkState 0
      if x.raises ∧ (s.clk.ramp = .raising ∨ s.clk.ramp = .raised) then
        { s with clk := { s.clk with ramp := .lowering } }.setB Reg.rampActive true
      else s

/-- HAWK_CANCEL. -/
def execHawkCancel (s : State) : Out := s.live fun s => .next (s.written Reg.hawkBase State.hawkCancelWrite)

/-- A write of DISCARD (R426): the staged values return to those that will be in force, and the region list is empty. -/
def State.hawkDiscardWrite (s : State) : State :=
  if s.hawkBusy then s else { s with hawk := { s.hawk with staged := [] } }.clearRgnStage

/-- HAWK_DISCARD. -/
def execHawkDiscard (s : State) : Out := s.live fun s => .next (s.written Reg.hawkBase State.hawkDiscardWrite)

/-! ## The trowel (R422) -/

/-- STK_LAP_RATE, STK_LAP_BUDGET and STK_STRETCH_ALLOW of the values in force (R52). -/
def State.refreshRates (s : State) : State :=
  let fpK := s.getF Reg.fpK
  let mhz := s.getF Reg.computeMhz
  let old := s.getF Reg.stretchAllow
  let s : State := if stretchOf fpK mhz = old then s
    else { s with clk := { s.clk with allowTick := s.clk.tick + 1, allowOld := old } }
  ((s.setF Reg.lapRateKhz (mhz * 875)).setF Reg.lapBudget (lapBudgetOf fpK mhz)).setF Reg.stretchAllow (stretchOf fpK mhz)

/-- One RWH word comes into force; a change of a rim channel returns its flag to 0 at every hub (R218). Those of STK_CLASS_FREQ and WTY_EPOCH follow steps of their own. -/
def State.applyWord (s : State) (a : Nat) (w : W32) : State :=
  if a = Reg.memStep.addr ∨ a = Reg.wtyActive.addr then s
  else
    let s := s.setR a ((s.getR a &&& ~~~rwhMask a) ||| (w &&& rwhMask a))
    match s.rimAt a with
    | some c => (List.range 32).foldl (fun s p => s.setF (Reg.rimFlag p c) 0) s
    | none => s

/-- Every lookaside entry and target cache is invalid (R68, R266). -/
def State.dropCaches (s : State) : State :=
  let s := s.tiles.foldl (fun s e => s.modTile e.1 fun t => { t with look := [] }) s
  { s with fab := { s.fab with rgnCache := [] } }

/-- The regions of a wave of a memory-class change (R57). -/
def State.wave (s : State) (second : Bool) : List Nat :=
  let hubs := ((List.range 32).filter fun p => p % 2 == second.toNat && !s.heldOutHub p).map fun p => 0x1000 + p
  if second then hubs ++ [0x1200]
  else ((List.range 12).filter fun k => !s.on (Reg.identHeldOut (16 + k))).map (fun k => 0x1100 + k) ++ hubs ++ [0x1201]

/-- Step 6 of R49: the first wave of a memory-class change begins. -/
def State.firstWave (s : State) (step : Nat) : State :=
  let s := { s with clk := { s.clk with stopped := s.wave false, memWave := false, memNext := step, memTick := s.clk.tick } }
  ((s.setB Reg.memstopActive true).setF Reg.memstopWave 0).setF Reg.memstopLastMax 0

/-- Step 4 of R49: tiles and meshes switch to a new frequency (R56). -/
def State.switchFreq (s : State) (mhz : Nat) : State :=
  let old := s.getF Reg.computeMhz
  if mhz = old then s
  else
    let s := s.setF Reg.computeMhz mhz
    if old < mhz then { s with clk := { s.clk with ramp := .idle } }.setB Reg.rampActive false
    else { s with clk := { s.clk with ramp := .lowering } }.setB Reg.rampActive true

/-- Steps 3 and 4 of R49 for an armed set, and the first wave of step 6 after the capture `mid` of step 5 (R422). -/
def State.trowel (s : State) (x : Armed) (mid : State → State) : State :=
  let frame := s.clk.frame
  let new := fun (f : Fld) (old : Nat) => match Tbl.find x.words f.addr with | some w => f.of w | none => old
  let mhz := new Reg.computeMhz (s.getF Reg.computeMhz)
  let step := new Reg.memStep s.clk.memNext
  let epoch := new Reg.wtyActive (s.getF Reg.wtyActive)
  let oldFp := s.getF Reg.fpK
  let oldMhz := s.getF Reg.computeMhz
  let profile := s.getF Reg.glbProfile
  let s := { s with hawk := { s.hawk with armed := none } }
  let s := x.words.foldl (fun s e => s.applyWord e.1 e.2) s
  let s : State := if s.getF Reg.glbProfile ≠ profile ∧ s.getF Reg.fabric = 2 then s.switchPlanes else s
  let s : State := if s.getF Reg.fpK = oldFp then s else s.raise 0x1007 0xFFFF [oldFp, s.getF Reg.fpK, frame]
  let s : State := if epoch = s.getF Reg.wtyActive then s else s.flipEpoch epoch
  let s : State := if x.regionCount = 0 then s else s.raise 0x4202 (0x1200 + s.controller) [frame, x.regionCount]
  let s := (s.setF Reg.hawkState 0).setF Reg.hawkLastFrame frame
  let s := s.switchFreq mhz
  let s : State := if mhz = oldMhz then s else s.raise 0x1006 0xFFFF [0, mhz, frame]
  let s := mid s.refreshRates
  if step = s.clk.memNext then s else s.firstWave step

/-- PROFILE_PLANES_ADDED (R430): at the first tick after relock every pair retrains onto the added planes. -/
def execProfilePlanesAdded (s : State) : Out := s.live fun s =>
  match s.hawk.relight with
  | none => .next s
  | some x =>
    if !x.waiting.isEmpty ∨ s.clk.now ≠ s.clk.tick ∨ s.getF Reg.fabric ≠ 2 then .next s
    else .next (s.usePlanes x.profile).refreshLasers.retrainAll

end Sys2Proof.Machine
end

