-- ==== Sys2Proof/Machine/Clock.lean ====
section
/-!
DEFINITION. Stake time, frames, frequency changes and clock loss (R38-R64).
-/
namespace Sys2Proof.Machine

/-- The source of time events (R478). -/
def timeUnit : Nat := 0xFFFF

/-! ## The master (R38-R40, R45, R388) -/

/-- STAKE_MASTER_START (R45): in phase 1 of bring-up, with REFCLK good, the master counts from 0; frame 0 begins (R46). -/
def execStakeMasterStart (s : State) : Out := s.live fun s =>
  if s.clk.running ∨ s.clk.dead ∨ s.getF Reg.glbPhase ≠ 1 then .next s
  else
    let clk := { s.clk with running := true, now := 0, frame := 0, tick := 0, lapDue := true, lapWindow := 0 }
    .next ({ s with clk := clk }.setB Reg.refOk true)

/-- MASTER_SWITCHED (R39): the generator in SF6 takes over. -/
def execMasterSwitched (s : State) : Out := s.live fun s =>
  if s.on Reg.masterSpare ∨ !s.clk.running then .next s
  else .next (((s.setB Reg.masterSpare true).raise 0x1009 timeUnit [s.clk.now]).setDegraded 9 true)

/-- MASTER_FAILED (R388): the second generator fails too. Every unit stops, and the stacks flush. -/
def execMasterFailed (s : State) : Out :=
  if !s.on Reg.masterSpare ∨ s.clk.dead then .next s
  else
    let s := (List.range 12).foldl (fun s k => s.stackFlush k s.clk.now) s
    .next { s with clk := { s.clk with dead := true, running := false } }.updatePins

/-- STAKE_LEG_MEASURE (R40, R248, R249): a leg is measured again once per 1,024 frames; A correction of more than 1 st slews in. -/
def execStakeLegMeasure (leg : Fin 54) (m : Measured) (s : State) : Out := s.live fun s =>
  let due := Tbl.look (fun _ => 0) s.clk.legFrame leg
  if !s.clk.running ∨ (due ≠ 0 ∧ s.clk.frame + 1 < due + 1024) then .next s
  else
    let s := { s with clk := { s.clk with legFrame := Tbl.put (fun _ => 0) s.clk.legFrame leg (s.clk.frame + 1) } }
    .next (s.calResult .leg leg 0 m.value m.again)

/-! ## The reference (R42-R44) -/

/-- Whether the reference monitor declares the reference lost (R42): 64 expected edges, 640 st, have passed since the last good
one, or the frequency over a window of 1,048,576 periods is off by more than 200 ppm. The deviation comes in ppb. -/
def State.refGone (s : State) (deviation : Option Int) (lastEdge : Nat) : Bool :=
  match deviation with
  | none => decide (lastEdge + 640 ≤ s.clk.now)
  | some ppb => decide (lastEdge ≤ s.clk.now ∧ 200000 < ppb.natAbs)

/-- The least magnitude that the offset still to be slewed can have (R44): the slew runs at no more than 50 ppm, which is 2/625 of a
64th of an st for each st. -/
def State.slewLeast (s : State) : Nat := s.clk.slewOffset.natAbs - (2 * (s.clk.now - s.clk.slewStart) + 624) / 625

/-- The magnitude that REMAIN shows during a slew: it counts down from the measured offset, and never faster than the slew can run.
The rule gives the bound and no rate, so where it stands between is a free value (log entry 23). -/
def State.slewShown (s : State) : Nat :=
  let top := ((BitVec.ofNat 16 (s.getF Reg.slewRemain)).toInt).natAbs
  let least := min top s.slewLeast
  least + s.freeWord.toNat % (top - least + 1)

/-- REMAIN as a signed field. -/
def State.slewField (s : State) : Nat :=
  let m : Int := s.slewShown
  ((if s.clk.slewOffset < 0 then -m else m) % 65536).toNat

/-- REMAIN takes the value that it shows. -/
def State.countSlew (s : State) : State := if s.on Reg.slewActive then (s.setF Reg.slewRemain s.slewField).tookFree else s

/-- REF_LOST (R42, R43): holdover begins, and a slew in progress stops with what was not slewed out left in REMAIN (R44). -/
def execRefLost (deviation : Option Int) (lastEdge : Nat) (s : State) : Out := s.live fun s =>
  if !s.on Reg.refOk ∨ !s.refGone deviation lastEdge then .next s
  else
    let outOfTolerance := deviation.isSome
    let s := s.countSlew
    let s := ((s.setB Reg.refOk false).setB Reg.holdover true).setB Reg.slewActive false
    let s := { s with clk := { s.clk with lastEdge := lastEdge } }.raise 0x1001 timeUnit [lastEdge, outOfTolerance.toNat]
    .next (s.bump Reg.refLosses 1)

/-- REF_RESTORED (R44): REFCLK has been present without a break since an instant at least 1 ms past. The master relocks and begins
to slew out the offset, in 1/64 st, between −5 and +4 st. -/
def execRefRestored (ref : RefReturn) (s : State) : Out := s.live fun s =>
  let offset64 := ref.offset64
  let since := ref.since
  if !s.on Reg.holdover ∨ offset64 < -320 ∨ 256 < offset64 ∨ since < s.clk.lastEdge ∨ s.clk.now < since + 1000000 then .next s
  else
    let s := ((s.setB Reg.holdover false).setB Reg.refOk true).setB Reg.slewActive true
    let s := s.setF Reg.slewRemain (offset64 % 65536).toNat
    .next ({ s with clk := { s.clk with slewStart := s.clk.now, slewOffset := offset64 } }.raise 0x1002 timeUnit [signedItem offset64])

/-- SLEW_DONE (R44): the offset reaches zero, at no more than 50 ppm. -/
def execSlewDone (s : State) : Out := s.live fun s =>
  if !s.on Reg.slewActive ∨ 2 * (s.clk.now - s.clk.slewStart) < 625 * s.clk.slewOffset.natAbs then .next s
  else
    let s := (s.setB Reg.slewActive false).setF Reg.slewRemain 0
    .next (s.raise 0x1003 timeUnit [s.clk.now - s.clk.slewStart])

/-! ## Droop (R51, R53) -/

/-- DROOP_STRETCH (R51): a tile or mesh region stretches a period, which the tally of its lap window counts. -/
def execDroopStretch (die : DieN) (site : Option (Fin 288)) (s : State) : Out := s.live fun s =>
  let u := die.val * 512 + (match site with | some x => x.val | none => 0x1FF)
  if !s.clk.running ∨ s.getF (Reg.dieState die) ≠ 1 then .next s
  else
    let n := Tbl.look (fun _ => 0) s.clk.stretch u
    .next { s with clk := { s.clk with stretch := Tbl.put (fun _ => 0) s.clk.stretch u (n + 1) } }

/-! ## Frequency changes (R56, R57) -/

/-- RAIL_RAMP_START (R56): 200,000 st before the tick of a set that raises COMPUTE_MHZ. -/
def execRailRampStart (s : State) : Out := s.live fun s =>
  match s.hawk.armed with
  | none => .next s
  | some x =>
    if !x.raises ∨ s.clk.ramp = .raising ∨ s.clk.ramp = .raised ∨ s.nextTick ≤ x.tick - 200000 then .next s
    else .next ({ s.reach (x.tick - 200000) with clk := { (s.reach (x.tick - 200000)).clk with ramp := .raising } }.setB Reg.rampActive true)

/-- RAIL_RAMP_SETTLED (R56). -/
def execRailRampSettled (s : State) : Out := s.live fun s =>
  match s.clk.ramp with
  | .raising => .next ({ s with clk := { s.clk with ramp := .raised } }.setB Reg.rampActive false)
  | .lowering => .next ({ s with clk := { s.clk with ramp := .idle } }.setB Reg.rampActive false)
  | _ => .next s

/-- MEMSTOP_SECOND_WAVE (R57): at the tick plus 4,000 st. -/
def execMemstopSecondWave (s : State) : Out := s.live fun s =>
  if !s.on Reg.memstopActive ∨ s.clk.memWave ∨ !s.clk.running then .next s
  else
    let s := s.reach (s.clk.memTick + 4000)
    .next ({ s with clk := { s.clk with memWave := true, stopped := s.clk.stopped ++ s.wave true } }.setF Reg.memstopWave 1)

/-- The unit that stands for a region of the memory and I/O class. -/
def regionUnit : MemRegion → Nat
  | .stack k => 0x1100 + k.val
  | .hub p => 0x1000 + p.val
  | .io n => 0x1200 + n.val

/-- MEMSTOP_REGION_RESTART (R57): a region restarts at the new rates; the change completes when the second wave has. -/
def execMemstopRegionRestart (r : MemRegion) (stopSt : Nat) (s : State) : Out := s.live fun s =>
  let u := regionUnit r
  if u ∉ s.clk.stopped then .next s
  else
    let step := s.clk.memNext
    let rest := s.clk.stopped.filter fun x => x != u
    let clk := { s.clk with
      stopped := rest, regionStep := Tbl.put (fun _ => 0) s.clk.regionStep u step
      lastStop := Tbl.put (fun _ => (0, 0)) s.clk.lastStop u (s.clk.now, min stopSt 3000) }
    let s : State := { s with clk := clk }
    let s := s.setF Reg.memstopLastMax (max (s.getF Reg.memstopLastMax) (min stopSt 3000))
    let s : State := match r with | .hub p => s.resumePatience p (min stopSt 3000) | _ => s
    if s.clk.memWave ∧ rest.isEmpty then
      let s := (s.setF Reg.memStep step).setB Reg.memstopActive false
      .next ({ s with clk := { s.clk with memWave := false } }.raise 0x1006 timeUnit [1, step, s.clk.frame])
    else .next s

/-! ## Clock loss of a die (R59, R60) -/

/-- Whether a hub is one of a die's (R2). -/
def hubOfDie (hub i : Nat) : Bool :=
  if i < 8 then hub / 2 == i else if i < 16 then false else if i < 28 then hub == i else hub / 2 == i - 14

/-- Whether a die sends echoes: it runs, and neither it nor the hub is stopped for a memory-class change (R57). -/
def State.echoes (s : State) (hub i : Nat) : Bool :=
  let runs := if i < 8 then s.getF (Reg.dieState i) == 1
    else if i < 28 then s.getF (Reg.scState (i - 16)) == 1 || s.getF (Reg.scState (i - 16)) == 2
    else s.getF (Reg.dieState i) == 1 || s.getF (Reg.dieState i) == 6
  let unit := if i < 16 then 0xFFFF else if i < 28 then 0x1100 + (i - 16) else 0x1200 + (i - 28)
  hubOfDie hub i && runs && s.clk.running && !s.clk.stopped.any fun u => u == unit || u == 0x1000 + hub

/-- A die is clock-lost (R59, R60): a compute or I/O die is isolated, a stack controller resets. -/
def State.clockLoss (s : State) (hub i how : Nat) : State :=
  if s.on (Reg.clockLost i) then s
  else
    let s := (s.setB (Reg.clockLost i) true).raise 0x1005 timeUnit [i, hub, how]
    if i < 8 then s.isolate i 0 else if i < 28 then s.scReset (i - 16) 2 else s.ioFailed (i - 28) 2

/-- The key of a hub and a die among the echoes. -/
def echoKey (hub i : Nat) : Nat := hub * 64 + i

/-- STK_STATUS.ALIGNED (R62): the last echo of every die was within 1 st of the master. -/
def State.refreshAligned (s : State) : State :=
  s.setB Reg.stkAligned (s.clk.echo.all fun e => decide (e.2.2.natAbs ≤ 1))

/-- An echo is noted: when it came, and by how much the die's copy is off (R59). A copy that is being slewed back is so until it is
within 1 st again. -/
def State.noteEcho (s : State) (hub i : Nat) (offset : Int) : State :=
  let clk := { s.clk with echo := Tbl.put (fun _ => (0, 0)) s.clk.echo (echoKey hub i) (s.clk.now, offset),
                          slewing := if offset.natAbs ≤ 1 then s.clk.slewing.filter (fun j => j != i) else s.clk.slewing }
  { s with clk := clk }.refreshAligned

/-- STAKE_ECHO (R59): beyond 64 st the die is clock-lost; beyond 4 st in 16 consecutive echoes it is slewed back. -/
def execStakeEcho (hub : PortN) (die : Fin 30) (offset : Int) (s : State) : Out := s.live fun s =>
  let key := echoKey hub die
  if !s.echoes hub die then .next s
  else
    let s := s.noteEcho hub die offset
    if 64 < offset.natAbs then .next (s.clockLoss hub die 1)
    else
      let n := if 4 < offset.natAbs then Tbl.look (fun _ => 0) s.clk.drift key + 1 else 0
      let s := { s with clk := { s.clk with drift := Tbl.put (fun _ => 0) s.clk.drift key n } }
      .next (if n = 16 then
        { s with clk := { s.clk with slewing := addTo s.clk.slewing die.val } }.raise 0x1004 timeUnit [die.val, signedItem offset]
      else s)

/-- The instant from which the absence of an echo counts (R57, R59): the last echo, the end of the last stop of the die or of the
hub, or the master's start. -/
def State.echoSince (s : State) (hub i : Nat) : Nat :=
  let unit := if i < 28 then 0x1100 + (i - 16) else 0x1200 + (i - 28)
  let stop := fun u => (Tbl.look (fun _ => (0, 0)) s.clk.lastStop u).1
  max (Tbl.look (fun _ => (0, (0 : Int))) s.clk.echo (echoKey hub i)).1 (max (stop (0x1000 + hub)) (if i < 16 then 0 else stop unit))

/-- DIE_CLOCK_LOST (R59): no advancing echo for 2 µs. -/
def execDieClockLost (hub : PortN) (die : Fin 30) (s : State) : Out := s.live fun s =>
  .next (if s.echoes hub die ∧ s.echoSince hub die + 2000 ≤ s.clk.now then s.clockLoss hub die 0 else s)

/-! ## The tick (R46, R49) -/

/-- Steps 1 to 7 of R49. What was summed over the frame that ends is raised first (R479), and a lap instant of it that is still
to come takes place. -/
def State.frameTick (s : State) : State :=
  let s := if s.clk.lapDue then s.lapInstant else s
  let t := s.nextTick
  let s := (s.reach t).raiseAcc fun c => !atLapInstant c
  let s := { s with clk := { s.clk with frame := (s.clk.frame + 1) % 2 ^ 48, tick := t, lapDue := true } }
  let s := s.latchTick
  let s := if (List.range 256).any s.fullWaits then s.countFull else s
  let s := match s.hawk.armed with
    | some x => if x.frame = s.clk.frame then s.trowel x State.shadowCapture else s.shadowCapture
    | none => s.shadowCapture
  let s := s.dropCaches
  let s := (List.range 12).foldl (fun s k => (s.queueDue k).skimTick k) s
  let s := (List.range 324).foldl (fun s l => s.fadeTest l) s
  s.featherAll

/-- FRAME_TICK. -/
def execFrameTick (s : State) : Out := s.live fun s => .next (if s.clk.running then s.frameTick else s)

end Sys2Proof.Machine
end

