-- ==== Sys2Proof/Machine/BringUp.lean ====
section
/-!
DEFINITION. Power-up, bring-up and power-down (R29-R33, R74, R202, R312, R431-R434, R439-R445).
-/
namespace Sys2Proof.Machine

/-! ## Power (R410, R431) -/

/-- POWER_UP (R431): a feed is in range and PWRFAIL_N is high; bring-up begins in phase 0. -/
def execPowerUp (feedA feedB : Bool) (s : State) : Out :=
  if s.pins.feedA ∨ s.pins.feedB ∨ (!feedA ∧ !feedB) then .next s
  else
    let s := { s with pins := { s.pins with feedA := feedA, feedB := feedB, pwrfailN := true } }
    let s := (((s.setB (Reg.feedOk 0) feedA).setB (Reg.feedOk 1) feedB).setB (Reg.feedSetOk 0) true).setB (Reg.feedSetOk 1) true
    let s := (List.range 16).foldl (fun s j => s.setB (Reg.pwrRegInService j) (if j < 8 then feedA else feedB)) s
    .next s.refreshFeeds.updatePins

/-- Bring-up fails (R433). -/
def State.failBringup (s : State) (cause : Nat) : State :=
  ((s.setF Reg.glbPhase 15).setF Reg.glbFailCause cause).updatePins

/-! ## Identity (R29-R33) -/

/-- Whether a die's identity holds it out: unreadable, of another type or position, at level 0, or short of a required bit. -/
def State.identBad (s : State) (r : PhaseReport) (i : Nat) : Bool :=
  (r.unreadable.any fun x => x.val == i) || s.getF (Reg.identType i) != identReset i % 256 ||
  s.getF (Reg.identPosition i) != identReset i / 256 % 256 || s.getF (Reg.identCapLevel i) == 0 ||
  s.getF (Reg.dieCaps i) &&& capsReset i != capsReset i

/-- A die is held out (R33). Its words of the die identity table keep what the fuses give, also where they could not be read (log entry
5). A laser die held out shows as the lasers of its set failed (log entry 140). -/
def State.holdOut (s : State) (i : Nat) : State :=
  let s := s.setB (Reg.identHeldOut i) true
  let s := if i < 30 then s.setF (Reg.dieState i) 5 else s
  let hubs := if i < 8 then [2 * i, 2 * i + 1] else if i < 16 then [] else if i < 28 then [i] else if i < 30 then [2 * i - 28, 2 * i - 27] else []
  let s := hubs.foldl (fun s p => s.setF (Reg.hubState p) 3) s
  if 8 ≤ i ∧ i < 16 then s.setF (Reg.sdState (i - 8)) 3
  else if i = 30 then (List.range 324).foldl (fun s l => s.setB (Reg.lsrFailed l false) true) s
  else if i = 31 then (List.range 324).foldl (fun s l => s.setB (Reg.lsrFailed l true) true) s
  else s

/-- Phase 2: the identities are read; the seal loop, the fuses, the random sources and the sealed stores are tested (R439,
R442, R445, R451). -/
def State.phaseIdentity (s : State) (r : PhaseReport) : State :=
  let bad := (List.range 32).filter fun i => s.identBad r i
  let out := (List.range 32).filter fun i =>
    decide (i ∈ bad) || (decide (i < 8) && decide (i + 8 ∈ bad)) || (decide (8 ≤ i ∧ i < 16) && decide (i - 8 ∈ bad))
  let s := out.foldl (fun s i => s.holdOut i) s
  let s := if 28 ∈ out ∧ 29 ∉ out then (s.setF Reg.hlthController 1).setF Reg.ringController 1 else s
  let s := out.foldl (fun s i => s.raise 0x7E01 s.hlthUnit [i]) s
  let s := s.refreshDies.refreshLasers
  let levels := ((List.range 33).filter fun i => !s.on (Reg.identHeldOut i)).map fun i => s.getF (Reg.identCapLevel i)
  let s := (s.setF Reg.pkgLevel (levels.foldl min 15)).setF Reg.heldOutCount out.length
  let s := s.sealTest r.sealIntact false
  let s := s.blow s.fuseCount
  let s := [0, 1].foldl (fun s d => s.setRng d (r.rngOk.getD d false)) s
  s.checkStores (r.storeBad.map fun d => d.val)

/-! ## The other phases (R431) -/

/-- Phase 3: dies self-test, and logical tiles are assigned (R74). -/
def State.phaseSelfTest (s : State) (r : PhaseReport) : State :=
  let s := (List.range 8).foldl (fun s d =>
    if s.getF (Reg.dieState d) = 5 then s
    else if r.failedDies.any (fun x => x.val == d) then s.setDie Reg.dieState d 4
    else
      let s := (s.setDie Reg.dieState d 1).setF (Reg.sdState d) 1
      let s := (List.range 4).foldl (fun s p => s.setF (Reg.sliceState d (288 + p)) 4) s
      s.assignSites d ((r.failedSites.filter fun t => t.die.val == d).map fun t => t.site.val)) s
  let s := s.refreshDies.refreshTiles
  let c := s.controller
  if s.ioOut c then s else (s.setF (Reg.dieState (28 + c)) 1).setB (Reg.carriesControl c) true

/-- Phase 4: vertical links train, and the hubs are in service. -/
def State.phaseLinks (s : State) : State :=
  let s := (List.range 32).foldl (fun s p => if s.getF (Reg.hubState p) = 3 then s else s.setF (Reg.hubState p) 1) s
  let s := { s.setB Reg.stkAligned true with clk := { s.clk with gateAt := s.clk.now } }
  s.setB Reg.glbGateWaiting (s.on Reg.restoreOpen)

/-- Phase 6: the fabric's lasers are lit and on their passbands, those of colour 0 for self-test; the rings' sweeps begin. The Withy
lasers of each I/O die that is not held out are lit with them (log entry 136). -/
def State.phaseLasers (s : State) : State :=
  let s := (List.range 19008).foldl (fun s r =>
    if ringSlot r < 31 then s.setF (Reg.heatColour r) (ringSlot r + 1) else s) s
  let s := (List.range 288).foldl (fun s l => s.onGrid l) s.beginAcquire
  let withy := (List.range 36).filter fun i => !s.on (Reg.identHeldOut (28 + i / 18))
  (withy.foldl (fun s i => s.lightLaser (288 + i)) s).refreshLasers

/-- Phase 7: every ring that is still being acquired locks: in a warm bring-up from its restored point, in a cold one where its
sweep finds it. -/
def State.phaseRings (s : State) : State :=
  let rings := (List.range 19008).filter fun r => s.getF (Reg.heatState r) == 1
  let warm := s.on Reg.glbWarm
  let s := s.eachRing rings fun n s r => s.lockRing n (if warm then (s.heat r).point else 0) r
  if warm then s else s.bump (Reg.lxCnt 2) rings.length

/-- Phase 8: every pair trains; a lane still masked stays masked. -/
def State.phasePairs (s : State) (r : PhaseReport) : State :=
  let s := s.usePlanes (s.getF Reg.glbProfile)
  let s := allPairs.foldl (fun s e =>
    if s.hubUp e.1 ∧ s.hubUp e.2 then
      let lanes := s.laneSet e.1 e.2
      ((s.setF (Reg.pairLanes e.1 e.2) lanes).setF (Reg.pairWidthF e.1 e.2) (popcount 9 lanes))
    else s) s
  let s := r.maskedLanes.foldl (fun s e =>
    let p := e.1 / 32 % 32
    let q := e.1 % 32
    if p = q then s else s.modPair p q fun x => { x with masked := setBit x.masked e.2.val true }) s
  s.trainAll

/-- Whether some pair joins an I/O hub with a compute or stack hub (R433). -/
def State.ioPaired (s : State) : Bool :=
  [28, 29, 30, 31].any fun p => (List.range 28).any fun q => s.getF (Reg.pairLanes p q) != 0

/-- Whether every stack controller is in service or failed. -/
def State.stacksSettled (s : State) : Bool :=
  (List.range 12).all fun k => s.on (Reg.identHeldOut (16 + k)) || s.getF (Reg.scState k) == 1 || s.getF (Reg.scState k) == 3

/-- Phase 9: controllers that fail self-test have failed, lost planes are substituted, planes outside the profile's set go
dark, self-test ends, and the standby is in step (R402), its optical path where the transmitters have light (R27). The part is
ready. -/
def State.phaseReady (s : State) (r : PhaseReport) : State :=
  let profile := s.getF Reg.glbProfile
  let s := (List.range 9).foldl (fun s p => (s.parkSelfTest p).darkLaser (32 * p)) s
  let s := (List.range 9).foldl (fun s p => if (s.planeSet profile).testBit p then s else s.darkenPlane p) s
  let s := r.lostPlanes.foldl (fun s p => s.planeOut p) s
  let s := ((s.setF Reg.fabric 2).setF Reg.glbPhase 10).setB Reg.glbReady true
  let b := 1 - s.controller
  let joins := s.getF (Reg.dieState (28 + b)) == 0
  let s := if joins then
      let s := (s.setF (Reg.dieState (28 + b)) 6).setF Reg.hlthStandby 2
      let s := (s.setB Reg.shadowOptical s.shadowLit).setB Reg.shadowElectrical true
      { s with ctl := { s.ctl with copy := some s.capture } }
    else s
  ((s.setStandby (s.getF Reg.hlthStandby)).refreshLasers.refreshDies).updatePins

/-- A controller that fails self-test (R317, R431). -/
def State.stackFails (s : State) (k : Nat) : State :=
  let s := (s.setF (Reg.scState k) 3).setF (Reg.dieState (16 + k)) 4
  s.setDegraded 5 true

/-- A phase ends and the next begins; GLB_BRINGUP adds up the time (R434). -/
def State.phaseEnds (s : State) (ms : Nat) : State :=
  let p := s.getF Reg.glbPhase
  let s := if p = 5 then s.setF Reg.glbGateMs (min 65535 (s.getF Reg.glbGateMs + ms)) else s.setF Reg.glbTotalMs (min 65535 (s.getF Reg.glbTotalMs + ms))
  (s.setF Reg.glbPhase (p + 1)).updatePins

/-- BRINGUP_PHASE_DONE (R431, R433): the phase in progress ends. Without BL's identity phase 0 lasts (R33); without the master
phase 1 lasts (R45); until the gate has opened phase 5 lasts. -/
def execBringupPhaseDone (r : PhaseReport) (s : State) : Out := s.live fun s =>
  if !s.pins.feedA ∧ !s.pins.feedB then .next s
  else
    match s.getF Reg.glbPhase with
    | 0 => .next (if s.identBad r 32 then s else s.phaseEnds r.ms)
    | 1 => .next (if r.mastersFailed then s.failBringup 3 else if s.clk.running then s.phaseEnds r.ms else s)
    | 2 => .next ((s.phaseIdentity r).phaseEnds r.ms)
    | 3 =>
      let s := s.phaseSelfTest r
      .next (if (List.range 8).all (fun d => s.getF (Reg.dieState d) != 1) then s.failBringup 1 else s.phaseEnds r.ms)
    | 4 => .next ((s.phaseEnds r.ms).phaseLinks)
    | 5 => .next (if s.on Reg.restoreOpen then s else s.phaseEnds r.ms)
    | 6 => .next (s.phaseLasers.phaseEnds r.ms)
    | 7 => .next (s.phaseRings.phaseEnds r.ms)
    | 8 =>
      let s := s.phasePairs r
      .next (if r.noPair ∨ !s.ioPaired then s.failBringup 2 else s.phaseEnds r.ms)
    | 9 =>
      let s := r.failedStacks.foldl (fun s k => if s.getF (Reg.scState k) = 1 then s else s.stackFails k) s
      .next (if s.stacksSettled then (s.phaseEnds r.ms).phaseReady r else s)
    | _ => .next s

/-! ## The restore gate (R432) -/

/-- A write of PROCEED, accepted in phase 5 (R423). -/
def State.proceed (s : State) : State := if s.getF Reg.glbPhase = 5 ∧ s.on Reg.restoreOpen then s.openGate false else s

/-- PROCEED. -/
def execProceed (s : State) : Out := s.live fun s => .next s.proceed

/-- RESTORE_GATE_TIMEOUT (R432): 1,000 ms after the gate was reached. -/
def execRestoreGateTimeout (s : State) : Out := s.live fun s =>
  .next (if s.on Reg.glbGateWaiting ∧ s.clk.gateAt + 1000000000 ≤ s.clk.now then s.openGate false else s)

/-! ## Power-down (R312) -/

/-- What a stack keeps without power: its records and its ledger area (R293, R313). -/
def Sc.unpowered (c : Sc) : Sc := { Sc.zero with area := c.area, recA := c.recA, recB := c.recB }

/-- POWER_DOWN: every unit stops. The committed media with their metadata, records and ledger areas, the sealed stores, the
lifecycle fuses and the host's memory stay; everything else is as after reset. -/
def execPowerDown (s : State) : Out :=
  if !s.pins.feedA ∧ !s.pins.feedB then .next s
  else
    let m := s.mem
    let r := State.reset
    .next { r with
      pending := s.pending, freeCount := s.freeCount, readData := s.readData, smbData := s.smbData,
      pins := { s.pins with feedA := false, feedB := false },
      mem := { m with bytes := m.medium, valid := m.medValid, mark := m.medMark },
      pageMeta := s.pageMeta, scs := (s.scs.map fun e => (e.1, e.2.unpowered)).filter fun e => decide (e.2 ≠ Sc.zero),
      host := { r.host with mem := s.host.mem, signals := s.host.signals, rsp := s.host.rsp },
      sec := { r.sec with fuses := s.sec.fuses, copies := s.sec.copies } }

end Sys2Proof.Machine
end

