-- ==== Sys2Proof/Machine/Attest.lean ====
section
/-!
DEFINITION. Attestation (R346, R452-R454).
-/
namespace Sys2Proof.Machine

/-! ## The report (R453) -/

/-- The image of a bank of an active site. -/
def State.siteBank (s : State) (i : Nat) (one : Bool) : Option BankImg :=
  let u := i / 288 * 512 + i % 288
  if s.getF (Reg.siteState (uDie u) (uSite u)) ≠ 1 then none
  else if one then (s.tile u).bank1 else (s.tile u).bank0

/-- What a digest entry holds of an image. -/
structure DigestRow where
  digest : BitVec 256
  bound : Nat
  bundles : Nat
  hot : Bool
  banks : Nat
deriving DecidableEq, Repr

/-- The row of an image. -/
def BankImg.row (b : BankImg) : DigestRow := ⟨b.digest, b.bound, b.bundles, b.hot, 1⟩

/-- Whether a row is of the image. -/
def DigestRow.isOf (r : DigestRow) (b : BankImg) : Bool := { r with banks := 1 } == b.row

/-- Digest indexes are assigned in order of first appearance, and the banks of each image are counted. -/
def countImage (rows : List DigestRow) (b : BankImg) : List DigestRow :=
  if rows.any (fun r => r.isOf b) then rows.map fun r => if r.isOf b then { r with banks := r.banks + 1 } else r
  else rows ++ [b.row]

/-- Every bank of the package in site order, IB0 before IB1. -/
def State.allBanks (s : State) : List (Option BankImg) :=
  (List.range 2304).flatMap fun i => [s.siteBank i false, s.siteBank i true]

def State.digestRows (s : State) : List DigestRow := (s.allBanks.filterMap id).foldl countImage []

/-- The length L of a report of D images. -/
def reportLength (d : Nat) : Nat := 11584 + 48 * d

/-- The digest index of a bank, 0xFFFF for an empty one. -/
def bankIndex (rows : List DigestRow) (b : Option BankImg) : Nat :=
  match b with
  | some b => rows.findIdx fun r => r.isOf b
  | none => 0xFFFF

/-- An entry of the digest table. -/
def DigestRow.bytes (r : DigestRow) : List Byte :=
  bytesOfNat 32 r.digest.toNat ++ bytesOfNat 4 r.bound ++ bytesOfNat 2 r.bundles ++ bytesOfNat 2 r.hot.toNat ++
    bytesOfNat 8 r.banks

/-- A map of the sites of a die, bit s for site s. -/
def siteMap (on : Nat → Bool) : List Byte :=
  bytesOfNat 36 (((List.range 288).filter on).map fun x => 2 ^ x).sum

/-- The words of the die table. -/
def State.dieTable (s : State) : List Byte :=
  (List.range 33).flatMap fun i => bytesOfNat 4 (s.getR (Reg.dieIdent i)).toNat ++ bytesOfNat 4 (s.getR (Reg.dieIdent i + 4)).toNat

/-- The fuse words: the identity words without HELD_OUT, which is no fuse. -/
def State.fuseWords (s : State) : List Byte :=
  (List.range 33).flatMap fun i =>
    bytesOfNat 4 (s.getR (Reg.dieIdent i) &&& 0xBFFFFFFF#32).toNat ++ bytesOfNat 4 (s.getR (Reg.dieIdent i + 4)).toNat

/-- The calibration summary. -/
def State.calSummary (s : State) : List Byte :=
  let rings := fun (sel : Nat → Bool) => ((List.range 19008).filter sel).length
  let lasers := fun (sel : Nat → Bool) => ((List.range 324).filter sel).length
  bytesOfNat 1 (s.getF Reg.calLast) ++ bytesOfNat 1 0 ++
    bytesOfNat 2 (rings fun r => s.getF (Reg.heatRole r) == 1) ++ bytesOfNat 2 (rings fun r => s.getF (Reg.heatState r) == 4) ++
    bytesOfNat 2 s.fab.lost.length ++ bytesOfNat 2 (lasers fun l => s.getF (Reg.lsrServing l) == 2) ++
    bytesOfNat 2 (lasers fun l => s.on (Reg.lsrFailed l false) && s.on (Reg.lsrFailed l true)) ++
    bytesOfNat 4 (s.getR (Reg.pl8For (28 + 2 * s.controller)).addr).toNat ++ bytesOfNat 8 s.light.savedAt ++ bytesOfNat 40 0

/-- The signed body of a report. -/
def State.reportBody (s : State) (nonce : List Byte) (rows : List DigestRow) : List Byte :=
  let d := rows.length
  let flags := (s.on Reg.debugUnlocked).toNat + 2 * (s.on Reg.glbWarm).toNat + (if s.getF Reg.degraded = 0 then 0 else 4)
  [0x50, 0x46, 0x41, 0x52] ++ bytesOfNat 2 1 ++ bytesOfNat 1 (lifecycleOf s.fuseCount) ++ bytesOfNat 1 flags ++
    bytesOfNat 4 (reportLength d) ++ bytesOfNat 2 d ++ bytesOfNat 1 s.fuseCount ++ bytesOfNat 1 (s.getF Reg.pkgLevel) ++
    bytesOfNat 8 s.clk.now ++ bytesOfNat 4 s.clk.frame ++ bytesOfNat 2 (s.getF Reg.wtyNode) ++ bytesOfNat 2 0 ++
    shake256 s.store.pub ++ nonce ++ s.dieTable ++ bytesOfNat 24 0 ++ bytesOfNat 4 (s.getR 0).toNat ++
    bytesOfNat 4 (s.getR 4).toNat ++ bytesOfNat 4 (s.getR 8).toNat ++ bytesOfNat 4 (s.getF Reg.degraded) ++
    bytesOfNat 16 0 ++ shake256 s.fuseWords ++
    ((List.range 8).flatMap fun x =>
      siteMap (fun i => s.on (Reg.siteFuse x i)) ++ siteMap (fun i => s.getF (Reg.siteState x i) == 1)) ++
    s.calSummary ++ (s.allBanks.flatMap fun b => bytesOfNat 2 (bankIndex rows b)) ++ rows.flatMap DigestRow.bytes

/-! ## The descriptor (R346, R452, R454) -/

/-- Why an ATTEST cannot be served: the lifecycle or the key, or the room at DEST. -/
def State.attestFault (s : State) (l : Line) : Option Nat :=
  let n := lifecycleOf s.fuseCount
  if n = 0 ∨ n = 3 ∨ !s.on Reg.keyPresent then some 0x11
  else if dfield l 48 4 < reportLength s.digestRows.length then some 0x12
  else none

/-- ATTEST (R346, R454): a report is requested, or the descriptor completes with its length L in the detail. -/
def execAttest (n : RingN) (s : State) : Out := s.live fun s =>
  .next (s.startDesc n (fun l => descOpcode l == 9) fun s d =>
    match s.attestFault d.line with
    | some st => s.finish n d.num st 0 0 (reportLength s.digestRows.length)
    | none => s)

/-- Whether the random source of a die that is not held out passes (R451). -/
def State.saltReady (s : State) : Bool := [0, 1].any fun d => !s.ioOut d && s.rngPasses d

/-- ATTEST_CAPTURE (R452): at the first tick after the start at which no transition is in progress, the state is captured; the
report is signed and written at DEST. -/
def execAttestCapture (n : RingN) (num : W32) (s : State) : Out := s.live fun s =>
  match s.started n num.toNat with
  | none => .next s
  | some d =>
    if descOpcode d.line ≠ 9 ∨ d.finished ∨ s.clk.now ≠ s.clk.tick ∨ s.clk.frame ≤ d.startFrame ∨ s.on Reg.journalActive ∨
        s.hostPort.isNone then .next s
    else
      let rows := s.digestRows
      let l := reportLength rows.length
      match s.attestFault d.line with
      | some st => .next (s.finish n d.num st 0 0 l)
      | none =>
        if !s.saltReady then .next (s.finish n d.num 0x11 0 0 l)
        else
          let body := s.reportBody ((List.range 32).map fun i => BitVec.ofNat 8 (dfield d.line (8 + i) 1)) rows
          let report := body ++ Config.falconSign s.freeCount body
          .next (((s.tookFree.hostWrite (dfield d.line 40 8) report).bump (Reg.secCnt 0) 1).finish n d.num 0 0 l l)

end Sys2Proof.Machine
end

