-- ==== Sys2Proof/Machine/Transcend.lean ====
section
/-!
DEFINITION. The transcendentals of the vector unit (R146, R147): each result is some value within its bound, the same for the same
input (log entry 4).
-/
namespace Sys2Proof.Machine

/-! ## Elementary functions in fixed point

An integer n stands for n × 2^-512. Every series runs past its last bit, so a value is off by less than 2^-480. -/

def fxOne : Int := 2 ^ 512

/-- The sum of t x^j / ((k + 1) … (k + j)) over the first n terms: with t = 1 and k = 0 the exponential of x. -/
def expSeries : Nat → Nat → Int → Int → Int
  | 0, _, _, _ => 0
  | n + 1, k, x, t => t + expSeries n (k + 1) x (t * x / fxOne / (k + 1))

/-- The sum of t z^j / (2 (k + j) + 1): with t the argument and z its square the inverse hyperbolic tangent, and with z its negated
square the inverse tangent. -/
def atanSeries : Nat → Nat → Int → Int → Int
  | 0, _, _, _ => 0
  | n + 1, k, z, t => t / (2 * k + 1) + atanSeries n (k + 1) z (t * z / fxOne)

/-- The alternating sum t - t z / ((j + 1) (j + 2)) + …: with z the square of the argument, the sine from t the argument and j = 1, the
cosine from t = 1 and j = 0. -/
def trigSeries : Nat → Nat → Int → Int → Int
  | 0, _, _, _ => 0
  | n + 1, j, z, t => t - trigSeries n (j + 2) z (t * z / fxOne / ((j + 1) * (j + 2)))

/-- The natural logarithm of 2 as twice the inverse hyperbolic tangent of 1/3. -/
def fxLn2 : Int := 2 * atanSeries 170 0 (fxOne / 9) (fxOne / 3)
/-- The number pi by Machin's formula. -/
def fxPi : Int := 16 * atanSeries 120 0 (-(fxOne / 25)) (fxOne / 5) - 4 * atanSeries 40 0 (-(fxOne / 57121)) (fxOne / 239)

/-- A finite binary32 value. -/
def fxOf (neg : Bool) (m : Nat) (e : Int) : Int :=
  let x : Int := (m * 2 ^ (512 + e).toNat : Nat)
  if neg then -x else x

/-- An approximation of a result: a number times a power of two. -/
abbrev Approx := Int × Int

/-- 2 to the power x; far below the smallest denormal any small result stands for it. -/
def exp2Of (x : Int) : Approx :=
  let n := x / fxOne
  (expSeries 120 0 (x % fxOne * fxLn2 / fxOne) fxOne, max n (-400) - 512)

/-- The base-2 logarithm of m × 2^e. -/
def log2Of (m : Nat) (e : Int) : Approx :=
  let y : Int := (m * 2 ^ (512 - Nat.log2 m) : Nat)
  let z := (y - fxOne) * fxOne / (y + fxOne)
  (ilog2 m e * fxOne + 2 * atanSeries 170 0 (z * z / fxOne) z * fxOne / fxLn2, -512)

/-- The sine or the cosine, the argument reduced exactly. -/
def trigOf (cosine : Bool) (x : Int) : Approx :=
  let r := x % (2 * fxPi)
  (if cosine then trigSeries 100 0 (r * r / fxOne) fxOne else trigSeries 100 1 (r * r / fxOne) r, -512)

/-- The hyperbolic tangent. -/
def tanhOf (x : Int) : Approx :=
  let y := expSeries 300 0 (2 * (x.natAbs : Int)) fxOne
  let t := (y - fxOne) * fxOne / (y + fxOne)
  (if x < 0 then -t else t, -512)

/-- 1 / (m × 2^e). -/
def rcpOf (m : Nat) (e : Int) : Approx := ((2 ^ 600 / m : Nat), -600 - e)

/-- 1 / √(m × 2^e). -/
def rsqrtOf (m : Nat) (e : Int) : Approx :=
  let m' := if e % 2 = 0 then m else 2 * m
  let e' := if e % 2 = 0 then e else e - 1
  ((Nat.sqrt (2 ^ 1024 / m') : Nat), -512 - e' / 2)

/-! ## The bounds (R146) -/

/-- The exponent of a result's bound, by opcode: 0 exp2, 1 log2, 2 rsqrt, 3 rcp, 4 sin, 5 cos, 6 tanh. `u` is that of its ulp. -/
def boundExp (op : Nat) (u : Int) : Int :=
  match op with
  | 1 => max (u + 1) (-22)
  | 2 => u
  | 3 => u
  | 4 => max (u + 1) (-24)
  | 5 => max (u + 1) (-24)
  | _ => u + 1

/-- The place of a binary32 encoding in the order of values; both zeros stand at 0. -/
def ordOf (bits : Nat) : Int := if 2 ^ 31 ≤ bits then -((bits - 2 ^ 31 : Nat) : Int) else bits

/-- The places of the encodings within the bound of a result: the lowest and the highest. -/
def withinBound (op : Nat) (y : Approx) : Int × Int :=
  let u := max (ilog2 y.1.natAbs y.2 - 23) (-149)
  let b := boundExp op u
  let q := min y.2 b
  let v := y.1 * 2 ^ (y.2 - q).toNat
  let d : Int := 2 ^ (b - q).toNat
  let code := fun (mode : Nat) (x : Int) => ordOf (fmt32.round ⟨mode, false, false, 0⟩ (.fin (decide (x < 0)) x.natAbs q)).1
  (code 2 (v - d), code 3 (v + d))

/-- The open choice of R146 among the values within the bound, the same for the same input; a zero's sign is open with it (log
entry 4). -/
def chosen (op x : Nat) (y : Approx) : Nat :=
  let r := withinBound op y
  let free := (Config.transcendental op (BitVec.ofNat 32 x)).toNat
  let n := if r.2 < r.1 then r.1 else r.1 + (free % (r.2 - r.1 + 1).toNat : Nat)
  if n < 0 then 2 ^ 31 + n.natAbs else if n = 0 then free / 2 ^ 31 % 2 * 2 ^ 31 else n.toNat

/-! ## Results (R146, R147) -/

/-- The sign bit of a binary32. -/
def sign32 (neg : Bool) : Nat := if neg then 2 ^ 31 else 0

/-- Whether mag × 2^exp ≥ 1 is the exact power of two given by its log. -/
def isPow2 (m : Nat) : Bool := decide (m ≠ 0) && decide (2 ^ Nat.log2 m = m)

/-- Delivers a result that is not one of the exact cases: NX, and OF, SD or UF as the value shows (R140, R146). -/
def transDeliver (sat : Bool) (bits : Nat) : Nat × Nat :=
  let mag := bits % 2 ^ 31
  if fmt32.maxCode < mag then
    (if sat then (sign32 (decide (2 ^ 31 ≤ bits)) + fmt32.maxCode, fOF ||| fNX ||| fSD) else (bits, fOF ||| fNX))
  else (bits, if mag < 2 ^ 23 then fUF ||| fNX else fNX)

/-- A transcendental of one binary32 lane: op 0 exp2, 1 log2, 2 rsqrt, 3 rcp, 4 sin, 5 cos, 6 tanh. Outside the special
cases of R147 it is a value within the bound. -/
def transLane (op : Nat) (sat : Bool) (x : Nat) : Nat × Nat :=
  let one : Nat := 0x3F800000
  match fmt32.decode x with
  | .nan s => (fmt32.canonNan, if s then fNV else 0)
  | .inf neg =>
    match op with
    | 0 => (if neg then 0 else fmt32.infCode, 0)
    | 1 => if neg then (fmt32.canonNan, fNV) else (fmt32.infCode, 0)
    | 2 => if neg then (fmt32.canonNan, fNV) else (0, 0)
    | 3 => (sign32 neg, 0)
    | 6 => (sign32 neg + one, 0)
    | _ => (fmt32.canonNan, fNV)
  | .fin neg m e =>
    if m = 0 then
      match op with
      | 0 => (one, 0)                      -- the integer 0 gives exactly 2^0
      | 1 => (sign32 true + fmt32.infCode, fDZ)
      | 2 => (sign32 neg + fmt32.infCode, fDZ)
      | 3 => (sign32 neg + fmt32.infCode, fDZ)
      | 5 => (one, 0)
      | _ => (sign32 neg, 0)
    else
      let lg := ilog2 m e
      match op with
      | 0 =>
        let n := (roundAt 1 neg m e 0 0)
        if n.2 = false ∧ neg = false ∧ n.1 < 128 ∨ n.2 = false ∧ neg = true ∧ n.1 ≤ 149 then
          fmt32.round rneCtl (.fin false 1 (if neg then -(n.1 : Int) else n.1))
        else if neg = false ∧ 128 ≤ n.1 then
          (if sat then (fmt32.maxCode, fOF ||| fNX ||| fSD) else (fmt32.infCode, fOF ||| fNX))
        else transDeliver sat (chosen op x (exp2Of (fxOf neg m e)))
      | 1 => if neg then (fmt32.canonNan, fNV) else if isPow2 m then fmt32.round rneCtl (FVal.ofInt lg) else transDeliver sat (chosen op x (log2Of m e))
      | 2 =>
        if neg then (fmt32.canonNan, fNV)
        else if isPow2 m ∧ lg % 2 = 0 then fmt32.round rneCtl (.fin false 1 (-(lg / 2)))
        else transDeliver sat (chosen op x (rsqrtOf m e))
      | 3 =>
        if isPow2 m ∧ -lg ≤ 127 then ((fmt32.round rneCtl (.fin neg 1 (-lg))).1, 0)
        else if isPow2 m ∧ 128 ≤ -lg ∨ m * 2 ^ (e + 149).toNat ≤ 2 ^ 21 then
          transDeliver sat (sign32 neg + fmt32.infCode)
        else transDeliver sat (chosen op x (let y := rcpOf m e; (if neg then -y.1 else y.1, y.2)))
      | 6 =>
        let q := min e 0
        if 91 * 2 ^ (-q).toNat ≤ 10 * (m * 2 ^ (e - q).toNat) then (sign32 neg + one, 0)
        else transDeliver sat (chosen op x (tanhOf (fxOf neg m e)))
      | _ => transDeliver sat (chosen op x (trigOf (op == 5) (fxOf neg m e)))

end Sys2Proof.Machine
end

