-- ==== Sys2Proof/Machine/Vector.lean ====
section
/-!
DEFINITION. The V slot (R109, R110, R126-R147).
-/
namespace Sys2Proof.Machine

/-! ## Types and modes -/

/-- Lane width of a vector type (R109). -/
def vWidth : Nat → Nat
  | 0 => 32 | 1 => 64 | 2 => 16 | 3 => 16 | 4 => 32 | 5 => 16 | _ => 8
def vCount (ty : Nat) : Nat := 2048 / vWidth ty
def vIsInt (ty : Nat) : Bool := decide (4 ≤ ty)
/-- The format of a floating vector type (R109). -/
def vFmt : Nat → Fmt
  | 0 => fmt32 | 1 => fmt64 | 2 => fmtBf | _ => fmt16

/-- RND.MODE; 5-7 are treated as 0 (R102). -/
def rndMode (rnd : W64) : Nat := let m := rnd.toNat % 8; if 4 < m then 0 else m
def rndSat (rnd : W64) : Bool := rnd.getLsbD 3
def rndFtz (rnd : W64) : Bool := rnd.getLsbD 4

/-- The rounding of vector arithmetic: RND, mode 4 acting as mode 0 (R136). -/
def vecCtl (rnd : W64) : RndCtl := ⟨if rndMode rnd = 4 then 0 else rndMode rnd, rndSat rnd, rndFtz rnd, 0⟩

/-- A slot of the vector unit in format VR that a legal test and a lane function define: `f` gets the lanes of va, vb and
vd and gives the lane of vd with its flags. -/
def vecLanes (ty : Nat) (f : Nat → Nat → Nat → Nat × Nat) (a b c : VReg) : VReg × Nat :=
  let w := vWidth ty
  let n := vCount ty
  let la := lanes w n a.toNat
  let lb := lanes w n b.toNat
  let lc := lanes w n c.toNat
  let r := List.zipWith (fun x (y : Nat × Nat) => f x y.1 y.2) la (lb.zip lc)
  (BitVec.ofNat 2048 (joinLanes w (r.map Prod.fst)), r.foldl (fun acc x => acc ||| x.2) 0)

/-- Legality shared by format VR (R101, R109, R110): type 7 reserved, cc zero but for VCMP, SAT on integer types only. -/
def vrLegal (w : BitVec 22) : Bool :=
  decide (bits w 4 3 ≠ 7 ∧ bits w 1 3 = 0 ∧ (bits w 0 1 = 0 ∨ 4 ≤ bits w 4 3))

/-- A lane operation of format VR. -/
def State.opVR (h : SlotHdr) (w : BitVec 22) (legal : Bool) (f : RndCtl → Bool → Nat → Nat → Nat → Nat × Nat)
    (s : State) : State :=
  s.slot h 1 (fun _ _ => legal) fun s u =>
    s.modTile u fun t =>
      let sat := decide (bits w 0 1 = 1) || rndSat t.pre.rnd
      let r := vecLanes (bits w 4 3) (f (vecCtl t.pre.rnd) sat) (t.pre.v (bits w 12 5)) (t.pre.v (bits w 7 5))
        (t.pre.v (bits w 17 5))
      (t.setV (bits w 17 5) r.1).raiseFlags r.2

/-- A floating operation on lanes read as values, rounded once to the lane type (R144). -/
def fpLane (ty : Nat) (c : RndCtl) (op : FVal → FVal → FVal → FVal × Nat) (x y z : Nat) : Nat × Nat :=
  let f := vFmt ty
  let e := op (f.read c.ftz x) (f.read c.ftz y) (f.read c.ftz z)
  let r := f.round c e.1
  (r.1, e.2 ||| r.2)

/-- An integer operation on signed lanes (R145). -/
def intLane (ty : Nat) (sat : Bool) (op : Int → Int → Int → Int) (x y z : Nat) : Nat × Nat :=
  let w := vWidth ty
  deliverInt w sat (op (sval w x) (sval w y) (sval w z))

/-- An arithmetic operation by its floating and integer meanings. -/
def arithLane (ty : Nat) (fop : RndCtl → FVal → FVal → FVal → FVal × Nat) (iop : Int → Int → Int → Int)
    (c : RndCtl) (sat : Bool) (x y z : Nat) : Nat × Nat :=
  if vIsInt ty then intLane ty sat iop x y z else fpLane ty c (fop c) x y z

/-- VADD: vd ← va + vb (R110, R144, R145). -/
def execVadd (h : SlotHdr) (w : BitVec 22) (s : State) : Out := s.live fun s =>
  .next (s.opVR h w (vrLegal w) (arithLane (bits w 4 3) (fun c a b _ => FVal.add c.mode a b) (fun a b _ => a + b)))

/-- VSUB: vd ← va − vb (R110, R144, R145). -/
def execVsub (h : SlotHdr) (w : BitVec 22) (s : State) : Out := s.live fun s =>
  .next (s.opVR h w (vrLegal w) (arithLane (bits w 4 3) (fun c a b _ => FVal.add c.mode a b.negate) (fun a b _ => a - b)))

/-- VMUL: vd ← va × vb (R110, R144, R145). -/
def execVmul (h : SlotHdr) (w : BitVec 22) (s : State) : Out := s.live fun s =>
  .next (s.opVR h w (vrLegal w) (arithLane (bits w 4 3) (fun _ a b _ => FVal.mul a b) (fun a b _ => a * b)))

/-- VFMA: vd ← va × vb + vd, fused (R110, R144, R145). -/
def execVfma (h : SlotHdr) (w : BitVec 22) (s : State) : Out := s.live fun s =>
  .next (s.opVR h w (vrLegal w) (arithLane (bits w 4 3) (fun c a b d => FVal.fma c.mode false false a b d) (fun a b d => a * b + d)))

/-- VFMS: vd ← va × vb − vd, fused (R110, R144, R145). -/
def execVfms (h : SlotHdr) (w : BitVec 22) (s : State) : Out := s.live fun s =>
  .next (s.opVR h w (vrLegal w) (arithLane (bits w 4 3) (fun c a b d => FVal.fma c.mode false true a b d) (fun a b d => a * b - d)))

/-- VFNMA: vd ← −(va × vb) + vd, fused (R110, R144, R145). -/
def execVfnma (h : SlotHdr) (w : BitVec 22) (s : State) : Out := s.live fun s =>
  .next (s.opVR h w (vrLegal w) (arithLane (bits w 4 3) (fun c a b d => FVal.fma c.mode true false a b d) (fun a b d => d - a * b)))

/-- Minimum or maximum of a lane (R144, R145). -/
def minMaxLane (ty : Nat) (c : RndCtl) (isMax : Bool) (x y : Nat) : Nat × Nat :=
  if vIsInt ty then
    let w := vWidth ty
    (if isMax then (if sval w x < sval w y then y else x) else (if sval w y < sval w x then y else x), 0)
  else fminmax (vFmt ty) c isMax ((vFmt ty).read c.ftz x) ((vFmt ty).read c.ftz y)

/-- VMIN: per lane (R110, R144, R145). -/
def execVmin (h : SlotHdr) (w : BitVec 22) (s : State) : Out := s.live fun s =>
  .next (s.opVR h w (vrLegal w) fun c _ x y _ => minMaxLane (bits w 4 3) c false x y)

/-- VMAX: per lane (R110, R144, R145). -/
def execVmax (h : SlotHdr) (w : BitVec 22) (s : State) : Out := s.live fun s =>
  .next (s.opVR h w (vrLegal w) fun c _ x y _ => minMaxLane (bits w 4 3) c true x y)

/-- The sign bit of a floating lane changed: bits move, no flag (R127). -/
def signLane (ty : Nat) (f : Bool → Bool) (x : Nat) : Nat :=
  let top := vWidth ty - 1
  x % 2 ^ top + (if f (x.testBit top) then 2 ^ top else 0)

/-- VABS: vd ← |va|; vb zero (R110, R127, R145). -/
def execVabs (h : SlotHdr) (w : BitVec 22) (s : State) : Out := s.live fun s =>
  .next (s.opVR h w (vrLegal w && decide (bits w 7 5 = 0)) fun _ sat x y z =>
    if vIsInt (bits w 4 3) then intLane (bits w 4 3) sat (fun a _ _ => a.natAbs) x y z
    else (signLane (bits w 4 3) (fun _ => false) x, 0))

/-- VNEG: vd ← −va; vb zero (R110, R127, R145). -/
def execVneg (h : SlotHdr) (w : BitVec 22) (s : State) : Out := s.live fun s =>
  .next (s.opVR h w (vrLegal w && decide (bits w 7 5 = 0)) fun _ sat x y z =>
    if vIsInt (bits w 4 3) then intLane (bits w 4 3) sat (fun a _ _ => -a) x y z
    else (signLane (bits w 4 3) (fun b => !b) x, 0))

/-- Legality of the bitwise operations: the type is ignored, type 7 with it (R110); SAT stays off floating types. -/
def bitLegal (w : BitVec 22) : Bool := decide (bits w 1 3 = 0 ∧ (bits w 0 1 = 0 ∨ 4 ≤ bits w 4 3))

/-- A bitwise operation on whole registers (R110). -/
def State.opBitwise (h : SlotHdr) (w : BitVec 22) (f : VReg → VReg → VReg) (s : State) : State :=
  s.slot h 1 (fun _ _ => bitLegal w) fun s u =>
    s.modTile u fun t => t.setV (bits w 17 5) (f (t.pre.v (bits w 12 5)) (t.pre.v (bits w 7 5)))

/-- VAND: vd ← va and vb (R110). -/
def execVand (h : SlotHdr) (w : BitVec 22) (s : State) : Out := s.live fun s => .next (s.opBitwise h w fun a b => a &&& b)

/-- VOR: vd ← va or vb (R110). -/
def execVor (h : SlotHdr) (w : BitVec 22) (s : State) : Out := s.live fun s => .next (s.opBitwise h w fun a b => a ||| b)

/-- VXOR: vd ← va xor vb (R110). -/
def execVxor (h : SlotHdr) (w : BitVec 22) (s : State) : Out := s.live fun s => .next (s.opBitwise h w fun a b => a ^^^ b)

/-- Legality of the shifts: integer types (R110). -/
def shiftLegal (w : BitVec 22) : Bool := vrLegal w && vIsInt (bits w 4 3)

/-- VSHL: each lane shifted left by the low log2(width) bits of vb's lane (R110, R145). -/
def execVshl (h : SlotHdr) (w : BitVec 22) (s : State) : Out := s.live fun s =>
  .next (s.opVR h w (shiftLegal w) fun _ _ x y _ =>
    let n := vWidth (bits w 4 3)
    (x * 2 ^ (y % n) % 2 ^ n, 0))

/-- VSHR: each lane shifted right, zeros entering (R110, R145). -/
def execVshr (h : SlotHdr) (w : BitVec 22) (s : State) : Out := s.live fun s =>
  .next (s.opVR h w (shiftLegal w) fun _ _ x y _ => (x / 2 ^ (y % vWidth (bits w 4 3)), 0))

/-- VSAR: each lane shifted right, the sign entering (R110, R145). -/
def execVsar (h : SlotHdr) (w : BitVec 22) (s : State) : Out := s.live fun s =>
  .next (s.opVR h w (shiftLegal w) fun _ _ x y _ =>
    let n := vWidth (bits w 4 3)
    (sbits n (Int.fdiv (sval n x) (2 ^ (y % n) : Int)), 0))

/-- The truth of an integer lane compare; cc 6, unordered, never holds of integers (R110). -/
def icmp (cc : Nat) (a b : Int) : Bool :=
  match cc with
  | 0 => a == b
  | 1 => a != b
  | 2 => decide (a < b)
  | 3 => decide (a ≤ b)
  | 4 => decide (b < a)
  | 5 => decide (b ≤ a)
  | _ => false

/-- VCMP: each lane of vd all ones where va cc vb, else zero (R110, R144). -/
def execVcmp (h : SlotHdr) (w : BitVec 22) (s : State) : Out := s.live fun s =>
  let ty := bits w 4 3
  let cc := bits w 1 3
  .next (s.opVR h w (decide (ty ≠ 7 ∧ cc ≠ 7 ∧ (bits w 0 1 = 0 ∨ 4 ≤ ty))) fun c _ x y _ =>
    let r := if vIsInt ty then (icmp cc (sval (vWidth ty) x) (sval (vWidth ty) y), 0)
      else fcmp cc ((vFmt ty).read c.ftz x) ((vFmt ty).read c.ftz y)
    (if r.1 then 2 ^ vWidth ty - 1 else 0, r.2))

/-- VBLEND: each lane of vd takes va where vd's lane has its top bit set, else vb (R110). -/
def execVblend (h : SlotHdr) (w : BitVec 22) (s : State) : Out := s.live fun s =>
  .next (s.opVR h w (vrLegal w) fun _ _ x y z => (if z.testBit (vWidth (bits w 4 3) - 1) then x else y, 0))

/-- A transcendental: FP32 lanes only; RND.SAT applies, the mode does not (R110, R146). -/
def State.opTrans (h : SlotHdr) (w : BitVec 22) (op : Nat) (s : State) : State :=
  s.opVR h w (vrLegal w && decide (bits w 4 3 = 0)) fun c _ x _ _ => transLane op c.sat x

/-- VEXP2: vd ← 2 to the power of va (R146, R147). -/
def execVexp2 (h : SlotHdr) (w : BitVec 22) (s : State) : Out := s.live fun s => .next (s.opTrans h w 0)

/-- VLOG2: vd ← the base-2 logarithm of va (R146, R147). -/
def execVlog2 (h : SlotHdr) (w : BitVec 22) (s : State) : Out := s.live fun s => .next (s.opTrans h w 1)

/-- VRSQRT: vd ← 1 / √va (R146, R147). -/
def execVrsqrt (h : SlotHdr) (w : BitVec 22) (s : State) : Out := s.live fun s => .next (s.opTrans h w 2)

/-- VRCP: vd ← 1 / va (R146, R147). -/
def execVrcp (h : SlotHdr) (w : BitVec 22) (s : State) : Out := s.live fun s => .next (s.opTrans h w 3)

/-- VSIN: vd ← sin va (R146, R147). -/
def execVsin (h : SlotHdr) (w : BitVec 22) (s : State) : Out := s.live fun s => .next (s.opTrans h w 4)

/-- VCOS: vd ← cos va (R146, R147). -/
def execVcos (h : SlotHdr) (w : BitVec 22) (s : State) : Out := s.live fun s => .next (s.opTrans h w 5)

/-- VTANH: vd ← tanh va (R146, R147). -/
def execVtanh (h : SlotHdr) (w : BitVec 22) (s : State) : Out := s.live fun s => .next (s.opTrans h w 6)

/-! ## Conversion (R130, R131, R133-R135) -/

/-- The conversions that VCVT allows (R131). -/
def vcvtAllowed (src dst : Nat) : Bool :=
  let narrowF := dst == 1 || dst == 4 || dst == 5
  match src with
  | 0 => dst == 1 || dst == 14
  | 1 => dst == 0 || (decide (2 ≤ dst) && decide (dst ≤ 12)) || dst == 14 || dst == 15
  | 2 => narrowF || dst == 3
  | 3 => narrowF || dst == 2
  | 4 => dst == 1 || dst == 2 || dst == 3
  | 5 => dst == 1 || dst == 2 || dst == 3
  | 12 => dst == 1 || dst == 13 || dst == 14 || dst == 15
  | 13 => dst == 12
  | 14 => dst == 0 || dst == 1 || dst == 12 || dst == 15
  | 15 => dst == 1 || dst == 14
  | _ => isMx src && dst == 1

/-- Registers on each side of a conversion (R130). -/
def cvtRegs (a b : Nat) : Nat := max (perReg a) (perReg b) / perReg a

def vcvtLegal (w : BitVec 22) : Bool :=
  let dst := bits w 8 4
  let src := bits w 4 4
  vcvtAllowed src dst && decide (bits w 1 3 ≤ 5) && decide (bits w 12 5 + cvtRegs src dst ≤ 32) &&
    decide (bits w 17 5 + cvtRegs dst src ≤ 32)

/-- Byte b of a scale companion (R109, R129). -/
def scaleByte (c : BitVec 128) (b : Nat) : Nat := c.toNat / 2 ^ (8 * b) % 256

/-- A companion holding the given scales, unused bytes 0x7F (R129). -/
def scalePack (l : List Nat) : BitVec 128 := BitVec.ofNat 128 (joinLanes 8 (l ++ List.replicate (16 - l.length) 0x7F))

/-- The source elements of a conversion: a group of registers read in order, scales applied (R130, R135). -/
def cvtSource (t : Tile) (src va n : Nat) (ftz : Bool) : List FVal :=
  let raw := (List.range n).flatMap fun i => lanes (fmtBits src) (perReg src) (t.pre.v (va + i)).toNat
  if isMx src then
    raw.mapIdx fun i x => mxScaled (scaleByte (t.pre.scale va) (i / 32)) (elemRead src ftz x)
  else raw.map (elemRead src ftz)

/-- NV where a NaN block scale is read (R135, R140). -/
def nanScales (l : List Nat) : Nat := if l.any (· == 255) then fNV else 0

/-- Splits a list into pieces of n, k of them. -/
def pieces (n : Nat) : Nat → List Nat → List (List Nat)
  | 0, _ => []
  | k + 1, l => l.take n :: pieces n k (l.drop n)

/-- Writes consecutive registers from vd. -/
def Tile.setVs (t : Tile) (vd w : Nat) : List (List Nat) → Tile
  | [] => t
  | p :: r => Tile.setVs (t.setV vd (BitVec.ofNat 2048 (joinLanes w p))) (vd + 1) w r

/-- The rounding mode that RM selects: 5 takes RND.MODE (R109, R133). -/
def effMode (rm : Nat) (rnd : W64) : Nat := if rm = 5 then rndMode rnd else rm

/-- VCVT: vd ← va converted (R110, R130-R135). Where a WRSR of the same bundle writes SEED, the draws start from what it wrote (log entry
143). -/
def execVcvt (h : SlotHdr) (w : BitVec 22) (s : State) : Out := s.live fun s =>
  let dst := bits w 8 4
  let src := bits w 4 4
  .next (s.slot h 1 (fun _ _ => vcvtLegal w) fun s u => s.modTile u fun t =>
    let rnd := t.pre.rnd
    let vals := cvtSource t src (bits w 12 5) (cvtRegs src dst) (rndFtz rnd)
    let blocks := (List.range (perReg src / 32)).map (scaleByte (t.pre.scale (bits w 12 5)))
    let r := convert src dst (effMode (bits w 1 3) rnd) (decide (bits w 0 1 = 1) || rndSat rnd) (rndFtz rnd) vals t.seed
    let t := { t with seed := r.2.seed }
    let t := t.setVs (bits w 17 5) (fmtBits dst) (pieces (perReg dst) (cvtRegs dst src) r.2.bits)
    let t := if isMx dst then t.setScale (bits w 17 5) (scalePack r.1) else t
    t.raiseFlags (r.2.flags ||| (if isMx src then nanScales blocks else 0)))

/-! ## Loads, stores and moves (R103, R110) -/

/-- VLD: 256 B from the scratchpad at sa + imm12 × 64 (R110). -/
def execVld (h : SlotHdr) (w : BitVec 22) (s : State) : Out := s.live fun s =>
  .next (s.slot h 1 (fun _ _ => true) fun s u =>
    let a := effAddr ((s.pre u).s (bits w 12 5)) ((sbits64 w 0 12).toInt * 64) 64
    (s.checkSeg u Segment.r a 256).modTile u fun t => t.setV (bits w 17 5) (BitVec.ofNat 2048 (s.spadRead u a 256)))

/-- VST: 256 B to the scratchpad at sa + imm12 × 64 (R110). -/
def execVst (h : SlotHdr) (w : BitVec 22) (s : State) : Out := s.live fun s =>
  .next (s.slot h 1 (fun _ _ => true) fun s u =>
    let a := effAddr ((s.pre u).s (bits w 12 5)) ((sbits64 w 0 12).toInt * 64) 64
    s.spadWrite u a (bytesOfNat 256 ((s.pre u).v (bits w 17 5)).toNat))

/-- VLDS: 16 B from the scratchpad at sa + imm12 × 16 into vd's scale companion (R110). -/
def execVlds (h : SlotHdr) (w : BitVec 22) (s : State) : Out := s.live fun s =>
  .next (s.slot h 1 (fun _ _ => true) fun s u =>
    let a := effAddr ((s.pre u).s (bits w 12 5)) ((sbits64 w 0 12).toInt * 16) 16
    (s.checkSeg u Segment.r a 16).modTile u fun t => t.setScale (bits w 17 5) (BitVec.ofNat 128 (s.spadRead u a 16)))

/-- VSTS: vd's scale companion to the scratchpad at sa + imm12 × 16 (R110). -/
def execVsts (h : SlotHdr) (w : BitVec 22) (s : State) : Out := s.live fun s =>
  .next (s.slot h 1 (fun _ _ => true) fun s u =>
    let a := effAddr ((s.pre u).s (bits w 12 5)) ((sbits64 w 0 12).toInt * 16) 16
    s.spadWrite u a (bytesOfNat 16 ((s.pre u).scale (bits w 17 5)).toNat))

/-- VBCAST: every lane of vd ← sa, truncated to the type; [11:7] and [3:0] zero (R109, R110). -/
def execVbcast (h : SlotHdr) (w : BitVec 22) (s : State) : Out := s.live fun s =>
  .next (s.slot h 1 (fun _ _ => decide (bits w 7 5 = 0 ∧ bits w 0 4 = 0 ∧ bits w 4 3 ≠ 7)) fun s u =>
    let ty := bits w 4 3
    s.modTile u fun t => t.setV (bits w 17 5)
      (BitVec.ofNat 2048 (joinLanes (vWidth ty) (List.replicate (vCount ty) (t.pre.s (bits w 12 5)).toNat))))

/-- VTOS: sd ← lane of va, floating lanes zero-extended and integer lanes sign-extended (R110). -/
def execVtos (h : SlotHdr) (w : BitVec 22) (s : State) : Out := s.live fun s =>
  let ty := bits w 1 3
  .next (s.slot h 1 (fun _ _ => decide (bits w 0 1 = 0 ∧ ty ≠ 7 ∧ bits w 4 8 < vCount ty)) fun s u =>
    let n := vWidth ty
    let x := ((s.pre u).v (bits w 12 5)).toNat / 2 ^ (n * bits w 4 8) % 2 ^ n
    s.setS u (bits w 17 5) (BitVec.ofNat 64 (if vIsInt ty then sbits 64 (sval n x) else x)))

end Sys2Proof.Machine
end

