-- ==== Sys2Proof/Machine/Matrix.lean ====
section
/-!
DEFINITION. The M slot (R111-R115, R132, R141-R143).
-/
namespace Sys2Proof.Machine

/-! ## Panel descriptors and formats (R111, R112, R114) -/

def pdAddr (d : W64) : Nat := d.toNat % 2 ^ 20 / 64 * 64
def pdK (d : W64) : Nat := d.toNat / 2 ^ 20 % 2 ^ 16
def pdFmt (d : W64) : Nat := d.toNat / 2 ^ 36 % 16
def pdSparse (d : W64) : Bool := d.getLsbD 40
def pdZero (d : W64) : Bool := decide (d.toNat / 2 ^ 41 = 0)

/-- The rate class of a format: 0 FP64, 1 FP32, 2 16-bit, 3 8-bit, 4 4-bit; 5 is no operand (R111). -/
def rateClass : Nat → Nat
  | 0 => 0 | 1 => 1 | 2 => 2 | 3 => 2 | 10 => 4 | 13 => 4 | 14 => 5 | 15 => 5 | _ => 3

/-- The accumulator type that an operand format requires (R111). -/
def accType (f : Nat) : AccTag := if f = 0 then .fp64 else if f = 12 ∨ f = 13 then .int32 else .fp32

/-- Legality of MMA (R114). -/
def mmaLegal (a b : W64) (z : Bool) (tag : AccTag) : Bool :=
  let fa := pdFmt a
  let fb := pdFmt b
  let k := pdK a
  let intOp := fun f => f == 12 || f == 13
  pdZero a && pdZero b && rateClass fa == rateClass fb && rateClass fa != 5 && intOp fa == intOp fb && !pdSparse b &&
  !(pdSparse a && decide (rateClass fa < 2)) && !((isMx fa || isMx fb) && k % 32 != 0) &&
  !(pdSparse a && k % 4 != 0) && k == pdK b && k != 0 && (z || tag == accType fa)

/-! ## Panels (R113) -/

/-- A panel as read: element bits, scale bytes (none for a format that is not MX), and the 2-bit indexes of a sparse one. -/
structure Panel where
  fmt : Nat
  rows : Nat
  elems : Array Nat
  scales : Array Nat
  sparse : Bool
  index : Array Nat
deriving DecidableEq, Repr

/-- Bytes of a panel: its elements, its metadata, its scales. -/
def panelData (f rows k : Nat) (sparse : Bool) : Nat := rows * k * fmtBits f / (if sparse then 16 else 8)
def panelMeta (k : Nat) (sparse : Bool) : Nat := if sparse then 16 * (k / 4) else 0
def panelScales (f rows k : Nat) : Nat := if isMx f then rows * (k / 32) else 0
def panelBytes (f rows k : Nat) (sparse : Bool) : Nat := panelData f rows k sparse + panelMeta k sparse + panelScales f rows k

def State.readPanel (s : State) (u : Nat) (d : W64) (rows : Nat) : Panel :=
  let f := pdFmt d
  let k := pdK d
  let sp := pdSparse d
  let nd := panelData f rows k sp
  let nm := panelMeta k sp
  { fmt := f, rows := rows, sparse := sp,
    elems := (lanes (fmtBits f) (rows * k / (if sp then 2 else 1)) (s.spadRead u (pdAddr d) nd)).toArray,
    index := (lanes 2 (nm * 4) (s.spadRead u (pdAddr d + nd) nm)).toArray,
    scales := (lanes 8 (panelScales f rows k) (s.spadRead u (pdAddr d + nd + nm) (panelScales f rows k))).toArray }

/-- The element bits of step s and row r; a discarded position counts as zero (R113, R142). Where both indexes of a group
name one position, the value is an unknown function of the two elements there (R151, log entry 15). -/
def Panel.bits (p : Panel) (s r : Nat) : Nat :=
  if p.sparse then
    let g := s / 4
    let i0 := p.index.getD (64 * g + 2 * r) 0
    let i1 := p.index.getD (64 * g + 2 * r + 1) 0
    let x0 := p.elems.getD (p.rows * (2 * g) + r) 0
    let x1 := p.elems.getD (p.rows * (2 * g + 1) + r) 0
    if i0 = s % 4 ∧ i1 = s % 4 then Config.samePlace p.fmt x0 x1 % 2 ^ fmtBits p.fmt
    else if i0 = s % 4 then x0
    else if i1 = s % 4 then x1
    else 0
  else p.elems.getD (p.rows * s + r) 0

/-- The scale byte of row or column r in block j; 0x7F without scales (R114, R135). -/
def Panel.scale (p : Panel) (j r : Nat) : Nat := p.scales.getD (p.rows * j + r) 0x7F

/-! ## Accumulation (R141-R143) -/

/-- A fused chain step in the accumulator type (R141); the result as bits, flags NV and OF only (R140). -/
def chainStep (f : Fmt) (acc : Nat × Nat) (a b : FVal) : Nat × Nat :=
  let r := FVal.fma 0 false false a b (f.decode acc.1)
  let o := f.round rneCtl r.1
  (o.1, acc.2 ||| ((r.2 ||| o.2) &&& (fNV ||| fOF)))

/-- The sum of one group's products (R142 steps 1 to 3), with its flags. A sum of zeros alone is +0 (log entry 144). -/
def groupSum (ps : List (FVal × Nat)) : FVal × Nat :=
  let nv := ps.foldl (fun acc p => acc ||| p.2) 0
  let pinf := ps.any fun p => p.1 == .inf false
  let ninf := ps.any fun p => p.1 == .inf true
  if ps.any fun p => p.1.isNan then (.nan false, nv ||| (if pinf && ninf then fNV else 0))
  else if pinf && ninf then (.nan false, nv ||| fNV)
  else if pinf then (.inf false, nv)
  else if ninf then (.inf true, nv)
  else
    let fin := ps.filterMap fun p => match p.1 with
      | .fin n m e => if m = 0 then none else some (n, m, e)
      | _ => none
    match fin with
    | [] => (.fin false 0 0, nv)
    | x :: r =>
      let top := r.foldl (fun acc y => max acc (ilog2 y.2.1 y.2.2)) (ilog2 x.2.1 x.2.2)
      let q := top - 50
      let t := (x :: r).foldl (fun (acc : Int) y =>
        let m : Nat := if q ≤ y.2.2 then y.2.1 * 2 ^ (y.2.2 - q).toNat else y.2.1 / 2 ^ (q - y.2.2).toNat
        acc + (if y.1 then -(m : Int) else m)) 0
      (.fin (decide (t < 0)) t.natAbs q, nv)

/-- One group applied to an FP32 accumulator: acc ← round(acc + S × 2^(sA+sB)) (R142 step 4). -/
def groupStep (acc : Nat × Nat) (sa sb : Nat) (ps : List (FVal × Nat)) : Nat × Nat :=
  let g := groupSum ps
  let v := if sa = 255 ∨ sb = 255 then FVal.nan false
    else match g.1 with
      | .fin n m e => .fin n m (e + (sa : Int) + (sb : Int) - 254)
      | v => v
  let r := FVal.add 0 (fmt32.decode acc.1) v
  let o := fmt32.round rneCtl r.1
  (o.1, acc.2 ||| ((g.2 ||| r.2 ||| o.2) &&& (fNV ||| fOF)))

/-- One group added to an INT32 accumulator modulo 2^32 (R143). -/
def intStep (acc : Nat × Nat) (sum : Int) : Nat × Nat :=
  let t := sval 32 acc.1 + sum
  (sbits 32 t, acc.2 ||| (if t < smin 32 ∨ smax 32 < t then fOF else 0))

/-- One accumulator element of A × B + acc (R113, R141-R143). -/
def mmaElem (pa pb : Panel) (k : Nat) (ftz : Bool) (r c : Nat) (acc : Nat) : Nat × Nat :=
  let a := fun s => elemRead pa.fmt ftz (pa.bits s r)
  let b := fun s => elemRead pb.fmt ftz (pb.bits s c)
  match rateClass pa.fmt with
  | 0 => (List.range k).foldl (fun x s => chainStep fmt64 x (a s) (b s)) (acc, 0)
  | 1 => (List.range k).foldl (fun x s => chainStep fmt32 x (a s) (b s)) (acc, 0)
  | _ =>
    let groups := (List.range ((k + 31) / 32)).map fun j => (j, (List.range (min 32 (k - 32 * j))).map fun i => 32 * j + i)
    if accType pa.fmt = .int32 then
      groups.foldl (fun x g => intStep x (g.2.foldl (fun (t : Int) s =>
        t + sval (fmtBits pa.fmt) (pa.bits s r) * sval (fmtBits pb.fmt) (pb.bits s c)) 0)) (acc, 0)
    else
      groups.foldl (fun x g => groupStep x (pa.scale g.1 r) (pb.scale g.1 c)
        (g.2.map fun s => FVal.mul (a s) (b s))) (acc, 0)

/-- Every element of an accumulator, row by row. -/
def accIdx : List (Nat × Nat) := (List.range 32).flatMap fun r => (List.range 64).map fun c => (r, c)

/-- MMA: ad ← A × B, plus ad when Z is 0 (R113). -/
def execMma (h : SlotHdr) (w : BitVec 22) (s : State) : Out := s.live fun s =>
  let ad := bits w 19 3
  let z := decide (bits w 8 1 = 1)
  let desc := fun (s : State) u lo => (s.pre u).s (bits w lo 5)
  .next (s.slot h 2
    (fun s u => decide (bits w 0 8 = 0) && mmaLegal (desc s u 14) (desc s u 9) z ((s.tile u).tag ad))
    fun s u =>
      let da := desc s u 14
      let db := desc s u 9
      let pa := s.readPanel u da 32
      let pb := s.readPanel u db 64
      let k := pdK da
      let s := s.checkSeg u Segment.r (pdAddr da) (panelBytes pa.fmt 32 k pa.sparse)
      let s := s.checkSeg u Segment.r (pdAddr db) (panelBytes pb.fmt 64 k false)
      s.modTile u fun t =>
        let out := accIdx.map fun i =>
          (i, mmaElem pa pb k (rndFtz t.pre.rnd) i.1 i.2 (if z then 0 else (t.acc ad i.1 i.2).toNat))
        let flags := out.foldl (fun acc o => acc ||| o.2.2) (nanScales (pa.scales.toList ++ pb.scales.toList))
        let t := out.foldl (fun t o => t.setAcc ad o.1.1 o.1.2 (BitVec.ofNat 64 o.2.1)) t
        (t.setTag ad (accType pa.fmt)).raiseFlags flags)

/-- The accumulator types of AZERO (R115). -/
def tagOf : Nat → AccTag
  | 0 => .fp32 | 1 => .fp64 | _ => .int32

/-- AZERO: ad ← 0 with a type tag (R115). -/
def execAzero (h : SlotHdr) (w : BitVec 22) (s : State) : Out := s.live fun s =>
  .next (s.slot h 2 (fun _ _ => decide (bits w 0 16 = 0 ∧ bits w 16 3 ≤ 2)) fun s u => s.modTile u fun t =>
    (accIdx.foldl (fun t i => t.setAcc (bits w 19 3) i.1 i.2 0) t).setTag (bits w 19 3) (tagOf (bits w 16 3)))

/-- Bits of an accumulator element. -/
def AccTag.width : AccTag → Nat
  | .fp64 => 64 | _ => 32
/-- The format code of an accumulator type. -/
def AccTag.code : AccTag → Nat
  | .fp64 => 0 | .fp32 => 1 | .int32 => 14

/-- ALD: ad ← 32 rows from the scratchpad, with the tag of FMT 0, 1 or 14 (R115). SPARSE of its descriptor is ignored, as K is (log
entry 145). -/
def execAld (h : SlotHdr) (w : BitVec 22) (s : State) : Out := s.live fun s =>
  let ad := bits w 19 3
  .next (s.slot h 2
    (fun s u =>
      let d := (s.pre u).s (bits w 14 5)
      decide (bits w 0 14 = 0) && pdZero d && (pdFmt d == 0 || pdFmt d == 1 || pdFmt d == 14))
    fun s u =>
      let d := (s.pre u).s (bits w 14 5)
      let n := fmtBits (pdFmt d)
      let x := s.spadRead u (pdAddr d) (256 * n)
      (s.checkSeg u Segment.r (pdAddr d) (256 * n)).modTile u fun t =>
        let t := (accIdx.zip (lanes n 2048 x)).foldl (fun t e => t.setAcc ad e.1.1 e.1.2 (BitVec.ofNat 64 e.2)) t
        t.setTag ad (if pdFmt d = 0 then .fp64 else if pdFmt d = 1 then .fp32 else .int32))

/-- The targets that AST allows from each accumulator type (R132). -/
def astAllowed (g : AccTag) (f : Nat) : Bool :=
  match g with
  | .fp64 => f == 0 || f == 1
  | .fp32 => (decide (1 ≤ f) && decide (f ≤ 12)) || f == 14
  | .int32 => f == 1 || decide (12 ≤ f)

/-- AST: the scratchpad ← ad converted to FMT, row by row, block scales after the rows (R115, R132, R133). A conversion to
the accumulator's own format copies the bits. SPARSE of its descriptor is ignored (log entry 145), and its draws start from SEED as a
WRSR of the same bundle writes it (log entry 143). -/
def execAst (h : SlotHdr) (w : BitVec 22) (s : State) : Out := s.live fun s =>
  let ad := bits w 19 3
  .next (s.slot h 2
    (fun s u =>
      let d := (s.pre u).s (bits w 14 5)
      decide (bits w 0 10 = 0 ∧ bits w 11 3 ≤ 5) && pdZero d && astAllowed ((s.tile u).tag ad) (pdFmt d))
    fun s u =>
      let d := (s.pre u).s (bits w 14 5)
      let t := s.tile u
      let src := (t.tag ad).code
      let dst := pdFmt d
      let rnd := t.pre.rnd
      let raw := accIdx.map fun i => (t.acc ad i.1 i.2).toNat
      let r := if src = dst then ([], Conv.mk raw 0 t.seed)
        else convert src dst (effMode (bits w 11 3) rnd) (decide (bits w 10 1 = 1) || rndSat rnd) (rndFtz rnd)
          (raw.map (elemRead src (rndFtz rnd))) t.seed
      let s := s.setTile u ({ t with seed := r.2.seed }.raiseFlags r.2.flags)
      s.spadWrite u (pdAddr d) (bytesOfNat (256 * fmtBits dst) (joinLanes (fmtBits dst) r.2.bits) ++
        r.1.map fun b => BitVec.ofNat 8 b))

/-- Legality of ARD and AWR: half = 1 only on an FP64 accumulator (R115). -/
def rowLegal (w : BitVec 22) (g : AccTag) : Bool := decide (bits w 0 8 = 0) && (bits w 8 1 == 0 || g == .fp64)

/-- The first column and the count of the columns that ARD and AWR reach (R115). -/
def rowCols (g : AccTag) (half : Nat) : List Nat :=
  if g = .fp64 then (List.range 32).map fun i => 32 * half + i else List.range 64

/-- ARD: vd ← one accumulator row (R115). -/
def execArd (h : SlotHdr) (w : BitVec 22) (s : State) : Out := s.live fun s =>
  let ad := bits w 19 3
  .next (s.slot h 2 (fun s u => rowLegal w ((s.tile u).tag ad)) fun s u => s.modTile u fun t =>
    let g := t.tag ad
    t.setV (bits w 14 5) (BitVec.ofNat 2048 (joinLanes g.width
      ((rowCols g (bits w 8 1)).map fun c => (t.acc ad (bits w 9 5) c).toNat))))

/-- AWR: one accumulator row ← va; the accumulator keeps the type it holds (R115). -/
def execAwr (h : SlotHdr) (w : BitVec 22) (s : State) : Out := s.live fun s =>
  let ad := bits w 19 3
  .next (s.slot h 2 (fun s u => rowLegal w ((s.tile u).tag ad)) fun s u => s.modTile u fun t =>
    let g := t.tag ad
    let cols := rowCols g (bits w 8 1)
    let x := lanes g.width cols.length (t.pre.v (bits w 14 5)).toNat
    (cols.zip x).foldl (fun t e => t.setAcc ad (bits w 9 5) e.1 (BitVec.ofNat 64 e.2)) t)

end Sys2Proof.Machine
end

