-- ==== Sys2Proof/Machine/Mesh.lean ====
section
/-!
DEFINITION. The mesh of a compute die: its routers, ports and links, the way of a flit, and hop errors (R70-R72).
-/
namespace Sys2Proof.Machine

/-! ## Routers and ports (R70, R73) -/

/-- The column and the row of a site. -/
def siteCol (x : Nat) : Nat := x % 18
def siteRow (x : Nat) : Nat := x / 18
def siteAt (row col : Nat) : Nat := 18 * row + col

/-- Where the port of a router leads: another router, an edge bridge or the tile; none for a port at the edge of the grid with
nothing behind it. -/
inductive MeshEnd where
  | site (x : Nat)
  | bridge (b : Nat)
  | tile (x : Nat)
deriving DecidableEq, Repr

def meshPort (x : Nat) : MeshDir → Option MeshEnd
  | .north => if siteRow x < 15 then some (.site (x + 18)) else none
  | .south => if 0 < siteRow x then some (.site (x - 18)) else none
  | .east => some (if siteCol x < 17 then .site (x + 1) else .bridge 1)
  | .west => some (if 0 < siteCol x then .site (x - 1) else .bridge 0)
  | .tile => some (.tile x)

/-- The number of a link: a router and the port by which a flit leaves it. -/
def meshLink (x : Nat) (d : MeshDir) : Nat :=
  5 * x + (match d with | .north => 0 | .south => 1 | .east => 2 | .west => 3 | .tile => 4)

/-! ## The way of a flit (R70-R72) -/

/-- The direction that leads along a line from one place to another. -/
def toward (a b : Nat) (up down : MeshDir) : Option MeshDir := if a < b then some up else if b < a then some down else none

/-- The port by which a flit leaves a router for a tile: first along the row, then along the column; a flit for a bridge stays on its
row. -/
def meshDir (x : Nat) : MeshEnd → MeshDir
  | .bridge b => if b = 0 then .west else .east
  | .site y | .tile y =>
    match toward (siteCol x) (siteCol y) .east .west with
    | some d => d
    | none => (toward (siteRow x) (siteRow y) .north .south).getD .tile

/-- The bridge that a tile's traffic takes: by its column, or the one that is left. -/
def meshBridge (route x : Nat) : Nat := if route = 1 then 1 else if route = 2 then 0 else if siteCol x < 9 then 0 else 1

/-- The links of the step from a router to the next: the link itself, or around a suspect one through the neighbouring row, or column for
a link along a column (log entry 141). -/
def meshStep (suspect : List Nat) (x : Nat) (d : MeshDir) : List (Nat × MeshDir) :=
  let around := fun (side back : MeshDir) =>
    match meshPort x side with
    | some (.site y) => match meshPort y d with
      | some (.site z) => [(x, side), (y, d), (z, back)]
      | _ => [(x, d)]
    | _ => [(x, d)]
  if meshLink x d ∉ suspect then [(x, d)]
  else match d with
    | .east | .west => if siteRow x < 15 then around .north .south else around .south .north
    | .north | .south => if siteCol x < 17 then around .east .west else around .west .east
    | .tile => [(x, d)]

/-- The way of a flit from a router to an end, as the links it takes. -/
def meshWay (suspect : List Nat) : Nat → Nat → MeshEnd → List (Nat × MeshDir)
  | 0, _, _ => []
  | n + 1, x, e =>
    let d := meshDir x e
    meshStep suspect x d ++
      match meshPort x d with
      | some (.site y) => meshWay suspect n y e
      | _ => []

/-- The ways of a die's flits: from a tile to its bridge, from a bridge to a tile on the tile's row, and from tile to tile. -/
def State.tileToBridge (s : State) (d x : Nat) : List (Nat × MeshDir) :=
  meshWay (s.cdie d).suspect 40 x (.bridge (meshBridge (s.getF (Reg.meshRoute d)) x))
def State.bridgeToTile (s : State) (d b x : Nat) : List (Nat × MeshDir) :=
  meshWay (s.cdie d).suspect 40 (siteAt (siteRow x) (if b = 0 then 0 else 17)) (.tile x)
def State.tileToTile (s : State) (d x y : Nat) : List (Nat × MeshDir) := meshWay (s.cdie d).suspect 40 x (.tile y)

/-- MESH_REROUTED (R72): every bridge of the die's traffic goes to the surviving bridge. -/
def execMeshRerouted (die : DieN) (s : State) : Out := s.live fun s =>
  let d := die.val
  let lost := fun i => s.getF (Reg.vlinkWidth (2 * d + i)) == 2
  if s.getF (Reg.meshRoute d) ≠ 0 ∨ lost 0 == lost 1 then .next s
  else
    let bridge := if lost 0 then 0 else 1
    .next ((s.setF (Reg.meshRoute d) (bridge + 1)).raise 0x5009 (s.dieUnit d) [d, bridge])

/-! ## Hop errors (R71) -/

/-- Whether a hop takes a flit: its CRC-32 holds. One that it does not take is replayed from the buffer of the hop before. -/
def hopTakes (f : Flit) : Bool := crcOf f == flitCrc f

/-- Flits reach the end of a link: each that the hop does not take is an error of the link and is replayed, which the die counts. -/
def State.hopErrors (s : State) (d link : Nat) (flits : List Flit) : State :=
  let n := (flits.filter fun f => !hopTakes f).length
  let c := s.cdie d
  let recent := c.errors.filter fun e => decide (s.clk.now < e.2 + 1000000)
  (s.setCdie d { c with errors := recent ++ List.replicate n (link, s.clk.now) }).bump (Reg.meshRetries d) n

/-- MESH_LINK_SUSPECT (R71): flits reach the end of a mesh link; with eight errors on it within 1 ms the link is suspect, and its
traffic detours. -/
def execMeshLinkSuspect (die : DieN) (link : MeshHop) (flits : List Flit) (s : State) : Out := s.live fun s =>
  let d := die.val
  let l := meshLink link.site link.dir
  if (meshPort link.site link.dir).isNone then .next s
  else
    let s := s.hopErrors d l flits
    let c := s.cdie d
    let eight := decide (8 ≤ (c.errors.filter fun e => e.1 == l).length)
    .next (if eight ∧ l ∉ c.suspect then s.setCdie d { c with suspect := c.suspect ++ [l] } else s)

end Sys2Proof.Machine
end

