-- ==== Sys2Proof/Machine/PageCode.lean ====
section
/-!
DEFINITION. A page slot as the medium of a stack holds it: layout, line checks and page code (R296-R299), and the record (R313).
-/
namespace Sys2Proof.Machine

/-! ## The field GF(2^16) and the generator of the page code (R299) -/

/-- The field's polynomial: x^16 + x^12 + x^3 + x + 1. -/
def gfPoly : Nat := 0x1100B

/-- An element times α. -/
def gfAlpha (a : Nat) : Nat := if 2 ^ 15 ≤ a then (2 * a) ^^^ gfPoly else 2 * a

/-- The product of two elements: b's bits weigh a, a·α, a·α², … -/
def gfMul (a b : Nat) : Nat :=
  ((List.range 16).foldl (fun (t : Nat × Nat) i => (if b.testBit i then t.1 ^^^ t.2 else t.1, gfAlpha t.2)) (0, a)).1

/-- A power of α. -/
def gfExp : Nat → Nat
  | 0 => 1
  | n + 1 => gfAlpha (gfExp n)

/-- The exponents of the conjugates of α^i. -/
def conjugates (i : Nat) : List Nat := ((List.range 16).map fun j => i * 2 ^ j % 65535).eraseDups

/-- A polynomial over the field, lowest coefficient first, times X + r. -/
def timesRoot (p : List Nat) (r : Nat) : List Nat := List.zipWith (fun a b => a ^^^ gfMul r b) (0 :: p) (p ++ [0])

/-- The minimal polynomial of α^i, whose coefficients are bits: bit e is that of x^e. -/
def minimalPoly (i : Nat) : Nat :=
  let p := (conjugates i).foldl (fun p e => timesRoot p (gfExp e)) [1]
  (p.zipIdx.map fun c => c.1 * 2 ^ c.2).sum

/-- The product of two polynomials over GF(2). -/
def bitMul (a b : Nat) : Nat := (List.range (Nat.log2 b + 1)).foldl (fun t i => if b.testBit i then t ^^^ (a * 2 ^ i) else t) 0

/-- The generator: the least common multiple of the minimal polynomials of α to α^(2t), one for each set of conjugates, which its
least exponent stands for. -/
def generator (t : Nat) : Nat :=
  (((List.range (2 * t)).map (· + 1)).filter fun i => (conjugates i).all fun e => decide (i ≤ e)).foldl
    (fun g i => bitMul g (minimalPoly i)) 1

/-- The parity of a message, its first bit the highest coefficient: the remainder of message · x^(16t) by the generator. -/
def codeParity (t : Nat) (message : List Bool) : Nat :=
  let w := 16 * t
  let low := generator t % 2 ^ w
  message.foldl (fun r b => if b != r.testBit (w - 1) then (2 * r % 2 ^ w) ^^^ low else 2 * r % 2 ^ w) 0

/-! ## The slot (R296-R298) -/

/-- The check that a stack stores with a line: that of its data and local address, changed by its mark (R298). -/
def storedCheck (la : Nat) (l : Line) (mark : Nat) : W32 :=
  lineCheck la l ^^^ (if mark = 0x40 then 0x9E3779B9#32 else if mark = 0x41 then 0x7F4A7C15#32 else 0)

/-- The metadata of a slot, 16 bytes (R297). -/
def metaBytes (m : PageMeta) : List Byte :=
  bytesOfNat 3 m.writeCount ++ bytesOfNat 4 (m.start % 2 ^ 15 + m.gap % 2 ^ 15 * 2 ^ 16) ++ bytesOfNat 2 m.powerOn ++
    bytesOfNat 6 m.stamp ++ bytesOfNat 1 (m.code % 4 * 21)

/-- The bits of bytes, bit 0 of each first. -/
def bitsOf (bs : List Byte) : List Bool := bs.flatMap fun b => (List.range 8).map fun i => b.getLsbD i

/-- The 4,608 bytes of a slot from its lines (data, valid bit, check) and its metadata. -/
def slotBytes (lines : List (Line × Bool × W32)) (m : PageMeta) : List Byte :=
  let data := lines.flatMap fun e => bytesOfNat 64 e.1.toNat
  let checks := lines.flatMap fun e => bytesOfNat 4 e.2.2.toNat
  let valid := bytesOfNat 8 ((lines.zipIdx.map fun e => e.1.2.1.toNat * 2 ^ e.2).sum)
  let tags := metaBytes m
  let t := codeT m.code
  let parity := codeParity t (bitsOf (data ++ checks ++ valid ++ tags.take 15))
  let first := (List.range (16 * t)).map fun i => if parity.testBit (16 * t - 1 - i) then 2 ^ i else 0
  data ++ checks ++ bytesOfNat 96 first.sum ++ valid ++ tags ++ List.replicate 136 0

/-- The slot of a user page as the medium holds it. The check of a line that was never written is not examined, and the spec gives it
no value (R298). -/
def State.slotImage (s : State) (k q : Nat) : List Byte :=
  let line := fun i =>
    let la := pageLa k q + 64 * i
    let bytes := (List.range 64).map fun j => Tbl.look memD s.mem.medium (la + j)
    let data : Line := BitVec.ofNat 512 (natOfBytes bytes)
    let valid := Tbl.look (fun _ => false) s.mem.medValid (la / 64)
    (data, valid, if valid then storedCheck la data (Tbl.look (fun _ => 0) s.mem.medMark (la / 64)) else Config.unsetCheck la)
  slotBytes ((List.range 64).map line) (s.pageMetaOf k q)

/-! ## The record (R313) -/

/-- The 4,096 bytes of a record. -/
def recordBytes (r : ScRecord) : List Byte :=
  let group := fun b => match (r.groups.find? fun e => e.1 == b) with
    | some e => e.2.1 % 2 ^ 15 + e.2.2 % 2 ^ 15 * 2 ^ 15
    | none => BankGrp.zero.start + BankGrp.zero.gap * 2 ^ 15
  let table := ((List.range 1024).map fun b => group b * 2 ^ (30 * b)).sum
  bytesOfNat 8 r.seq ++ bytesOfNat 2 r.powerOn ++ bytesOfNat 1 r.clean.toNat ++ bytesOfNat 5 0 ++ bytesOfNat 8 r.stime ++
    bytesOfNat 232 0 ++ bytesOfNat 3840 table

end Sys2Proof.Machine
end

