-- ==== Sys2Proof/Machine/Registers.lean ====
section
/-!
DEFINITION. Reads and writes of the register space, by the host and over SMBus (R15, R62, R418-R423, R472).
-/
namespace Sys2Proof.Machine

/-! ## Pairs of a low and a high word (R62) -/

/-- The offset of a low word in a run of 8-byte pairs. -/
def pairIn (o lo hi : Nat) : Bool := decide (lo ≤ o ∧ o < hi) && o % 8 == 0

/-- Whether an address is that of a `_LO` register, or of the low word of a counter. -/
def isLo (a : Nat) : Bool :=
  let o := a % 0x10000
  let c := a % 0x100000
  if a < 0x10000 then a == 4
  else if a < 0x20000 then o == 0x18 || o == 0x8004 || o == 0x8014
  else if a < 0x30000 then o == 0 || o == 0x10 || o == 0x38
  else if a < 0x40000 then
    o == 0x10 || o == 0x18 || pairIn o 0x100 0x180 || (decide (0x1000 ≤ o ∧ o < 0x5000) && (o % 64 == 0 || o % 64 == 8)) ||
      (decide (0x5000 ≤ o ∧ o < 0x7000) && (o % 32 == 0 || o % 32 == 8))
  else if a < 0x50000 then pairIn o 0x200 0x240
  else if a < 0x60000 then pairIn o 0x100 0x140
  else if a < 0x70000 then o == 0x200
  else if a < 0x1000000 then false
  else if a < 0x1800000 then
    c == 8 || (decide (0x6000 ≤ c ∧ c < 0x7200) && c % 16 == 8) || (pairIn c 0x20000 0x29000 && decide (c % 128 < 72)) ||
      pairIn c 0x30000 0x34800 || pairIn c 0x82000 0x82040
  else if a < 0x2000000 then false
  else if a < 0x2200000 then
    pairIn o 0x1000 0x1100 || pairIn o 0x1200 0x1280 || (decide (0x2000 ≤ o ∧ o < 0x6000) && o % 16 == 8) ||
      (pairIn o 0x8000 0x10000 && decide (a < 0x2100000))
  else if a < 0x2800000 then false
  else if a < 0x28C0000 then o == 0x18 || pairIn o 0x1000 0x1100 || pairIn o 0x1200 0x1280
  else if a < 0x3000000 then false
  else if a < 0x3400000 then pairIn (a - 0x3000000) 0x400 0x480
  else if a < 0x3500000 then
    let w := a % 0x80000
    w == 0x10 || w == 0x24 || pairIn w 0x400 0x480
  else if 0x3801000 ≤ a ∧ a < 0x3801400 then o % 16 == 0
  else false

/-- The low word of a pair, by its high word. -/
def lowOf (a : Nat) : Nat := a - 4
def isHi (a : Nat) : Bool := decide (4 ≤ a) && isLo (lowOf a)

/-- Whether an address lies in the sync counters of a compute hub. -/
def isSync (a : Nat) : Bool := decide (0x2000000 ≤ a ∧ a < 0x2100000) && decide (0x8000 ≤ a % 0x10000)

/-- The bits of a high word that are read live: OVF of a counter (R62). SAT of a sync counter is latched with the rest. -/
def liveHi (a : Nat) : W32 := if isSync a then 0 else BitVec.ofNat 32 (regDesc a).w1c

/-! ## What a register reads as -/

/-- The bits of a register that a measurement sets (R438). -/
def State.freeMask (s : State) (a : Nat) : W32 :=
  let o := a % 0x10000
  if a < 0x60000 ∨ 0x70000 ≤ a then 0
  else if o = 0 ∨ o = 4 then 0x03FF03FF#32
  else if o = 8 ∨ (0x10 ≤ o ∧ o < 0x70) then 0xFFFF#32
  else if 0x80 ≤ o ∧ o < 0xC0 then 0xFFF00#32
  else if 0x100 ≤ o ∧ o < 0x184 then (if s.on (Reg.identHeldOut ((o - 0x100) / 4)) then 0 else 0xFFF#32)
  else if o = 0x200 then 0xFFFFFFFF#32
  else if o = 0x204 then 0xFFFF#32 else 0

/-- Word i of a list of bytes, zero after its end (R455). -/
def wordAt (bs : List Byte) (i : Nat) : W32 := BitVec.ofNat 32 (natOfBytes ((bs.drop (4 * i)).take 4))

/-- The milliseconds left in a command window (R446). -/
def State.remainMs (s : State) : Nat := if s.windowOpen then (s.sec.openAt + 30000000000 - s.clk.now) / 1000000 else 0

/-- The entry of the load list that SC_LOAD_IDX names (R308). -/
def State.loadEntry (s : State) (k : Nat) : Option LoadEntry := (s.sc k).loads[s.getF (Reg.scLoadIdx k)]?

/-- A register of a stack controller. -/
def State.scWord (s : State) (a : Nat) : W32 :=
  let k := (a - 0x2800000) / 0x10000
  let o := a % 0x10000
  if o = 0x18 then BitVec.ofNat 32 (s.durable k)
  else if o = 0x1C then BitVec.ofNat 32 (s.durable k / 2 ^ 32)
  else if o = 0x34 then (match s.loadEntry k with | some e => BitVec.ofNat 32 (2 ^ 31 + e.page) | none => 0)
  else if o = 0x38 then (match s.loadEntry k with | some e => BitVec.ofNat 32 (e.hard + e.corrected * 2 ^ 8 + e.code * 2 ^ 16) | none => 0)
  else s.getR a

/-- A word of a sync counter (R227). -/
def State.syncWord (s : State) (a : Nat) : W32 :=
  let v := Tbl.look (fun _ => 0) s.fab.sync ((a - 0x2000000) / 0x10000 * 4096 + (a % 0x10000 - 0x8000) / 8)
  if a % 8 = 0 then BitVec.ofNat 32 v
  else BitVec.ofNat 32 (v / 2 ^ 32 % 2 ^ 16) ||| (if v = cntMax then 0x80000000#32 else 0)

/-- A register of a compute die. The counters of a site that is not active read as zero (R182). While the die is isolated its
block returns what it held at isolation (R419). -/
def State.cdWord (s : State) (a : Nat) : W32 :=
  let d := (a - 0x1000000) / 0x100000
  let o := a % 0x100000
  let c := s.cdie d
  let st := s.getF (Reg.dieState d)
  let live := s.getR a
  let site := (o - 0x30000) / 64
  if 0x30000 ≤ o ∧ o < 0x34800 ∧ s.getF (Reg.siteState d site) ≠ 1 then 0
  else if st = 5 then live &&& 3#32
  else if c.fencedAt.isSome ∧ (st = 2 ∨ st = 4) then
    (Tbl.look regReset c.held a &&& ~~~rwhMask a) ||| (live &&& rwhMask a)
  else live

/-- Whether the calibration image window shows its contents: while a restore is open, and after a save (R252). -/
def State.windowShown (s : State) : Bool := s.on Reg.restoreOpen || s.getF Reg.calLast == 1

/-- The value of a register at its home address, but for its RWH bits while READ_STAGED holds. -/
def State.inForce (s : State) (a : Nat) : W32 :=
  if a = 0x20000 then BitVec.ofNat 32 s.clk.now
  else if a = 0x20004 then BitVec.ofNat 32 (s.clk.now / 2 ^ 32)
  else if a = 0x20010 then BitVec.ofNat 32 s.clk.frame
  else if a = 0x20014 then BitVec.ofNat 32 (s.clk.frame / 2 ^ 32 % 2 ^ 16)
  else if a = Reg.slewRemain.addr then (if s.on Reg.slewActive then Reg.slewRemain.into (s.getR a) s.slewField else s.getR a)
  else if a = Reg.hawkDiffers.addr then Reg.hawkDiffers.into (s.getR a) (!s.hawk.staged.isEmpty).toNat
  else if a = 0x18014 then BitVec.setWidth 32 ((s.region (s.getF Reg.rgnReadIdx)).word s.clk.frame) &&& 0xFFFF03FF#32
  else if a = 0x18018 then
    let r := s.region (s.getF Reg.rgnReadIdx)
    BitVec.ofNat 32 ((r.word s.clk.frame).toNat / 2 ^ 32 % 2 ^ 16 + r.pending.toNat * 2 ^ 16)
  else if a = Reg.secRemain.addr then Reg.secRemain.into (s.getR a) s.remainMs
  else if 0x51000 ≤ a ∧ a < 0x51800 then wordAt s.store.pub ((a - 0x51000) / 4)
  else if 0x51800 ≤ a ∧ a < 0x51D80 then wordAt s.store.statement ((a - 0x51800) / 4)
  else if 0x1000000 ≤ a ∧ a < 0x1800000 then s.cdWord a
  else if isSync a then s.syncWord a
  else if 0x2800000 ≤ a ∧ a < 0x28C0000 then s.scWord a
  else if imageBase ≤ a ∧ a < imageBase + 40960 ∧ !s.windowShown then 0
  else s.getR a

/-- What a register at its home address reads as: the staged value of RWH bits while READ_STAGED holds (R420), and the free value
of measured ones. -/
def State.readWord (s : State) (a : Nat) : W32 :=
  let w := s.inForce a
  let m := rwhMask a
  let w := if m ≠ 0 ∧ s.on Reg.hawkReadStaged then (w &&& ~~~m) ||| s.getStaged a else w
  let f := s.freeMask a
  let shift := if a = 0x60204 then 32 else 0
  (w &&& ~~~f) ||| (BitVec.setWidth 32 (s.freeWord >>> shift) &&& f)

/-- Whether a register can be read (R419): its block answers; the blocks of a held-out compute die's hubs and its SD_STATUS stay
readable. -/
def State.readable (s : State) (a : Nat) : Bool :=
  s.blockOpen a && (!s.blockOut a || decide (0x2000000 ≤ a ∧ a < 0x2200000) ||
    (decide (0x1000000 ≤ a ∧ a < 0x1800000) && a % 0x100000 == 0x80000))

/-- A read of 32 bits with the latches of its reader: the word, and the latches after it (R62). -/
def State.readReg (s : State) (latch : Tbl W32) (addr : Nat) : W32 × Tbl W32 :=
  let a := regHome addr
  if !s.readable addr then (0, latch)
  else if isHi a then ((Tbl.look (fun _ => 0) latch a &&& ~~~liveHi a) ||| (s.readWord a &&& liveHi a), latch)
  else
    let hi := if a = 4 then 8 else a + 4
    (s.readWord a, if isLo a then Tbl.put (fun _ => 0) latch hi (s.readWord hi) else latch)

/-- A read of measured bits takes a free value; one of STK_SLEW leaves REMAIN at what it showed, so that it counts down (R44). -/
def State.afterRead (s : State) (a : Nat) : State :=
  if a = Reg.slewRemain.addr then s.countSlew else if s.freeMask a = 0 then s else s.tookFree

/-- LO_REGISTER_READ (R33, R62, R325, R419): the host reads a register through BAR0, which takes naturally aligned 32-bit accesses
only; a read of a low word latches its high word. -/
def execLoRegisterRead (addr : BitVec 26) (s : State) : Out := s.live fun s =>
  let a := addr.toNat
  if a % 4 ≠ 0 ∨ !s.hostReaches then .next s
  else
    let r := s.readReg s.hostLatch a
    .next { s.afterRead a with readData := r.1, hostLatch := r.2 }

/-! ## SMBus (R472) -/

/-- Whether SMBus serves an offset: the GLB, HLTH and PWR blocks, and in PHASE 0 only five of their registers. -/
def State.smbServes (s : State) (a : Nat) : Bool :=
  let block := decide (a < 0x10000) || decide (0x40000 ≤ a ∧ a < 0x50000) || decide (0x60000 ≤ a ∧ a < 0x70000)
  let first := a == 0x10 || a == 0x60000 || a == 0x60004 || a == 0x60008 || decide (0x60080 ≤ a ∧ a < 0x600C0)
  a % 4 == 0 && (if s.getF Reg.glbPhase = 0 then first else block)

/-- SMBUS_READ (R472): the target answers while a feed is in range. A write block of another length than 4, or a wrong PEC byte,
returns a block of count 0; an offset that is not served returns zero. -/
def execSmbusRead (block : List Byte) (pecOk : Bool) (s : State) : Out :=
  if !s.pins.feedA ∧ !s.pins.feedB then .next s
  else if block.length ≠ 4 ∨ !pecOk then .next { s with smbData := [] }
  else
    let a := natOfBytes block
    if !s.smbServes a then .next { s with smbData := bytesOfNat 4 0 }
    else
      let r := s.readReg s.smbLatch a
      .next { s.afterRead a with smbData := bytesOfNat 4 r.1.toNat, smbLatch := r.2 }

/-! ## Plain writes (R15, R419-R421) -/

/-- A write of RW and W1C bits. -/
def State.plainWrite (s : State) (a : Nat) (value : W32) : State :=
  let d := regDesc a
  let rw := BitVec.ofNat 32 d.rw
  let clear := value &&& BitVec.ofNat 32 d.w1c
  s.setR a ((s.getR a &&& ~~~rw &&& ~~~clear) ||| (value &&& rw))

/-- A write of a register with no behaviour of its own: RW and W1C bits act, RWH bits are staged. -/
def State.anyWrite (s : State) (a : Nat) (value : W32) : State :=
  let s := if (regDesc a).rw = 0 ∧ (regDesc a).w1c = 0 then s else s.plainWrite a value
  if (regDesc a).rwh = 0 then s else s.rwhWrite a value

/-! ## Blocks whose writes act -/

/-- HAWK (R268, R421, R436). CANCEL acts before DISCARD. -/
def State.writeHawk (s : State) (o : Nat) (v : W32) : State :=
  let a := 0x10000 + o
  if o = 0 then (if v.getLsbD 31 then s.hawkGo else s)
  else if o = 4 ∨ o = 0x8000 ∨ o = 0x8004 then (if s.hawkBusy then s.writeIgnored else s.plainWrite a v)
  else if o = 8 then
    let s := s.plainWrite a v
    let s := if v.getLsbD 2 then s.hawkCancelWrite else s
    if v.getLsbD 1 then s.hawkDiscardWrite else s
  else if o = 0x8008 then s.rgnAppend v
  else if o = 0x800C then
    let s := s.plainWrite a v
    if v.getLsbD 16 then s.rgnClearWrite else s
  else s.anyWrite a v

/-- The submission rings that name a completion ring. -/
def State.ringsNaming (s : State) (m : Nat) : List Nat := (List.range 256).filter fun n => s.getF (Reg.sqCq n) == m

/-- A submission ring's registers (R351, R354, R356, R423). -/
def State.writeSq (s : State) (n o : Nat) (v : W32) : State :=
  let a := Reg.sq n + o
  let st := s.getF (Reg.sqState n)
  if o < 0x10 then (if st = 0 then s.plainWrite a v else s.cfgIgnored n)
  else if o = 0x14 then (if v.getLsbD 0 then s.ringEnable n else s.ringDisable n)
  else if o = 0x30 then s.dbFallback n v
  else if o = 0x10 then
    let m := (v.toNat / 2 ^ 8) % 256
    if st = 2 ∨ ((st = 1 ∨ st = 3) ∧ !s.on (Reg.cqValid m)) then s.cfgIgnored n else s.plainWrite a v
  else if (0x20 ≤ o ∧ o < 0x30) ∨ o = 0x34 then (if st = 2 then s.cfgIgnored n else s.plainWrite a v)
  else s.anyWrite a v

/-- A completion ring's registers (R351, R356, R423). -/
def State.writeCq (s : State) (m o : Nat) (v : W32) : State :=
  let a := Reg.cq m + o
  if o < 0x10 then
    (if s.on (Reg.cqValid m) then (s.ringsNaming m).foldl (fun s n => s.cfgIgnored n) s else s.plainWrite a v)
  else if o = 0x10 then
    let was := s.on (Reg.cqValid m)
    if was ∧ !v.getLsbD 31 ∧ (s.ringsNaming m).any (fun n => s.getF (Reg.sqState n) != 0) then s
    else
      let s := s.plainWrite a v
      let s := if !was ∧ v.getLsbD 31 then (s.setF (Reg.cqWritten m) 0).modCq m fun c => { c with head := 0, since := 0 } else s
      s.refreshCq m
  else s.anyWrite a v

/-- RING (R353, R356). The event ring names no submission ring, so an ignored write of its addresses sets no bit. -/
def State.writeRing (s : State) (o : Nat) (v : W32) : State :=
  let a := 0x30000 + o
  if 0x10 ≤ o ∧ o < 0x20 then (if s.on Reg.evrValid then s else s.plainWrite a v)
  else if o = 0x20 then
    let was := s.on Reg.evrValid
    let s := s.plainWrite a v
    let s := if !was ∧ v.getLsbD 31 then { s with host := { s.host with evrHead := 0, evrWritten := 0 } } else s
    s.refreshEvr
  else if 0x1000 ≤ o ∧ o < 0x5000 then s.writeSq ((o - 0x1000) / 64) (o % 64) v
  else if 0x5000 ≤ o ∧ o < 0x7000 then s.writeCq ((o - 0x5000) / 32) (o % 32) v
  else s.anyWrite a v

/-- HLTH (R401, R412, R414). -/
def State.writeHlth (s : State) (o : Nat) (v : W32) : State :=
  if o = 4 then s.hlthCtrlWrite v
  else if o = 0xC then (s.plainWrite 0x4000C v).updatePins
  else if 0x100 ≤ o ∧ o < 0x178 then (if v.getLsbD 11 then s.dieReset ((o - 0x100) / 4) else s)
  else s.anyWrite (0x40000 + o) v

/-- A compute die's block (R178, R419): while the die is isolated only RWH bits take a write. -/
def State.writeCd (s : State) (d o : Nat) (v : W32) : State :=
  let a := Reg.cd d + o
  let st := s.getF (Reg.dieState d)
  if (s.cdie d).fencedAt.isSome ∧ (st = 2 ∨ st = 4) then (if (regDesc a).rwh = 0 then s else s.rwhWrite a v)
  else if o = 0x80004 then (if v.getLsbD 0 then s.sdReset d 0 else s)
  else s.anyWrite a v

/-- A stack controller's block (R315, R316): DISCARD as written counts for a RESET in the same write. -/
def State.writeSc (s : State) (k o : Nat) (v : W32) : State :=
  let a := Reg.sc k + o
  if o = 4 then
    let s := s.plainWrite a v
    if !v.getLsbD 0 then s else if s.on (Reg.scDiscard k) then s.scDiscardReset k else s.scReset k 0
  else s.anyWrite a v

/-- LX and ring control (R252-R257). -/
def State.writeLx (s : State) (o : Nat) (v : W32) : State :=
  let a := 0x3000000 + o
  if o = 0x204 then
    let s := s.setB Reg.wakeOnWork (v.getLsbD 1)
    if v.getLsbD 0 then s.darkRequest else s.relockRequest
  else if o = 0x208 then
    let s := if v.getLsbD 0 then s.calSaveWrite else s
    if v.getLsbD 1 then s.calRestoreWrite else s
  else if 0x10000 ≤ o ∧ o < 0x1A000 then (if s.on Reg.restoreOpen then s.setR a v else s)
  else if 0x20000 ≤ o ∧ o < 0x21440 ∧ o % 16 = 4 then s.targetWrite ((o - 0x20000) / 16) v
  else s.anyWrite a v

/-- A Withy block, by the home address (R364, R373, R378, R383). -/
def State.writeWithy (s : State) (n o : Nat) (v : W32) : State :=
  let a := Reg.wty n + o
  let enabled := (List.range 32).any fun k => s.on (Reg.fibEnable (k / 16) (k % 16))
  if o = 0 then (if enabled then s else s.plainWrite a v)
  else if o = 8 then (s.plainWrite a v).noteParent
  else if o = 0x20 then s.rtIdxWrite v
  else if o = 0x24 then
    (if s.getF Reg.wtyRtVersion = s.getF Reg.wtyActive ∨ s.on Reg.wtyDraining then
      (s.setB (Reg.wtyRtIgnored 0) true).setB (Reg.wtyRtIgnored 1) true
    else s.plainWrite a v)
  else if o = 0x28 then s.rtHiWrite v
  else if 0x100 ≤ o ∧ o < 0x200 ∧ o % 16 = 8 then
    let f := (o - 0x100) / 16
    let s := s.fibreEnable n f (v.getLsbD 0)
    if v.getLsbD 1 then s.fibreRetrain n f else s
  else s.anyWrite a v

/-- CXL-local (R327, R352, R357): a vector that is pending is signalled when its entry of the active controller's port is
unmasked. -/
def State.writeCxl (s : State) (o : Nat) (v : W32) : State :=
  let a := 0x3800000 + o
  if o < 0x200 ∧ o % 0x100 = 4 then s.aperBaseWrite (o / 0x100) v
  else if 0x8000 ≤ o ∧ o < 0x10000 ∧ o % 0x4000 < 0x2000 ∧ o % 16 = 12 then
    let p := (o - 0x8000) / 0x4000
    let x := o % 0x4000 / 16
    let s := s.plainWrite a v
    let b := Reg.msixPba p (x / 32)
    let bit := BitVec.ofNat 32 (2 ^ (x % 32))
    if v.getLsbD 0 ∨ (s.getR b &&& bit) = 0 then s else (s.setR b (s.getR b &&& ~~~bit)).msix x
  else s.anyWrite a v

/-- A write of 32 bits at its home address (R418). -/
def State.writeReg (s : State) (a : Nat) (v : W32) : State :=
  if a < 0x10000 then
    (if a = 0x14 then (if v.getLsbD 0 then s.proceed else s) else if a = 0x1C then s.profileWrite v else s.anyWrite a v)
  else if a < 0x20000 then s.writeHawk (a % 0x10000) v
  else if a < 0x30000 then s.anyWrite a v
  else if a < 0x40000 then s.writeRing (a % 0x10000) v
  else if a < 0x50000 then s.writeHlth (a % 0x10000) v
  else if a < 0x60000 then (if a = 0x50004 then s.secCmdWrite v else s.anyWrite a v)
  else if a < 0x1000000 then s.anyWrite a v
  else if a < 0x1800000 then s.writeCd ((a - 0x1000000) / 0x100000) (a % 0x100000) v
  else if a < 0x2000000 then s
  else if a < 0x2200000 then
    let p := (a - 0x2000000) / 0x10000
    (if a % 0x10000 = 4 then (if v.getLsbD 0 then s.hubReset p 0 else s) else s.anyWrite a v)
  else if a < 0x2800000 then s
  else if a < 0x28C0000 then s.writeSc ((a - 0x2800000) / 0x10000) (a % 0x10000) v
  else if a < 0x3000000 then s
  else if a < 0x3400000 then s.writeLx (a - 0x3000000) v
  else if a < 0x3500000 then s.writeWithy ((a - 0x3400000) / 0x80000) ((a - 0x3400000) % 0x80000) v
  else if a < 0x3800000 then s
  else s.writeCxl (a - 0x3800000) v

/-- REGISTER_WRITE (R15, R33, R325, R419-R423): a naturally aligned 32-bit write through BAR0, which a block that does not answer
ignores. A write of a register with behaviour of its own acts as its own row does. -/
def execRegisterWrite (addr : BitVec 26) (value : W32) (s : State) : Out := s.live fun s =>
  let a := addr.toNat
  .next (if a % 4 ≠ 0 ∨ !s.answers a then s else s.writeReg (regHome a) value)

end Sys2Proof.Machine
end

