-- ==== Sys2Proof/Machine/Dispatch.lean ====
section
/-!
DEFINITION. One arm per command: its meaning, by its full name, or a rejection by the name of its row.
-/
namespace Sys2Proof.Machine

def exec (i : Instr) (s : State) : Host.Outcome State Fault Refusal :=
  match i with
  | .powerUp feedA feedB => Sys2Proof.Machine.execPowerUp feedA feedB s
  | .bringupPhaseDone r => Sys2Proof.Machine.execBringupPhaseDone r s
  | .stakeMasterStart => Sys2Proof.Machine.execStakeMasterStart s
  | .proceed => Sys2Proof.Machine.execProceed s
  | .restoreGateTimeout => Sys2Proof.Machine.execRestoreGateTimeout s
  | .registerWrite addr value => Sys2Proof.Machine.execRegisterWrite addr value s
  | .loRegisterRead addr => Sys2Proof.Machine.execLoRegisterRead addr s
  | .smbusRead block pecOk => Sys2Proof.Machine.execSmbusRead block pecOk s
  | .frameTick => Sys2Proof.Machine.execFrameTick s
  | .lapInstant => Sys2Proof.Machine.execLapInstant s
  | .courseStart g => Sys2Proof.Machine.execCourseStart g s
  | .masterSwitched => Sys2Proof.Machine.execMasterSwitched s
  | .masterFailed => Sys2Proof.Machine.execMasterFailed s
  | .stakeLegMeasure leg m => Sys2Proof.Machine.execStakeLegMeasure leg m s
  | .refLost deviation lastEdge => Sys2Proof.Machine.execRefLost deviation lastEdge s
  | .refRestored ref => Sys2Proof.Machine.execRefRestored ref s
  | .slewDone => Sys2Proof.Machine.execSlewDone s
  | .droopStretch die site => Sys2Proof.Machine.execDroopStretch die site s
  | .railRampStart => Sys2Proof.Machine.execRailRampStart s
  | .railRampSettled => Sys2Proof.Machine.execRailRampSettled s
  | .memstopSecondWave => Sys2Proof.Machine.execMemstopSecondWave s
  | .memstopRegionRestart r stopSt => Sys2Proof.Machine.execMemstopRegionRestart r stopSt s
  | .stakeEcho hub die offset => Sys2Proof.Machine.execStakeEcho hub die offset s
  | .dieClockLost hub die => Sys2Proof.Machine.execDieClockLost hub die s
  | .vlinkSpared hub transmit group signal => Sys2Proof.Machine.execVlinkSpared hub transmit group signal s
  | .vlinkHalfWidth hub healthyGroups => Sys2Proof.Machine.execVlinkHalfWidth hub healthyGroups s
  | .meshRerouted die => Sys2Proof.Machine.execMeshRerouted die s
  | .meshLinkSuspect die link flits => Sys2Proof.Machine.execMeshLinkSuspect die link flits s
  | .nop h slot word => Sys2Proof.Machine.execNop h slot word s
  | .endOp h w => Sys2Proof.Machine.execEndOp h w s
  | .lapEnd tile drainCycles => Sys2Proof.Machine.execLapEnd tile drainCycles s
  | .add h w => Sys2Proof.Machine.execAdd h w s
  | .sub h w => Sys2Proof.Machine.execSub h w s
  | .mul h w => Sys2Proof.Machine.execMul h w s
  | .mulhu h w => Sys2Proof.Machine.execMulhu h w s
  | .and h w => Sys2Proof.Machine.execAnd h w s
  | .or h w => Sys2Proof.Machine.execOr h w s
  | .xor h w => Sys2Proof.Machine.execXor h w s
  | .shl h w => Sys2Proof.Machine.execShl h w s
  | .shr h w => Sys2Proof.Machine.execShr h w s
  | .sar h w => Sys2Proof.Machine.execSar h w s
  | .min h w => Sys2Proof.Machine.execMin h w s
  | .max h w => Sys2Proof.Machine.execMax h w s
  | .minu h w => Sys2Proof.Machine.execMinu h w s
  | .maxu h w => Sys2Proof.Machine.execMaxu h w s
  | .addi h w => Sys2Proof.Machine.execAddi h w s
  | .andi h w => Sys2Proof.Machine.execAndi h w s
  | .ori h w => Sys2Proof.Machine.execOri h w s
  | .xori h w => Sys2Proof.Machine.execXori h w s
  | .shli h w => Sys2Proof.Machine.execShli h w s
  | .shri h w => Sys2Proof.Machine.execShri h w s
  | .sari h w => Sys2Proof.Machine.execSari h w s
  | .movi h w => Sys2Proof.Machine.execMovi h w s
  | .sli h w => Sys2Proof.Machine.execSli h w s
  | .cmp h w => Sys2Proof.Machine.execCmp h w s
  | .cmpi h w => Sys2Proof.Machine.execCmpi h w s
  | .plog h w => Sys2Proof.Machine.execPlog h w s
  | .br h w => Sys2Proof.Machine.execBr h w s
  | .loop h w => Sys2Proof.Machine.execLoop h w s
  | .ld h w => Sys2Proof.Machine.execLd h w s
  | .st h w => Sys2Proof.Machine.execSt h w s
  | .rdsr h w => Sys2Proof.Machine.execRdsr h w s
  | .wrsr h w => Sys2Proof.Machine.execWrsr h w s
  | .waitUntil h w => Sys2Proof.Machine.execWaitUntil h w s
  | .wait h w => Sys2Proof.Machine.execWait h w s
  | .signal h w => Sys2Proof.Machine.execSignal h w s
  | .waitd h w => Sys2Proof.Machine.execWaitd h w s
  | .waitdr h w => Sys2Proof.Machine.execWaitdr h w s
  | .waitResume tile cycles => Sys2Proof.Machine.execWaitResume tile cycles s
  | .rimBar h w => Sys2Proof.Machine.execRimBar h w s
  | .rimSet h w => Sys2Proof.Machine.execRimSet h w s
  | .rimWaitf h w => Sys2Proof.Machine.execRimWaitf h w s
  | .vadd h w => Sys2Proof.Machine.execVadd h w s
  | .vsub h w => Sys2Proof.Machine.execVsub h w s
  | .vmul h w => Sys2Proof.Machine.execVmul h w s
  | .vfma h w => Sys2Proof.Machine.execVfma h w s
  | .vfms h w => Sys2Proof.Machine.execVfms h w s
  | .vfnma h w => Sys2Proof.Machine.execVfnma h w s
  | .vmin h w => Sys2Proof.Machine.execVmin h w s
  | .vmax h w => Sys2Proof.Machine.execVmax h w s
  | .vabs h w => Sys2Proof.Machine.execVabs h w s
  | .vneg h w => Sys2Proof.Machine.execVneg h w s
  | .vand h w => Sys2Proof.Machine.execVand h w s
  | .vor h w => Sys2Proof.Machine.execVor h w s
  | .vxor h w => Sys2Proof.Machine.execVxor h w s
  | .vshl h w => Sys2Proof.Machine.execVshl h w s
  | .vshr h w => Sys2Proof.Machine.execVshr h w s
  | .vsar h w => Sys2Proof.Machine.execVsar h w s
  | .vcmp h w => Sys2Proof.Machine.execVcmp h w s
  | .vblend h w => Sys2Proof.Machine.execVblend h w s
  | .vexp2 h w => Sys2Proof.Machine.execVexp2 h w s
  | .vlog2 h w => Sys2Proof.Machine.execVlog2 h w s
  | .vrsqrt h w => Sys2Proof.Machine.execVrsqrt h w s
  | .vrcp h w => Sys2Proof.Machine.execVrcp h w s
  | .vsin h w => Sys2Proof.Machine.execVsin h w s
  | .vcos h w => Sys2Proof.Machine.execVcos h w s
  | .vtanh h w => Sys2Proof.Machine.execVtanh h w s
  | .vcvt h w => Sys2Proof.Machine.execVcvt h w s
  | .vld h w => Sys2Proof.Machine.execVld h w s
  | .vst h w => Sys2Proof.Machine.execVst h w s
  | .vlds h w => Sys2Proof.Machine.execVlds h w s
  | .vsts h w => Sys2Proof.Machine.execVsts h w s
  | .vbcast h w => Sys2Proof.Machine.execVbcast h w s
  | .vtos h w => Sys2Proof.Machine.execVtos h w s
  | .mma h w => Sys2Proof.Machine.execMma h w s
  | .azero h w => Sys2Proof.Machine.execAzero h w s
  | .ald h w => Sys2Proof.Machine.execAld h w s
  | .ast h w => Sys2Proof.Machine.execAst h w s
  | .ard h w => Sys2Proof.Machine.execArd h w s
  | .awr h w => Sys2Proof.Machine.execAwr h w s
  | .load h w => Sys2Proof.Machine.execLoad h w s
  | .store h w => Sys2Proof.Machine.execStore h w s
  | .fadd32 h w => Sys2Proof.Machine.execFadd32 h w s
  | .fadd64 h w => Sys2Proof.Machine.execFadd64 h w s
  | .faddf32 h w => Sys2Proof.Machine.execFaddf32 h w s
  | .faddbf2 h w => Sys2Proof.Machine.execFaddbf2 h w s
  | .swap64 h w => Sys2Proof.Machine.execSwap64 h w s
  | .cas64 h w => Sys2Proof.Machine.execCas64 h w s
  | .min64 h w => Sys2Proof.Machine.execMin64 h w s
  | .max64 h w => Sys2Proof.Machine.execMax64 h w s
  | .and64 h w => Sys2Proof.Machine.execAnd64 h w s
  | .or64 h w => Sys2Proof.Machine.execOr64 h w s
  | .xor64 h w => Sys2Proof.Machine.execXor64 h w s
  | .plait h w => Sys2Proof.Machine.execPlait h w s
  | .rowrd h w => Sys2Proof.Machine.execRowrd h w s
  | .rowwr h w => Sys2Proof.Machine.execRowwr h w s
  | .rowMoveGrant tile govCycle => Sys2Proof.Machine.execRowMoveGrant tile govCycle s
  | .rowMoveDone tile collided found => Sys2Proof.Machine.execRowMoveDone tile collided found s
  | .moverReply tile r collided => Sys2Proof.Machine.execMoverReply tile r collided s
  | .storeRelease tile seq found => Sys2Proof.Machine.execStoreRelease tile seq found s
  | .lookasideFill tile fill => Sys2Proof.Machine.execLookasideFill tile fill s
  | .imageLoaded tile status entry => Sys2Proof.Machine.execImageLoaded tile status entry s
  | .courseEntryFetched tile status entry => Sys2Proof.Machine.execCourseEntryFetched tile status entry s
  | .imageRefetchDone tile status cycles => Sys2Proof.Machine.execImageRefetchDone tile status cycles s
  | .lapBoundExceeded tile cycles => Sys2Proof.Machine.execLapBoundExceeded tile cycles s
  | .courseComplete g => Sys2Proof.Machine.execCourseComplete g s
  | .sliceSpared die slice positions repeats => Sys2Proof.Machine.execSliceSpared die slice positions repeats s
  | .sliceEvacuated die slice => Sys2Proof.Machine.execSliceEvacuated die slice s
  | .sdReset die cause => Sys2Proof.Machine.execSdReset die cause s
  | .sdResetCleared die => Sys2Proof.Machine.execSdResetCleared die s
  | .sdReloaded die => Sys2Proof.Machine.execSdReloaded die s
  | .flitReceive port colour flit word more => Sys2Proof.Machine.execFlitReceive port colour flit word more s
  | .linkControlFlit src dst ackSeq nak credits => Sys2Proof.Machine.execLinkControlFlit src dst ackSeq nak credits s
  | .replayTimeout src dst => Sys2Proof.Machine.execReplayTimeout src dst s
  | .flitLaunch src dst link own => Sys2Proof.Machine.execFlitLaunch src dst link own s
  | .laneSuspect src dst plane errors => Sys2Proof.Machine.execLaneSuspect src dst plane errors s
  | .pairRetrain src dst => Sys2Proof.Machine.execPairRetrain src dst s
  | .pairWidth src dst => Sys2Proof.Machine.execPairWidth src dst s
  | .laneSpared src dst plane => Sys2Proof.Machine.execLaneSpared src dst plane s
  | .syncMirrorConfirm counter => Sys2Proof.Machine.execSyncMirrorConfirm counter s
  | .spokeLaunch hub op => Sys2Proof.Machine.execSpokeLaunch hub op s
  | .spokeFollowup hub op => Sys2Proof.Machine.execSpokeFollowup hub op s
  | .spokeOperationComplete hub op => Sys2Proof.Machine.execSpokeOperationComplete hub op s
  | .plaitResultAcked g => Sys2Proof.Machine.execPlaitResultAcked g s
  | .plaitPartial g => Sys2Proof.Machine.execPlaitPartial g s
  | .rimArrival hub ch gen => Sys2Proof.Machine.execRimArrival hub ch gen s
  | .rimCompletion hub ch src => Sys2Proof.Machine.execRimCompletion hub ch src s
  | .rimFlagUpdate hub ch update => Sys2Proof.Machine.execRimFlagUpdate hub ch update s
  | .hubReset hub cause => Sys2Proof.Machine.execHubReset hub cause s
  | .hubStateCopied hub => Sys2Proof.Machine.execHubStateCopied hub s
  | .hubRestored hub => Sys2Proof.Machine.execHubRestored hub s
  | .laserPowerControl l spare power01mW current => Sys2Proof.Machine.execLaserPowerControl l spare power01mW current s
  | .gridFeedforward l correction => Sys2Proof.Machine.execGridFeedforward l correction s
  | .gridMeasurement l m => Sys2Proof.Machine.execGridMeasurement l m s
  | .handoverPhaseLocked l => Sys2Proof.Machine.execHandoverPhaseLocked l s
  | .handoverStep l => Sys2Proof.Machine.execHandoverStep l s
  | .handoverPhaseLoss l => Sys2Proof.Machine.execHandoverPhaseLoss l s
  | .handoverLockTimeout l => Sys2Proof.Machine.execHandoverLockTimeout l s
  | .laserFailed l spare cause => Sys2Proof.Machine.execLaserFailed l spare cause s
  | .laserLanesReturned l => Sys2Proof.Machine.execLaserLanesReturned l s
  | .ringLoopUpdate r loop residualMHz => Sys2Proof.Machine.execRingLoopUpdate r loop residualMHz s
  | .ringUnlocked r => Sys2Proof.Machine.execRingUnlocked r s
  | .ringAcquire r found => Sys2Proof.Machine.execRingAcquire r found s
  | .identityWindow r res => Sys2Proof.Machine.execIdentityWindow r res s
  | .ringRepair src dst plane => Sys2Proof.Machine.execRingRepair src dst plane s
  | .laneTestDone src dst plane errorsPerMillion => Sys2Proof.Machine.execLaneTestDone src dst plane errorsPerMillion s
  | .calMeasurement q element m again => Sys2Proof.Machine.execCalMeasurement q element m again s
  | .refvFault deviation => Sys2Proof.Machine.execRefvFault deviation s
  | .refvRestored => Sys2Proof.Machine.execRefvRestored s
  | .lsrTargetWrite l value => Sys2Proof.Machine.execLsrTargetWrite l value s
  | .save => Sys2Proof.Machine.execSave s
  | .calImageCapture temps => Sys2Proof.Machine.execCalImageCapture temps s
  | .restore => Sys2Proof.Machine.execRestore s
  | .darkRequest => Sys2Proof.Machine.execDarkRequest s
  | .darkEntered => Sys2Proof.Machine.execDarkEntered s
  | .relockRequest => Sys2Proof.Machine.execRelockRequest s
  | .relocked acquired => Sys2Proof.Machine.execRelocked acquired s
  | .planeRelocked plane => Sys2Proof.Machine.execPlaneRelocked plane s
  | .loadReq r res found => Sys2Proof.Machine.execLoadReq r res found s
  | .storeReq r collided => Sys2Proof.Machine.execStoreReq r collided s
  | .fadd32Req r => Sys2Proof.Machine.execFadd32Req r s
  | .fadd64Req r => Sys2Proof.Machine.execFadd64Req r s
  | .faddf32Req r => Sys2Proof.Machine.execFaddf32Req r s
  | .faddbf2Req r => Sys2Proof.Machine.execFaddbf2Req r s
  | .swap64Req r => Sys2Proof.Machine.execSwap64Req r s
  | .cas64Req r => Sys2Proof.Machine.execCas64Req r s
  | .min64Req r => Sys2Proof.Machine.execMin64Req r s
  | .max64Req r => Sys2Proof.Machine.execMax64Req r s
  | .and64Req r => Sys2Proof.Machine.execAnd64Req r s
  | .or64Req r => Sys2Proof.Machine.execOr64Req r s
  | .xor64Req r => Sys2Proof.Machine.execXor64Req r s
  | .plaitContributionReq hub r => Sys2Proof.Machine.execPlaitContributionReq hub r s
  | .signalReq hub r => Sys2Proof.Machine.execSignalReq hub r s
  | .counterSetReq hub r => Sys2Proof.Machine.execCounterSetReq hub r s
  | .waitReq hub r => Sys2Proof.Machine.execWaitReq hub r s
  | .spokeStoreReq hub entry flitIdx r => Sys2Proof.Machine.execSpokeStoreReq hub entry flitIdx r s
  | .regionEntryReq hub granule found => Sys2Proof.Machine.execRegionEntryReq hub granule found s
  | .targetCacheFill holder granule => Sys2Proof.Machine.execTargetCacheFill holder granule s
  | .replyAck holder srcNode srcUnit inc seqs => Sys2Proof.Machine.execReplyAck holder srcNode srcUnit inc seqs s
  | .requestWindowExpired srcUnit seq => Sys2Proof.Machine.execRequestWindowExpired srcUnit seq s
  | .ledgerEntryExpired holder srcNode srcUnit inc seq => Sys2Proof.Machine.execLedgerEntryExpired holder srcNode srcUnit inc seq s
  | .ledgerQuarantineEnd holder => Sys2Proof.Machine.execLedgerQuarantineEnd holder s
  | .rgnStageAppend keyHi => Sys2Proof.Machine.execRgnStageAppend keyHi s
  | .rgnStageClear => Sys2Proof.Machine.execRgnStageClear s
  | .regionFold => Sys2Proof.Machine.execRegionFold s
  | .pageFetchDone k page res => Sys2Proof.Machine.execPageFetchDone k page res s
  | .commitDone k page => Sys2Proof.Machine.execCommitDone k page s
  | .skimVisit k kind page res hard => Sys2Proof.Machine.execSkimVisit k kind page res hard s
  | .gapMove k bg => Sys2Proof.Machine.execGapMove k bg s
  | .channelSpared k ch signal laneHealthy => Sys2Proof.Machine.execChannelSpared k ch signal laneHealthy s
  | .pwrfailFlush k => Sys2Proof.Machine.execPwrfailFlush k s
  | .pwrfailFlushDone k => Sys2Proof.Machine.execPwrfailFlushDone k s
  | .pwrfailRelease k => Sys2Proof.Machine.execPwrfailRelease k s
  | .scPowerUp k scanSt => Sys2Proof.Machine.execScPowerUp k scanSt s
  | .verifyDone k seconds => Sys2Proof.Machine.execVerifyDone k seconds s
  | .scReset k cause => Sys2Proof.Machine.execScReset k cause s
  | .scDiscardReset k => Sys2Proof.Machine.execScDiscardReset k s
  | .scResetDone k lost => Sys2Proof.Machine.execScResetDone k lost s
  | .cxlLinkUp n width cache => Sys2Proof.Machine.execCxlLinkUp n width cache s
  | .cxlLinkDown n notReached => Sys2Proof.Machine.execCxlLinkDown n notReached s
  | .cxlPerst n asserted => Sys2Proof.Machine.execCxlPerst n asserted s
  | .ringsDisabledNoLink => Sys2Proof.Machine.execRingsDisabledNoLink s
  | .apertureRead n offset len => Sys2Proof.Machine.execApertureRead n offset len s
  | .apertureWrite n offset bytes => Sys2Proof.Machine.execApertureWrite n offset bytes s
  | .aperBaseWrite n value => Sys2Proof.Machine.execAperBaseWrite n value s
  | .hostWindowRequest r res => Sys2Proof.Machine.execHostWindowRequest r res s
  | .windowFlushRead w => Sys2Proof.Machine.execWindowFlushRead w s
  | .doorbellSnoop kind n count => Sys2Proof.Machine.execDoorbellSnoop kind n count s
  | .doorbellPoll kind n count => Sys2Proof.Machine.execDoorbellPoll kind n count s
  | .sqDbFallbackWrite n count => Sys2Proof.Machine.execSqDbFallbackWrite n count s
  | .descriptorFetched n desc => Sys2Proof.Machine.execDescriptorFetched n desc s
  | .nopDesc n => Sys2Proof.Machine.execNopDesc n s
  | .launch n => Sys2Proof.Machine.execLaunch n s
  | .copy n host => Sys2Proof.Machine.execCopy n host s
  | .fill n => Sys2Proof.Machine.execFill n s
  | .copyQuantumBegin n num host => Sys2Proof.Machine.execCopyQuantumBegin n num host s
  | .copyQuantumClose n num => Sys2Proof.Machine.execCopyQuantumClose n num s
  | .remote n => Sys2Proof.Machine.execRemote n s
  | .plaitDesc n => Sys2Proof.Machine.execPlaitDesc n s
  | .signalAdd n => Sys2Proof.Machine.execSignalAdd n s
  | .signalSet n => Sys2Proof.Machine.execSignalSet n s
  | .rimFlagSetDesc n => Sys2Proof.Machine.execRimFlagSetDesc n s
  | .waitCounterDesc n => Sys2Proof.Machine.execWaitCounterDesc n s
  | .waitRimBarrierDesc n => Sys2Proof.Machine.execWaitRimBarrierDesc n s
  | .waitRimFlagDesc n => Sys2Proof.Machine.execWaitRimFlagDesc n s
  | .waitDescTimeout n num => Sys2Proof.Machine.execWaitDescTimeout n num s
  | .snapshot n => Sys2Proof.Machine.execSnapshot n s
  | .snapshotLatch bank => Sys2Proof.Machine.execSnapshotLatch bank s
  | .snapshotGatherDone bank => Sys2Proof.Machine.execSnapshotGatherDone bank s
  | .attest n => Sys2Proof.Machine.execAttest n s
  | .attestCapture n num => Sys2Proof.Machine.execAttestCapture n num s
  | .fence n => Sys2Proof.Machine.execFence n s
  | .completionRecordWrite m hostOk => Sys2Proof.Machine.execCompletionRecordWrite m hostOk s
  | .cqIrqDelay m => Sys2Proof.Machine.execCqIrqDelay m s
  | .eventRecordWrite hub => Sys2Proof.Machine.execEventRecordWrite hub s
  | .ringEnable n => Sys2Proof.Machine.execRingEnable n s
  | .ringDisable n => Sys2Proof.Machine.execRingDisable n s
  | .ringStopped n => Sys2Proof.Machine.execRingStopped n s
  | .withyFibreEnable n f enable => Sys2Proof.Machine.execWithyFibreEnable n f enable s
  | .withyRetrain n f => Sys2Proof.Machine.execWithyRetrain n f s
  | .withyUp n f peerNode peerDie peerFibre peerCap healthy txHealthy rtt => Sys2Proof.Machine.execWithyUp n f peerNode peerDie peerFibre peerCap healthy txHealthy rtt s
  | .withyCodewordReceive n f failed corrected control data margin => Sys2Proof.Machine.execWithyCodewordReceive n f failed corrected control data margin s
  | .withyLinkControl n f ack nak credits suspect => Sys2Proof.Machine.execWithyLinkControl n f ack nak credits suspect s
  | .withyReplayTimeout n f => Sys2Proof.Machine.execWithyReplayTimeout n f s
  | .withyColourSuspect n f colour pilot => Sys2Proof.Machine.execWithyColourSuspect n f colour pilot s
  | .withyColourSpared n f position lost => Sys2Proof.Machine.execWithyColourSpared n f position lost s
  | .withyAlignmentLost n f => Sys2Proof.Machine.execWithyAlignmentLost n f s
  | .withyDown n f cause => Sys2Proof.Machine.execWithyDown n f cause s
  | .withyOutboundFlit n flit => Sys2Proof.Machine.execWithyOutboundFlit n flit s
  | .withyTransitFlit n flit => Sys2Proof.Machine.execWithyTransitFlit n flit s
  | .withyInboundRequest n r => Sys2Proof.Machine.execWithyInboundRequest n r s
  | .withyAssemblyTimeout n srcNode srcUnit inc seq => Sys2Proof.Machine.execWithyAssemblyTimeout n srcNode srcUnit inc seq s
  | .withyProxyReply n r => Sys2Proof.Machine.execWithyProxyReply n r s
  | .withyInboundReply n destPort r => Sys2Proof.Machine.execWithyInboundReply n destPort r s
  | .routeDrained discarded0 discarded1 => Sys2Proof.Machine.execRouteDrained discarded0 discarded1 s
  | .wtyRtIdxWrite value => Sys2Proof.Machine.execWtyRtIdxWrite value s
  | .wtyRtHiWrite value => Sys2Proof.Machine.execWtyRtHiWrite value s
  | .timeExchange sent parent hops => Sys2Proof.Machine.execTimeExchange sent parent hops s
  | .timeParentLost => Sys2Proof.Machine.execTimeParentLost s
  | .nodeAlignLost => Sys2Proof.Machine.execNodeAlignLost s
  | .plaitJoin g node => Sys2Proof.Machine.execPlaitJoin g node s
  | .plaitHomeStatus g status applied => Sys2Proof.Machine.execPlaitHomeStatus g status applied s
  | .rimNodeArrival ch node => Sys2Proof.Machine.execRimNodeArrival ch node s
  | .rimRootRelease ch => Sys2Proof.Machine.execRimRootRelease ch s
  | .dieIsolated die cause => Sys2Proof.Machine.execDieIsolated die cause s
  | .isolationFenceTimeout die => Sys2Proof.Machine.execIsolationFenceTimeout die s
  | .dieRejoin die failedSites => Sys2Proof.Machine.execDieRejoin die failedSites s
  | .dieRejoined die => Sys2Proof.Machine.execDieRejoined die s
  | .hlthDieReset die => Sys2Proof.Machine.execHlthDieReset die s
  | .dieThermalShutdown die => Sys2Proof.Machine.execDieThermalShutdown die s
  | .shadowCopyAcked bytes => Sys2Proof.Machine.execShadowCopyAcked bytes s
  | .heartbeat optical electrical => Sys2Proof.Machine.execHeartbeat optical electrical s
  | .heartbeatsMissed e => Sys2Proof.Machine.execHeartbeatsMissed e s
  | .controlResign => Sys2Proof.Machine.execControlResign s
  | .controlTakeover gap => Sys2Proof.Machine.execControlTakeover gap s
  | .standbyJoin => Sys2Proof.Machine.execStandbyJoin s
  | .standbyReady => Sys2Proof.Machine.execStandbyReady s
  | .preferredWrite value => Sys2Proof.Machine.execPreferredWrite value s
  | .controlHandback gap => Sys2Proof.Machine.execControlHandback gap s
  | .feedLost b => Sys2Proof.Machine.execFeedLost b s
  | .feedRestored b => Sys2Proof.Machine.execFeedRestored b s
  | .regulatorFailed b j => Sys2Proof.Machine.execRegulatorFailed b j s
  | .hawkCheckGo => Sys2Proof.Machine.execHawkCheckGo s
  | .hawkCheckDone => Sys2Proof.Machine.execHawkCheckDone s
  | .hawkCancel => Sys2Proof.Machine.execHawkCancel s
  | .hawkDiscard => Sys2Proof.Machine.execHawkDiscard s
  | .profileWrite value => Sys2Proof.Machine.execProfileWrite value s
  | .profilePlanesAdded => Sys2Proof.Machine.execProfilePlanesAdded s
  | .sealTest intact => Sys2Proof.Machine.execSealTest intact s
  | .advance target => Sys2Proof.Machine.execAdvance target s
  | .debugUnlock => Sys2Proof.Machine.execDebugUnlock s
  | .sealedClear => Sys2Proof.Machine.execSealedClear s
  | .presenceChange asserted => Sys2Proof.Machine.execPresenceChange asserted s
  | .presenceHoldComplete stop => Sys2Proof.Machine.execPresenceHoldComplete stop s
  | .secCmdExpired => Sys2Proof.Machine.execSecCmdExpired s
  | .transitionResumed powerUp => Sys2Proof.Machine.execTransitionResumed powerUp s
  | .rngFault n test => Sys2Proof.Machine.execRngFault n test s
  | .engineReply r => Sys2Proof.Machine.execEngineReply r s
  | .signalAcknowledged tile seq status saturated => Sys2Proof.Machine.execSignalAcknowledged tile seq status saturated s
  | .thermTrip die above => Sys2Proof.Machine.execThermTrip die above s
  | .powerDown => Sys2Proof.Machine.execPowerDown s
  | .standbyLost => Sys2Proof.Machine.execStandbyLost s
  | .handbackFetchStop => Sys2Proof.Machine.execHandbackFetchStop s

end Sys2Proof.Machine
end

