-- ==== Sys2Proof/Safety.lean ====
section
/-!
DEFINITION. The terms in which the claims speak: when a slot of a bundle acts, what a lane of a vector register holds, what
it means that memory is as it was, and when the package serves no request.
-/
namespace Sys2Proof.Machine

/-! ## Slots (R98-R101) -/

/-- The state in which a slot acts: the errors that the codes corrected in the scratchpad words it reads have been counted
(R159). -/
def State.issued (s : State) (h : SlotHdr) : State := (s.opened h).siteBump h.tile.unit 6 h.spadCorrected

/-- Whether a slot issues: the package runs, the tile runs a lap, and a new bundle is fetched whole and within the image. -/
def State.reaches (s : State) (h : SlotHdr) : Bool :=
  s.alive && s.slotOpen h &&
    !(h.fresh && (h.ecc == .bundle || ((s.opened h).tile h.tile.unit).issueEnd))

/-- Whether a slot that is legal has its effect: it issues, its guard holds, and no uncorrectable error stops it (R69, R99).
A scratchpad word that the mover finds bad (slot X) fails the request and not the slot (R159). -/
def State.acts (s : State) (h : SlotHdr) (pos : Nat) : Bool :=
  s.reaches h && (s.opened h).guard h &&
    !(h.ecc == .register || h.ecc == .accumulator || (h.ecc == .spad && pos != 3))

/-! ## Values -/

/-- Lane i of a vector register whose lanes are n bits wide (R109). -/
def vlane (n : Nat) (x : VReg) (i : Nat) : Nat := x.toNat / 2 ^ (n * i) % 2 ^ n

/-! ## What is as it was -/

/-- Every byte of local memory reads as before. -/
def SameMemory (s t : State) : Prop := ∀ a, t.rdByte a = s.rdByte a

/-- Every byte of local memory outside the n bytes from scratchpad offset a of a tile, taken modulo 1 MiB, reads as before. -/
def SameMemoryBut (s t : State) (u a n : Nat) : Prop :=
  ∀ x, (∀ i, i < n → x ≠ spadBase u + (a + i) % 2 ^ 20) → t.rdByte x = s.rdByte x

/-! ## Counters and events (R14, R96, R353) -/

/-- A 48-bit counter has counted n more, holding its largest value instead of passing it (R62, R96). -/
def Counted (s t : State) (a n : Nat) : Prop := t.cnt a = min (2 ^ 48 - 1) (s.cnt a + n)

/-- The events staged in a hub. -/
def State.stagedAt (s : State) (hub : Nat) : List EventRec := Tbl.look (fun _ => []) s.ev.staged hub

/-- An event of the given code and unit has been staged at the present stake time, after those staged before. -/
def Staged (s t : State) (code unit : Nat) : Prop :=
  ∃ e ∈ (t.stagedAt (s.hubOf unit)).drop (s.stagedAt (s.hubOf unit)).length, e.code = code ∧ e.unit = unit ∧ e.stime = s.clk.now

/-- Every hub has room for the few events of one command: none is dropped (R353). -/
def Roomy (s : State) : Prop := ∀ hub, (s.stagedAt hub).length + 8 ≤ 256

/-! ## Loss of power and of the master (R388, R410) -/

/-- The package serves no request: no feed is in range or the stake-time master has failed, and no power-up waits. -/
def Stilled (s : State) : Prop := s.alive = false ∧ ∀ a b, Instr.powerUp a b ∉ s.pending

end Sys2Proof.Machine
end

