-- ==== Sys2Proof/Certificates/Slice0/Obligations.lean ====
section
/-!
DEFINITION. The statements for the provers. Each says in Lean what its entry of OBLIGATIONS.json says in words.
-/
open Sys2Proof Sys2Proof.Machine

/-! ## Slots in general (R98-R101, R108) -/

/-- The commands of the S slot. -/
def sCommands (h : SlotHdr) (w : BitVec 22) : List Instr :=
  [.endOp h w, .add h w, .sub h w, .mul h w, .mulhu h w, .and h w, .or h w, .xor h w, .shl h w, .shr h w, .sar h w,
   .min h w, .max h w, .minu h w, .maxu h w, .addi h w, .andi h w, .ori h w, .xori h w, .shli h w, .shri h w, .sari h w,
   .movi h w, .sli h w, .cmp h w, .cmpi h w, .plog h w, .br h w, .loop h w, .ld h w, .st h w, .rdsr h w, .wrsr h w,
   .waitUntil h w, .wait h w, .signal h w, .waitd h w, .waitdr h w, .rimBar h w, .rimSet h w, .rimWaitf h w]
/-- The commands of the V slot. -/
def vCommands (h : SlotHdr) (w : BitVec 22) : List Instr :=
  [.vadd h w, .vsub h w, .vmul h w, .vfma h w, .vfms h w, .vfnma h w, .vmin h w, .vmax h w, .vabs h w, .vneg h w,
   .vand h w, .vor h w, .vxor h w, .vshl h w, .vshr h w, .vsar h w, .vcmp h w, .vblend h w, .vexp2 h w, .vlog2 h w,
   .vrsqrt h w, .vrcp h w, .vsin h w, .vcos h w, .vtanh h w, .vcvt h w, .vld h w, .vst h w, .vlds h w, .vsts h w,
   .vbcast h w, .vtos h w]
/-- The commands of the M slot. -/
def mCommands (h : SlotHdr) (w : BitVec 22) : List Instr := [.mma h w, .azero h w, .ald h w, .ast h w, .ard h w, .awr h w]
/-- The commands of the X slot. -/
def xCommands (h : SlotHdr) (w : BitVec 22) : List Instr :=
  [.load h w, .store h w, .fadd32 h w, .fadd64 h w, .faddf32 h w, .faddbf2 h w, .swap64 h w, .cas64 h w, .min64 h w,
   .max64 h w, .and64 h w, .or64 h w, .xor64 h w, .plait h w, .rowrd h w, .rowwr h w]
/-- Every command that issues one slot of a bundle, with its operand bits. -/
def slotCommands (h : SlotHdr) (w : BitVec 22) : List Instr := sCommands h w ++ vCommands h w ++ mCommands h w ++ xCommands h w

/-- R99: a slot executes when p[PRED] XOR NEG is 1, p0 reading 1 whatever is written to it; one whose guard is false has no effect,
whatever its encoding: beyond the begin of its bundle nothing changes, no mover or signal slot is taken and nothing waits. NOP
with zero operands does nothing, and NOP or END with a bit of [21:0] set is illegal. -/
def Obligations.GuardsDecideWhetherASlotActs : Prop :=
  ∀ (h : SlotHdr) (w : BitVec 22) (s : State), s.reaches h = true →
    let t := s.opened h
    let u := h.tile.unit
    (t.guard h = ((t.pre u).p h.pred.val ^^ h.neg)) ∧ (t.pre u).p 0 = true ∧ (∀ x : Bool, (t.tile u).setP 0 x = t.tile u) ∧
    (t.guard h = false → (∀ c ∈ slotCommands h w, exec c s = .next t) ∧ ∀ (p : SlotPos) (word : W32), exec (.nop h p word) s = .next t) ∧
    (∀ p : SlotPos, s.acts h (SlotPos.num p) = true → exec (.nop h p 0) s = .next (s.issued h)) ∧
    (t.guard h = true → (∀ (p : SlotPos) (word : W32), word.toNat % 2 ^ 22 ≠ 0 →
        exec (.nop h p word) s = .next (t.illegal u (SlotPos.num p) (t.tile u).bundle 0)) ∧
      (w ≠ 0 → exec (.endOp h w) s = .next (t.illegal u 0 (t.tile u).bundle 0)))

/-- R101: an illegal slot is not executed; it sets TSTAT.ILL, and the first of the lap records its slot and bundle. One form
of illegality for each operand format of the S slot and for the slots V, M and X. -/
def Obligations.IllegalSlotIsNotExecuted : Prop :=
  ∀ (h : SlotHdr) (w : BitVec 22) (s : State), s.reaches h = true → (s.opened h).guard h = true →
    let t := s.opened h
    let u := h.tile.unit
    let ill := fun pos => Host.Outcome.next (φ := Fault) (ρ := Refusal) (t.illegal u pos (t.tile u).bundle 0)
    (∀ (p : SlotPos) (word : W32), word.toNat % 2 ^ 28 ≠ 0 →
      exec (.nop h p word) s = ill (match p with | .s => 0 | .v => 1 | .m => 2 | .x => 3)) ∧
    (w ≠ 0 → exec (.endOp h w) s = ill 0) ∧
    (bits w 0 7 ≠ 0 → ∀ c ∈ [Instr.add h w, .sub h w, .mul h w, .mulhu h w, .and h w, .or h w, .xor h w, .shl h w,
      .shr h w, .sar h w, .min h w, .max h w, .minu h w, .maxu h w], exec c s = ill 0) ∧
    (bits w 16 1 ≠ 0 → exec (.sli h w) s = ill 0) ∧
    ((bits w 0 6 ≠ 0 ∨ bits w 16 3 = 7) → exec (.cmp h w) s = ill 0) ∧
    (bits w 16 3 = 7 → exec (.cmpi h w) s = ill 0) ∧
    (bits w 0 11 ≠ 0 → exec (.plog h w) s = ill 0) ∧
    (bits w 12 10 ≠ 0 → exec (.br h w) s = ill 0) ∧
    (bits w 17 5 ≠ 0 → exec (.loop h w) s = ill 0) ∧
    (bits w 8 4 ≠ 0 → ∀ c ∈ [Instr.rdsr h w, .wrsr h w], exec c s = ill 0) ∧
    ((bits w 16 6 ≠ 0 ∨ bits w 0 6 ≠ 0) → ∀ c ∈ [Instr.waitUntil h w, .wait h w], exec c s = ill 0) ∧
    (bits w 12 6 ≠ 0 → exec (.waitd h w) s = ill 0) ∧
    ((bits w 17 1 ≠ 0 ∨ bits w 0 12 ≠ 0) → exec (.waitdr h w) s = ill 0) ∧
    (bits w 0 6 ≠ 0 → ∀ c ∈ [Instr.rimBar h w, .rimWaitf h w], exec c s = ill 0) ∧
    ((bits w 4 3 = 7 ∨ bits w 1 3 ≠ 0 ∨ (bits w 0 1 = 1 ∧ bits w 4 3 < 4)) →
      ∀ c ∈ [Instr.vadd h w, .vsub h w, .vmul h w, .vfma h w, .vfms h w, .vfnma h w, .vmin h w, .vmax h w, .vblend h w],
        exec c s = ill 1) ∧
    (bits w 7 5 ≠ 0 → ∀ c ∈ [Instr.vabs h w, .vneg h w, .vbcast h w], exec c s = ill 1) ∧
    (bits w 4 3 < 4 → ∀ c ∈ [Instr.vshl h w, .vshr h w, .vsar h w], exec c s = ill 1) ∧
    (bits w 4 3 ≠ 0 → ∀ c ∈ [Instr.vexp2 h w, .vlog2 h w, .vrsqrt h w, .vrcp h w, .vsin h w, .vcos h w, .vtanh h w],
      exec c s = ill 1) ∧
    ((bits w 4 3 = 7 ∨ bits w 1 3 = 7) → exec (.vcmp h w) s = ill 1) ∧
    (5 < bits w 1 3 → exec (.vcvt h w) s = ill 1) ∧
    (2 < bits w 16 3 → exec (.azero h w) s = ill 2) ∧
    (bits w 0 8 ≠ 0 → ∀ c ∈ [Instr.mma h w, .ard h w, .awr h w], exec c s = ill 2) ∧
    ((t.tile u).freeMover ≠ 0 → bits w 0 1 ≠ 0 → ∀ c ∈ [Instr.load h w, .store h w, .plait h w, .cas64 h w],
      exec c s = ill 3) ∧
    ((t.tile u).freeMover ≠ 0 → bits w 12 3 ≠ 0 → ∀ c ∈ [Instr.rowrd h w, .rowwr h w], exec c s = ill 3) ∧
    (let k := t.illegal u 0 (t.tile u).bundle 0
     (k.tile u).tstat.getLsbD 0 = true ∧
     ((t.tile u).illSeen = false → (k.tile u).tstat.toNat / 2 ^ 16 % 2 ^ 12 = (t.tile u).bundle % 2 ^ 12) ∧
     ((t.tile u).illSeen = true → (k.tile u).tstat = (t.tile u).tstat ||| 1))

/-- R100: the slots of a bundle read the registers as they stood before the bundle issued; the bundle is the next one, and its cycle
and its stalled cycles are executed cycles of the lap. R108: fetch at an index at or beyond the bundle count ends issue, sets FETCH_END
and ILL, and executes nothing. -/
def Obligations.BundlesBeginAndEnd : Prop :=
  (∀ (h : SlotHdr) (s : State), s.reaches h = true → h.fresh = true →
      let t := s.opened h
      let u := h.tile.unit
      (∀ i, (t.pre u).s i = (s.tile u).s i) ∧ (∀ i, (t.pre u).p i = (s.tile u).p i) ∧
      (∀ i, (t.pre u).v i = (s.tile u).v i) ∧ (∀ i, (t.pre u).scale i = (s.tile u).scale i) ∧
      (t.tile u).bundle = (s.tile u).next ∧ (t.tile u).next = (s.tile u).next + 1 ∧
      (t.tile u).cycles = (s.tile u).cycles + 1 + h.stall ∧
      (∀ v, v ≠ u → t.tile v = s.tile v) ∧ t.mem = s.mem) ∧
  (∀ (h : SlotHdr) (w : BitVec 22) (s : State) (img : BankImg),
      s.alive = true → s.slotOpen h = true → h.fresh = true → h.ecc ≠ .bundle →
      s.curImg h.tile.unit = some img → img.bundles ≤ (s.tile h.tile.unit).next →
      (s.tile h.tile.unit).freeMover ≠ 0 → (s.tile h.tile.unit).freeSig ≠ 0 →
      let u := h.tile.unit
      ∀ c ∈ slotCommands h w, ∃ t, exec c s = .next t ∧
        (t.tile u).issueEnd = true ∧ (t.tile u).tstat.getLsbD 3 = true ∧ (t.tile u).tstat.getLsbD 0 = true ∧
        (t.tile u).sregs = (s.tile u).sregs ∧ (t.tile u).vregs = (s.tile u).vregs ∧ (t.tile u).next = (s.tile u).next ∧
        t.mem = s.mem)

/-! ## The S slot (R102, R103, R107, R108) -/

/-- R107, format SR: the fourteen operations on two scalar registers. R107, formats SI and SL: the seven operations on a register and a
sign-extended immediate, MOVI and SLI. -/
def Obligations.ScalarResults : Prop :=
  (∀ (h : SlotHdr) (w : BitVec 22) (s : State), s.acts h 0 = true → bits w 0 7 = 0 →
      let t := s.issued h
      let u := h.tile.unit
      let a := (t.pre u).s (bits w 12 5)
      let b := (t.pre u).s (bits w 7 5)
      let gives := fun (c : Instr) (x : W64) => exec c s = .next (t.setS u (bits w 17 5) x)
      gives (.add h w) (BitVec.ofNat 64 (a.toNat + b.toNat)) ∧
      gives (.sub h w) (BitVec.ofInt 64 ((a.toNat : Int) - b.toNat)) ∧
      gives (.mul h w) (BitVec.ofNat 64 (a.toNat * b.toNat)) ∧
      gives (.mulhu h w) (BitVec.ofNat 64 (a.toNat * b.toNat / 2 ^ 64)) ∧
      gives (.and h w) (a &&& b) ∧ gives (.or h w) (a ||| b) ∧ gives (.xor h w) (a ^^^ b) ∧
      gives (.shl h w) (BitVec.ofNat 64 (a.toNat * 2 ^ (b.toNat % 64))) ∧
      gives (.shr h w) (BitVec.ofNat 64 (a.toNat / 2 ^ (b.toNat % 64))) ∧
      gives (.sar h w) (BitVec.ofInt 64 (a.toInt / 2 ^ (b.toNat % 64))) ∧
      gives (.min h w) (BitVec.ofInt 64 (Min.min a.toInt b.toInt)) ∧
      gives (.max h w) (BitVec.ofInt 64 (Max.max a.toInt b.toInt)) ∧
      gives (.minu h w) (BitVec.ofNat 64 (Min.min a.toNat b.toNat)) ∧
      gives (.maxu h w) (BitVec.ofNat 64 (Max.max a.toNat b.toNat))) ∧
  (∀ (h : SlotHdr) (w : BitVec 22) (s : State), s.acts h 0 = true →
      let t := s.issued h
      let u := h.tile.unit
      let a := (t.pre u).s (bits w 12 5)
      let imm : Int := if bits w 11 1 = 1 then (bits w 0 12 : Int) - 4096 else bits w 0 12
      let b := BitVec.ofInt 64 imm
      let gives := fun (c : Instr) (x : W64) => exec c s = .next (t.setS u (bits w 17 5) x)
      gives (.addi h w) (BitVec.ofInt 64 (a.toInt + imm)) ∧
      gives (.andi h w) (a &&& b) ∧ gives (.ori h w) (a ||| b) ∧ gives (.xori h w) (a ^^^ b) ∧
      gives (.shli h w) (BitVec.ofNat 64 (a.toNat * 2 ^ bits w 0 6)) ∧
      gives (.shri h w) (BitVec.ofNat 64 (a.toNat / 2 ^ bits w 0 6)) ∧
      gives (.sari h w) (BitVec.ofInt 64 (a.toInt / 2 ^ bits w 0 6)) ∧
      gives (.movi h w) (BitVec.ofInt 64 (if bits w 16 1 = 1 then (bits w 0 17 : Int) - 131072 else bits w 0 17)) ∧
      (bits w 16 1 = 0 →
        gives (.sli h w) (BitVec.ofNat 64 (((t.pre u).s (bits w 17 5)).toNat * 65536 + bits w 0 16))))

/-- R99, R107: CMP, CMPI and PLOG write predicate pd, and a write of p0 has no effect: p0 reads 1. R83, R99, R108: NOP does nothing,
END ends issue, BR branches to an absolute bundle, LOOP decrements and branches unless the new value is 0; a branch taken to a bundle
of the image costs one more executed cycle, and one taken to an index at or beyond the bundle count none. -/
def Obligations.PredicatesAndControlFlow : Prop :=
  (∀ (h : SlotHdr) (w : BitVec 22) (s : State), s.acts h 0 = true →
      let t := s.issued h
      let u := h.tile.unit
      let a := (t.pre u).s (bits w 11 5)
      let pd := bits w 19 3
      let holds := fun (b : W64) (x : Bool) =>
        (bits w 16 3 = 0 → x = decide (a = b)) ∧ (bits w 16 3 = 1 → x = decide (a ≠ b)) ∧
        (bits w 16 3 = 2 → x = decide (a.toInt < b.toInt)) ∧ (bits w 16 3 = 3 → x = decide (b.toInt ≤ a.toInt)) ∧
        (bits w 16 3 = 4 → x = decide (a.toNat < b.toNat)) ∧ (bits w 16 3 = 5 → x = decide (b.toNat ≤ a.toNat)) ∧
        (bits w 16 3 = 6 → x = decide (a &&& b ≠ 0))
      let writes := fun (c : Instr) (x : Bool) => exec c s = .next (t.modTile u fun k => k.setP pd x)
      (bits w 0 6 = 0 → bits w 16 3 ≠ 7 → ∃ x, writes (.cmp h w) x ∧ holds ((t.pre u).s (bits w 6 5)) x) ∧
      (bits w 16 3 ≠ 7 → ∃ x, writes (.cmpi h w) x ∧
        holds (BitVec.ofInt 64 (if bits w 10 1 = 1 then (bits w 0 11 : Int) - 2048 else bits w 0 11)) x) ∧
      (bits w 0 11 = 0 → ∃ x, writes (.plog h w) x ∧
        (let p := (t.pre u).p (bits w 16 3)
         let q := (t.pre u).p (bits w 13 3)
         (bits w 11 2 = 0 → x = (p && q)) ∧ (bits w 11 2 = 1 → x = (p || q)) ∧ (bits w 11 2 = 2 → x = (p ^^ q)) ∧
         (bits w 11 2 = 3 → x = (p && !q)))) ∧
      (∀ (x : Bool) (i : Nat), ((t.modTile u fun k => k.setP pd x).tile u).p i =
        if i = 0 then true else if i = pd then x else (t.tile u).p i)) ∧
  (∀ (h : SlotHdr) (w : BitVec 22) (s : State),
      let t := s.issued h
      let u := h.tile.unit
      let extra := fun (target : Nat) => if (∃ img, t.curImg u = some img ∧ target < img.bundles) then 1 else 0
      (∀ (p : SlotPos) (word : W32), s.acts h (SlotPos.num p) = true → word.toNat % 2 ^ 28 = 0 →
        exec (.nop h p word) s = .next t) ∧
      (s.acts h 0 = true → w = 0 → ∃ k, exec (.endOp h w) s = .next k ∧ (k.tile u).issueEnd = true ∧
        (k.tile u).sregs = (t.tile u).sregs ∧ (k.tile u).next = (t.tile u).next ∧ k.mem = t.mem) ∧
      (s.acts h 0 = true → bits w 12 10 = 0 → ∃ k, exec (.br h w) s = .next k ∧ (k.tile u).next = bits w 0 12 ∧
        (k.tile u).cycles = (t.tile u).cycles + extra (bits w 0 12) ∧ (k.tile u).sregs = (t.tile u).sregs ∧ k.mem = t.mem) ∧
      (s.acts h 0 = true → bits w 17 5 = 0 → ∃ k, exec (.loop h w) s = .next k ∧
        (let x := (t.pre u).s (bits w 12 5) - 1
         (∀ i, (k.tile u).s i = if i = bits w 12 5 then x else (t.tile u).s i) ∧
         (k.tile u).next = (if x = 0 then (t.tile u).next else bits w 0 12) ∧
         (k.tile u).cycles = (t.tile u).cycles + (if x = 0 then 0 else extra (bits w 0 12)) ∧ k.mem = t.mem)))

/-- R102: RDSR reads each special register that is listed, and one that is not reads 0; WRSR replaces the whole register,
reserved bits reading 0; a write of 0 to SEED stores the constant of R138; a write of an identifier that is not listed sets
TSTAT.ILL and has no other effect; one of a read-only register has none (R15). -/
def Obligations.SpecialRegisterResults : Prop :=
  ∀ (h : SlotHdr) (w : BitVec 22) (s : State), s.acts h 0 = true → bits w 8 4 = 0 →
    let t := s.issued h
    let u := h.tile.unit
    let k := t.tile u
    let id := bits w 0 8
    let a := (t.pre u).s (bits w 12 5)
    (∃ x, exec (.rdsr h w) s = .next (t.setS u (bits w 17 5) x) ∧
      (id = 0 → x = BitVec.ofNat 64 t.clk.now) ∧ (id = 1 → x = BitVec.ofNat 64 t.clk.frame) ∧
      (id = 2 → x = BitVec.ofNat 64 (t.getF Reg.wtyNode * 2 ^ 16 + u)) ∧ (id = 3 → x = BitVec.ofNat 64 k.cycles) ∧
      (∀ img, t.curImg u = some img → id = 4 → x = BitVec.ofNat 64 img.bound) ∧
      (id = 8 → x = k.rnd) ∧ (id = 9 → x = k.aflags) ∧ (id = 10 → x = k.tstat) ∧ (id = 11 → x = k.seed) ∧
      (∀ d, d < 16 → id = 16 + d → x = ((t.pre u).d d).setWidth 64) ∧
      (id = 32 → x = BitVec.ofNat 64 (512 - (k.mover.length + k.rows.length) + (64 - k.sigs.length) * 2 ^ 16)) ∧
      (specialListed id = false → x = 0)) ∧
    (∃ k', exec (.wrsr h w) s = .next (t.modTile u fun _ => k') ∧
      k'.rnd = (if id = 8 then a &&& 0x1F else k.rnd) ∧
      k'.aflags = (if id = 9 then a &&& 0x3F else k.aflags) ∧
      k'.tstat = (if id = 10 then a &&& 0x0FFF003F else if specialListed id then k.tstat else k.tstat ||| 1) ∧
      k'.seed = (if id = 11 then (if a = 0 then 0x5EED0001 else a) else k.seed) ∧
      k'.sregs = k.sregs ∧ k'.preds = k.preds ∧ k'.vregs = k.vregs ∧ k'.accs = k.accs ∧ k'.done = k.done)

/-! ## Waits, signals and rim instructions (R90-R92, R119-R122) -/

/-- R122, R219, R220: RIM_BAR arrives at its hub with the hub's generation and waits; RIM_SET takes a signal slot and its set
awaits every participating port; RIM_WAITF waits only while its hub's copy of the flag is below its value. -/
def Obligations.RimInstructionsReachTheirHub : Prop :=
  ∀ (h : SlotHdr) (w : BitVec 22) (s : State), s.acts h 0 = true → bits w 0 6 = 0 →
    let t := s.issued h
    let u := h.tile.unit
    let c := bits w 16 6
    let v := ((t.pre u).s (bits w 11 5)).setWidth 32
    let q := (t.tile u).seqNext
    let p := t.hubOf u
    (t.rimGranted u = true → ∃ k, exec (.rimBar h w) s = .next k ∧ (k.tile u).wait = some (.rimBar c q) ∧
      ((k.hub p).chan c).inbox = ((t.hub p).chan c).inbox ++ [(u, q, t.on (Reg.rimGen p c))]) ∧
    (t.rimRefusal u c = 0 → (s.tile u).freeSig ≠ 0 → ∃ k, exec (.rimSet h w) s = .next k ∧
      (k.tile u).sigs.length = (t.tile u).sigs.length + 1 ∧
      (k.hub p).sets = (t.hub p).sets ++ [⟨u, q, c, v, portsOf (t.getF (Reg.rimMask p c))⟩]) ∧
    (t.rimRefusal u c = 0 → v.toNat ≤ t.getF (Reg.rimFlag p c) → exec (.rimWaitf h w) s = .next t) ∧
    (t.rimRefusal u c = 0 → t.getF (Reg.rimFlag p c) < v.toNat → ∃ k, exec (.rimWaitf h w) s = .next k ∧
      (k.tile u).wait = some (.rimFlag c v q) ∧
      ((k.hub p).chan c).flagWait = ((t.hub p).chan c).flagWait ++ [(u, q, v.toNat)])

/-- R90, R119, R120: WAIT_UNTIL, WAITD and WAITDR let issue go on where their condition holds, and else begin a wait; WAIT_RESUME ends
a wait whose condition holds, or whose reply has come with status OK, its cycles counting as executed cycles of the lap, and leaves
one whose condition does not hold. R91, R92, R121: WAIT and SIGNAL on a counter word that is well formed, of this node for WAIT, send
their request with the next REQ_SEQ; WAIT begins a wait for its reply, SIGNAL takes a signal slot; another word is refused RANGE_FAULT,
counted and recorded in TILE_FAULT. A SIGNAL that finds no free slot has no effect yet. R92, R95: the acknowledgement of a signal frees
its slot; a status other than OK is counted and recorded in TILE_FAULT, and a saturated counter shows in TSTAT. -/
def Obligations.WaitsAndSignalsOfATile : Prop :=
  ((∀ (h : SlotHdr) (w : BitVec 22) (s : State), s.acts h 0 = true →
      let t := s.issued h
      let u := h.tile.unit
      let goesOn := fun (c : Instr) => exec c s = .next t
      let waits := fun (c : Instr) (x : TWait) => exec c s = .next (t.modTile u fun k => k.hold x t.clk.now)
      (bits w 16 6 = 0 → bits w 0 6 = 0 →
        let a := (t.pre u).s (bits w 11 5)
        (a.toNat ≤ t.clk.now → goesOn (.waitUntil h w)) ∧ (t.clk.now < a.toNat → waits (.waitUntil h w) (.untilTime a))) ∧
      (bits w 12 6 = 0 →
        let d := bits w 18 4
        let n := bits w 0 12
        (n ≤ ((t.tile u).d d).toNat → goesOn (.waitd h w)) ∧ (((t.tile u).d d).toNat < n → waits (.waitd h w) (.done d n))) ∧
      (bits w 17 1 = 0 → bits w 0 12 = 0 →
        let d := bits w 18 4
        let n := ((t.pre u).s (bits w 12 5)).toNat % 2 ^ 32
        (n ≤ ((t.tile u).d d).toNat → goesOn (.waitdr h w)) ∧ (((t.tile u).d d).toNat < n → waits (.waitdr h w) (.done d n)))) ∧
    (∀ (tile : TileId) (cycles : Nat) (s : State), s.alive = true →
      let u := tile.unit
      let ends := ∃ k, exec (.waitResume tile cycles) s = .next k ∧ (k.tile u).wait = none ∧
        (k.tile u).cycles = (s.tile u).cycles + cycles ∧ (k.tile u).sregs = (s.tile u).sregs ∧ k.mem = s.mem
      (∀ a, (s.tile u).wait = some (.untilTime a) →
        (a.toNat ≤ s.clk.now → ends) ∧ (s.clk.now < a.toNat → exec (.waitResume tile cycles) s = .next s)) ∧
      (∀ d n, (s.tile u).wait = some (.done d n) →
        (n ≤ ((s.tile u).d d).toNat → ends) ∧ (((s.tile u).d d).toNat < n → exec (.waitResume tile cycles) s = .next s)) ∧
      (∀ seq r, s.replyFor u seq = some r → r.status = 0 →
        ((∃ c target, (s.tile u).wait = some (.counter c target seq)) ∨ (∃ c, (s.tile u).wait = some (.rimBar c seq)) ∨
          (∃ c v, (s.tile u).wait = some (.rimFlag c v seq))) → ends))) ∧
  (∀ (h : SlotHdr) (w : BitVec 22) (s : State), s.acts h 0 = true → bits w 16 6 = 0 → bits w 0 6 = 0 →
      let t := s.issued h
      let u := h.tile.unit
      let word := (t.pre u).s (bits w 11 5)
      let x := (t.pre u).s (bits w 6 5) &&& 0xFFFFFFFFFFFF#64
      let q := (t.tile u).seqNext
      let count := Reg.faultCount (u / 512) (u % 512)
      let sent := fun (k : State) (opc : Nat) => ∃ r : Req, k.net.reqs = t.net.reqs ++ [r] ∧ r.opc = BitVec.ofNat 16 opc ∧
        r.srcUnit = BitVec.ofNat 16 u ∧ r.seq = BitVec.ofNat 24 q ∧ r.ga = word ∧ r.operand = x
      let refused := fun (c : Instr) => ∃ k, exec c s = .next k ∧ k.net = t.net ∧ k.mem = t.mem ∧
        (k.tile u).wait = (t.tile u).wait ∧ (k.tile u).sigs = (t.tile u).sigs ∧ (k.tile u).sregs = (t.tile u).sregs ∧
        k.getF count = Min.min 65535 (t.getF count + 1) ∧
        (t.getF count = 0 → k.getF (Reg.faultStatus (u / 512) (u % 512)) = 0x12)
      (word.toNat < 2 ^ 32 → t.isHere (word.toNat / 2 ^ 16) = true → ∃ k, exec (.wait h w) s = .next k ∧ sent k 0x1A ∧
        (k.tile u).wait = some (.counter (word.toNat % 2 ^ 16) x.toNat q) ∧ (k.tile u).seqNext = (q + 1) % 2 ^ 24 ∧
        (k.tile u).sregs = (t.tile u).sregs ∧ k.mem = t.mem) ∧
      ((2 ^ 32 ≤ word.toNat ∨ t.isHere (word.toNat / 2 ^ 16 % 2 ^ 16) = false) → refused (.wait h w)) ∧
      ((s.tile u).freeSig ≠ 0 → word.toNat < 2 ^ 32 → ∃ k d, exec (.signal h w) s = .next k ∧ sent k 0x18 ∧
        (k.tile u).sigs = (t.tile u).sigs ++ [⟨q, false, word, x, 0, d⟩] ∧ (k.tile u).wait = (t.tile u).wait ∧
        (k.tile u).seqNext = (q + 1) % 2 ^ 24 ∧ (k.tile u).sregs = (t.tile u).sregs ∧ k.mem = t.mem) ∧
      ((s.tile u).freeSig ≠ 0 → 2 ^ 32 ≤ word.toNat → refused (.signal h w)) ∧
      ((s.tile u).freeSig = 0 → exec (.signal h w) s = .next s)) ∧
  (∀ (tile : TileId) (seq : BitVec 24) (status : Byte) (saturated : Bool) (s : State) (g : Sig), s.alive = true →
      let u := tile.unit
      let count := Reg.faultCount (u / 512) (u % 512)
      (s.tile u).sigs.find? (fun x => x.seq == seq.toNat) = some g →
      ∃ k, exec (.signalAcknowledged tile seq status saturated) s = .next k ∧
        (k.tile u).sigs = (s.tile u).sigs.filter (fun x => x.seq != seq.toNat) ∧
        (k.tile u).sregs = (s.tile u).sregs ∧ k.mem = s.mem ∧
        (k.tile u).tstat = (if saturated then (s.tile u).tstat ||| 2 else (s.tile u).tstat) ∧
        (status = 0 → k.regs = s.regs) ∧
        (status ≠ 0 → k.getF count = Min.min 65535 (s.getF count + 1) ∧
          (s.getF count = 0 → k.getF (Reg.faultStatus (u / 512) (u % 512)) = status.toNat)))

/-! ## The V slot (R109, R110, R126-R147) -/

/-- R145: integer vector operations are exact modulo 2^width; saturation sets SD, a wrap sets OF; shifts take the low
log2(width) bits of their count, VSAR fills with the sign bit, and shifts never set a flag. -/
def Obligations.IntegerVectorLanes : Prop :=
  ∀ (h : SlotHdr) (w : BitVec 22) (s : State), s.acts h 1 = true →
    4 ≤ bits w 4 3 → bits w 4 3 ≤ 6 → bits w 1 3 = 0 →
    let t := s.issued h
    let u := h.tile.unit
    let n := if bits w 4 3 = 4 then 32 else if bits w 4 3 = 5 then 16 else 8
    let vd := bits w 17 5
    let word := fun (r i : Nat) => BitVec.ofNat n (vlane n ((t.pre u).v r) i)
    let x := fun i => (word (bits w 12 5) i).toInt
    let y := fun i => (word (bits w 7 5) i).toInt
    let z := fun i => (word vd i).toInt
    let lo : Int := -(2 ^ (n - 1))
    let hi : Int := 2 ^ (n - 1) - 1
    let sat := decide (bits w 0 1 = 1) || (t.pre u).rnd.getLsbD 3
    let lanesAre := fun (k : State) (f : Nat → BitVec n) => ∀ i, i < 2048 / n →
      BitVec.ofNat n (vlane n ((k.tile u).v vd) i) = f i
    let rest := fun (k : State) => k.mem = t.mem ∧ (k.tile u).sregs = (t.tile u).sregs ∧
      (∀ j, j ≠ vd → (k.tile u).v j = (t.tile u).v j)
    let gives := fun (c : Instr) (f : Nat → Int) => ∃ k, exec c s = .next k ∧ rest k ∧
      lanesAre k (fun i => BitVec.ofInt n (if sat = true then Max.max lo (Min.min hi (f i)) else f i)) ∧
      ((∀ i, i < 2048 / n → lo ≤ f i ∧ f i ≤ hi) → (k.tile u).aflags = (t.tile u).aflags) ∧
      ((∃ i, i < 2048 / n ∧ (f i < lo ∨ hi < f i)) →
        (k.tile u).aflags = (t.tile u).aflags ||| (if sat = true then 0x20 else 4))
    let quiet := fun (c : Instr) (f : Nat → BitVec n) => ∃ k, exec c s = .next k ∧ rest k ∧ lanesAre k f ∧
      (k.tile u).aflags = (t.tile u).aflags
    gives (.vadd h w) (fun i => x i + y i) ∧ gives (.vsub h w) (fun i => x i - y i) ∧
    gives (.vmul h w) (fun i => x i * y i) ∧ gives (.vfma h w) (fun i => x i * y i + z i) ∧
    gives (.vfms h w) (fun i => x i * y i - z i) ∧ gives (.vfnma h w) (fun i => z i - x i * y i) ∧
    (bits w 7 5 = 0 → gives (.vabs h w) (fun i => |x i|)) ∧ (bits w 7 5 = 0 → gives (.vneg h w) (fun i => - x i)) ∧
    quiet (.vshl h w) (fun i => word (bits w 12 5) i <<< ((word (bits w 7 5) i).toNat % n)) ∧
    quiet (.vshr h w) (fun i => word (bits w 12 5) i >>> ((word (bits w 7 5) i).toNat % n)) ∧
    quiet (.vsar h w) (fun i => (word (bits w 12 5) i).sshiftRight ((word (bits w 7 5) i).toNat % n)) ∧
    quiet (.vmin h w) (fun i => BitVec.ofInt n (Min.min (x i) (y i))) ∧
    quiet (.vmax h w) (fun i => BitVec.ofInt n (Max.max (x i) (y i)))

/-- R144: a floating-point vector operation computes each lane's exact result and rounds it once to the lane type, its flags
being those of the lanes together; VABS and VNEG change the sign bit only and set none (R127). The exact operations and the
rounding are the model's FVal.add, FVal.mul, FVal.fma and Fmt.round. -/
def Obligations.FloatingVectorLanes : Prop :=
  ∀ (h : SlotHdr) (w : BitVec 22) (s : State), s.acts h 1 = true →
    bits w 4 3 < 4 → bits w 1 3 = 0 → bits w 0 1 = 0 →
    let t := s.issued h
    let u := h.tile.unit
    let n := vWidth (bits w 4 3)
    let f := vFmt (bits w 4 3)
    let vd := bits w 17 5
    let rnd := (t.pre u).rnd
    let mode := if rnd.toNat % 8 < 4 then rnd.toNat % 8 else 0
    let c : RndCtl := ⟨mode, rnd.getLsbD 3, rnd.getLsbD 4, 0⟩
    let raw := fun (r i : Nat) => vlane n ((t.pre u).v r) i
    let x := fun i => f.read c.ftz (raw (bits w 12 5) i)
    let y := fun i => f.read c.ftz (raw (bits w 7 5) i)
    let z := fun i => f.read c.ftz (raw vd i)
    let gives := fun (d : Instr) (e : Nat → Nat × Nat) => ∃ k, exec d s = .next k ∧ k.mem = t.mem ∧
      (∀ i, i < 2048 / n → vlane n ((k.tile u).v vd) i = (e i).1 % 2 ^ n) ∧
      (k.tile u).aflags = (t.tile u).aflags ||| BitVec.ofNat 64 ((List.range (2048 / n)).foldl (fun a i => a ||| (e i).2) 0) ∧
      (k.tile u).sregs = (t.tile u).sregs ∧ (∀ j, j ≠ vd → (k.tile u).v j = (t.tile u).v j)
    let rounded := fun (e : FVal × Nat) => ((f.round c e.1).1, e.2 ||| (f.round c e.1).2)
    gives (.vadd h w) (fun i => rounded (FVal.add mode (x i) (y i))) ∧
    gives (.vsub h w) (fun i => rounded (FVal.add mode (x i) (y i).negate)) ∧
    gives (.vmul h w) (fun i => rounded (FVal.mul (x i) (y i))) ∧
    gives (.vfma h w) (fun i => rounded (FVal.fma mode false false (x i) (y i) (z i))) ∧
    gives (.vfms h w) (fun i => rounded (FVal.fma mode false true (x i) (y i) (z i))) ∧
    gives (.vfnma h w) (fun i => rounded (FVal.fma mode true false (x i) (y i) (z i))) ∧
    gives (.vmin h w) (fun i => fminmax f c false (x i) (y i)) ∧
    gives (.vmax h w) (fun i => fminmax f c true (x i) (y i)) ∧
    (bits w 7 5 = 0 → gives (.vabs h w) (fun i => (raw (bits w 12 5) i % 2 ^ (n - 1), 0))) ∧
    (bits w 7 5 = 0 → gives (.vneg h w) (fun i => (raw (bits w 12 5) i ^^^ 2 ^ (n - 1), 0)))

/-- R110, R144: VCMP sets each lane of vd to all ones where its condition holds, for integer and floating lanes; VBLEND takes
va where vd's lane has its top bit set, else vb; VAND, VOR and VXOR act on whole registers; VBCAST fills vd with sa truncated
to the lane; VTOS takes one lane, floating lanes zero-extended and integer lanes sign-extended. -/
def Obligations.VectorMovesAndCompares : Prop :=
  ∀ (h : SlotHdr) (w : BitVec 22) (s : State), s.acts h 1 = true →
    let t := s.issued h
    let u := h.tile.unit
    let ty := bits w 4 3
    let n := vWidth ty
    let vd := bits w 17 5
    let va := (t.pre u).v (bits w 12 5)
    let vb := (t.pre u).v (bits w 7 5)
    let old := (t.pre u).v vd
    let writes := fun (c : Instr) (x : VReg) => exec c s = .next (t.modTile u fun k => k.setV vd x)
    let bitwise := bits w 1 3 = 0 ∧ (bits w 0 1 = 0 ∨ 4 ≤ ty)
    (bitwise → writes (.vand h w) (va &&& vb) ∧ writes (.vor h w) (va ||| vb) ∧ writes (.vxor h w) (va ^^^ vb)) ∧
    (bitwise → ty ≠ 7 → ∃ x, writes (.vblend h w) x ∧ ∀ i, i < 2048 / n →
      vlane n x i = if (vlane n old i).testBit (n - 1) then vlane n va i else vlane n vb i) ∧
    (ty ≠ 7 → bits w 1 3 ≠ 7 → (bits w 0 1 = 0 ∨ 4 ≤ ty) → ∃ k, exec (.vcmp h w) s = .next k ∧ k.mem = t.mem ∧
      ∀ i, i < 2048 / n →
        let a := vlane n va i
        let b := vlane n vb i
        let f := vFmt ty
        let ftz := (t.pre u).rnd.getLsbD 4
        let holds := if 4 ≤ ty then icmp (bits w 1 3) (BitVec.ofNat n a).toInt (BitVec.ofNat n b).toInt
          else (fcmp (bits w 1 3) (f.read ftz a) (f.read ftz b)).1
        vlane n ((k.tile u).v vd) i = if holds = true then 2 ^ n - 1 else 0) ∧
    (bits w 7 5 = 0 → bits w 0 4 = 0 → ty ≠ 7 → ∃ x, writes (.vbcast h w) x ∧ ∀ i, i < 2048 / n →
      vlane n x i = ((t.pre u).s (bits w 12 5)).toNat % 2 ^ n) ∧
    (let et := bits w 1 3
     let m := vWidth et
     bits w 0 1 = 0 → et ≠ 7 → bits w 4 8 < 2048 / m →
      let l := vlane m va (bits w 4 8)
      exec (.vtos h w) s = .next (t.setS u vd (if 4 ≤ et then (BitVec.ofNat m l).signExtend 64 else BitVec.ofNat 64 l)))

/-- R146, R147: the transcendentals on binary32 lanes; every lane is that of the model's transLane, a function of the instruction,
RND.SAT and the input alone, and holds R147's value for NaN, zero and infinity. R130, R131, R133: VCVT reads the source elements, converts each by the model's `convert` under RM and SAT or RND,
writes the registers from vd and leaves every other vector register, scalar register and byte of memory as it was. A pair of formats
that R131 does not list is illegal. -/
def Obligations.TranscendentalsAndConversions : Prop :=
  (∀ (h : SlotHdr) (w : BitVec 22) (s : State), s.acts h 1 = true →
      bits w 4 3 = 0 → bits w 1 3 = 0 → bits w 0 1 = 0 →
      let t := s.issued h
      let u := h.tile.unit
      let vd := bits w 17 5
      let x := fun i => vlane 32 ((t.pre u).v (bits w 12 5)) i
      let inf := 0x7F800000
      let nan := 0x7FC00000
      let gives := fun (op : Nat) (c : Instr) (special : Nat → Nat → Prop) => ∃ k, exec c s = .next k ∧ k.mem = t.mem ∧
        (∀ j, j ≠ vd → (k.tile u).v j = (t.tile u).v j) ∧
        ∀ i, i < 64 →
          vlane 32 ((k.tile u).v vd) i = (transLane op ((t.pre u).rnd.getLsbD 3) (x i)).1 % 2 ^ 32 ∧
          ((inf < x i % 2 ^ 31) → vlane 32 ((k.tile u).v vd) i = nan) ∧
          special (x i) (vlane 32 ((k.tile u).v vd) i)
      gives 0 (.vexp2 h w) (fun a r => (a = 0 ∨ a = 2 ^ 31 → r = 0x3F800000) ∧ (a = inf → r = inf) ∧
        (a = 2 ^ 31 + inf → r = 0)) ∧
      gives 1 (.vlog2 h w) (fun a r => (a = 0 ∨ a = 2 ^ 31 → r = 2 ^ 31 + inf) ∧ (a = inf → r = inf) ∧
        (a = 2 ^ 31 + inf → r = nan)) ∧
      gives 2 (.vrsqrt h w) (fun a r => (a = 0 → r = inf) ∧ (a = 2 ^ 31 → r = 2 ^ 31 + inf) ∧ (a = inf → r = 0) ∧
        (a = 2 ^ 31 + inf → r = nan)) ∧
      gives 3 (.vrcp h w) (fun a r => (a = 0 → r = inf) ∧ (a = 2 ^ 31 → r = 2 ^ 31 + inf) ∧ (a = inf → r = 0) ∧
        (a = 2 ^ 31 + inf → r = 2 ^ 31)) ∧
      gives 4 (.vsin h w) (fun a r => (a = 0 ∨ a = 2 ^ 31 → r = a) ∧ (a = inf ∨ a = 2 ^ 31 + inf → r = nan)) ∧
      gives 5 (.vcos h w) (fun a r => (a = 0 ∨ a = 2 ^ 31 → r = 0x3F800000) ∧ (a = inf ∨ a = 2 ^ 31 + inf → r = nan)) ∧
      gives 6 (.vtanh h w) (fun a r => (a = 0 ∨ a = 2 ^ 31 → r = a) ∧ (a = inf → r = 0x3F800000) ∧
        (a = 2 ^ 31 + inf → r = 0xBF800000))) ∧
  (∀ (h : SlotHdr) (w : BitVec 22) (s : State), s.acts h 1 = true →
      let t := s.issued h
      let u := h.tile.unit
      let dst := bits w 8 4
      let src := bits w 4 4
      let vd := bits w 17 5
      (vcvtLegal w = true → ∃ k, exec (.vcvt h w) s = .next k ∧ k.mem = t.mem ∧
        (k.tile u).sregs = (t.tile u).sregs ∧ (k.tile u).accs = (t.tile u).accs ∧
        (∀ j, (j < vd ∨ vd + cvtRegs dst src ≤ j) → (k.tile u).v j = (t.tile u).v j) ∧
        (let rnd := (t.pre u).rnd
         let vals := cvtSource (t.tile u) src (bits w 12 5) (cvtRegs src dst) (rnd.getLsbD 4)
         let r := convert src dst (effMode (bits w 1 3) rnd) (decide (bits w 0 1 = 1) || rnd.getLsbD 3) (rnd.getLsbD 4) vals
           (t.tile u).seed
         (k.tile u).seed = r.2.seed ∧
         (isMx src = false → (k.tile u).aflags = (t.tile u).aflags ||| BitVec.ofNat 64 r.2.flags) ∧
         (∀ j, (k.tile u).scale j = if j = vd ∧ isMx dst = true then scalePack r.1 else (t.tile u).scale j) ∧
         ∀ i, i < r.2.bits.length → vlane (fmtBits dst) ((k.tile u).v (vd + i / perReg dst)) (i % perReg dst) =
           r.2.bits.getD i 0 % 2 ^ fmtBits dst)) ∧
      (vcvtAllowed src dst = false →
        exec (.vcvt h w) s = .next ((s.opened h).illegal u 1 ((s.opened h).tile u).bundle 0)))

/-- R103, R105, R107: LD reads, and ST writes, the eight bytes at sa + imm12 × 8 modulo 2^20, bits [2:0] ignored; an access outside the
declared layout sets TSTAT.SPX and is performed; ST leaves every other byte of memory as it was. R103, R110: VLD and VLDS read, and VST
and VSTS write, 256 and 16 bytes of the tile's own scratchpad at sa + imm12 × 64 and sa + imm12 × 16 modulo 2^20; a store leaves every
other byte as it was. -/
def Obligations.ScratchpadAccess : Prop :=
  (∀ (h : SlotHdr) (w : BitVec 22) (s : State), s.acts h 0 = true →
      let t := s.issued h
      let u := h.tile.unit
      let imm : Int := if bits w 11 1 = 1 then (bits w 0 12 : Int) - 4096 else bits w 0 12
      let a := (((((t.pre u).s (bits w 12 5)).toNat : Int) + imm * 8) % 2 ^ 20).toNat / 8 * 8
      (∃ k, exec (.ld h w) s = .next k ∧ k.mem = t.mem ∧
        (∀ i, (k.tile u).s i =
          if i = bits w 17 5 then BitVec.ofNat 64 (t.spadRead u a 8) else (t.tile u).s i) ∧
        ((k.tile u).tstat = if segAllows (t.curImg u) Segment.r a 8 then (t.tile u).tstat else (t.tile u).tstat ||| 4)) ∧
      (∃ k, exec (.st h w) s = .next k ∧ (k.tile u).sregs = (t.tile u).sregs ∧
        (∀ i, i < 8 → k.rdByte (spadBase u + (a + i) % 2 ^ 20) =
          BitVec.ofNat 8 (((t.pre u).s (bits w 17 5)).toNat / 2 ^ (8 * i))) ∧
        SameMemoryBut t k u a 8 ∧
        ((k.tile u).tstat = if segAllows (t.curImg u) Segment.w a 8 then (t.tile u).tstat else (t.tile u).tstat ||| 4))) ∧
  (∀ (h : SlotHdr) (w : BitVec 22) (s : State), s.acts h 1 = true →
      let t := s.issued h
      let u := h.tile.unit
      let imm : Int := if bits w 11 1 = 1 then (bits w 0 12 : Int) - 4096 else bits w 0 12
      let sa : Int := ((t.pre u).s (bits w 12 5)).toNat
      let a := ((sa + imm * 64) % 2 ^ 20).toNat / 64 * 64
      let b := ((sa + imm * 16) % 2 ^ 20).toNat / 16 * 16
      let r := bits w 17 5
      (∃ k, exec (.vld h w) s = .next k ∧ k.mem = t.mem ∧
        ∀ i, (k.tile u).v i = if i = r then BitVec.ofNat 2048 (t.spadRead u a 256) else (t.tile u).v i) ∧
      (∃ k, exec (.vlds h w) s = .next k ∧ k.mem = t.mem ∧
        ∀ i, (k.tile u).scale i = if i = r then BitVec.ofNat 128 (t.spadRead u b 16) else (t.tile u).scale i) ∧
      (∃ k, exec (.vst h w) s = .next k ∧ (k.tile u).vregs = (t.tile u).vregs ∧ SameMemoryBut t k u a 256 ∧
        ∀ i, i < 256 → k.rdByte (spadBase u + (a + i) % 2 ^ 20) =
          BitVec.ofNat 8 (((t.pre u).v r).toNat / 2 ^ (8 * i))) ∧
      (∃ k, exec (.vsts h w) s = .next k ∧ (k.tile u).vregs = (t.tile u).vregs ∧ SameMemoryBut t k u b 16 ∧
        ∀ i, i < 16 → k.rdByte (spadBase u + (b + i) % 2 ^ 20) =
          BitVec.ofNat 8 (((t.pre u).scale r).toNat / 2 ^ (8 * i))))

/-! ## The M slot (R111-R115, R132) -/

/-- R113-R115: MMA writes every element of ad with the model's mmaElem of the two panels and sets the tag that the operand format
requires; AZERO clears ad and gives it the named type; ALD loads its 32 × 64 elements row by row; ARD and AWR move one row. No other
accumulator, and no byte of memory, changes. R115, R132: AST copies an accumulator to its own format bit for bit, row by row from ADDR;
to another format that R132 allows it writes the elements that the model's `convert` gives, and the block scales of an MX format after
them; every other byte of memory stays as it was. A target that R132 does not allow is illegal. -/
def Obligations.AccumulatorResults : Prop :=
  (∀ (h : SlotHdr) (w : BitVec 22) (s : State), s.acts h 2 = true →
      let t := s.issued h
      let u := h.tile.unit
      let ad := bits w 19 3
      let d := (t.pre u).s (bits w 14 5)
      let e := (t.pre u).s (bits w 9 5)
      let z := decide (bits w 8 1 = 1)
      let others := fun (k : State) => k.mem = t.mem ∧
        ∀ a r c, a < 8 → a ≠ ad → r < 32 → c < 64 → (k.tile u).acc a r c = (t.tile u).acc a r c ∧ (k.tile u).tag a = (t.tile u).tag a
      (bits w 0 8 = 0 → mmaLegal d e z ((t.tile u).tag ad) = true → ∃ k, exec (.mma h w) s = .next k ∧ others k ∧
        (k.tile u).tag ad = accType (pdFmt d) ∧
        ∀ r c, r < 32 → c < 64 → (k.tile u).acc ad r c = BitVec.ofNat 64
          (mmaElem (t.readPanel u d 32) (t.readPanel u e 64) (pdK d) ((t.pre u).rnd.getLsbD 4) r c
            (if z then 0 else ((t.tile u).acc ad r c).toNat)).1) ∧
      (bits w 0 16 = 0 → bits w 16 3 ≤ 2 → ∃ k, exec (.azero h w) s = .next k ∧ others k ∧
        (k.tile u).tag ad = (if bits w 16 3 = 0 then .fp32 else if bits w 16 3 = 1 then .fp64 else .int32) ∧
        ∀ r c, r < 32 → c < 64 → (k.tile u).acc ad r c = 0) ∧
      (bits w 0 14 = 0 → pdZero d = true → (pdFmt d = 0 ∨ pdFmt d = 1 ∨ pdFmt d = 14) →
        let n := if pdFmt d = 0 then 64 else 32
        ∃ k, exec (.ald h w) s = .next k ∧ others k ∧
          (k.tile u).tag ad = (if pdFmt d = 0 then .fp64 else if pdFmt d = 1 then .fp32 else .int32) ∧
          ∀ r c, r < 32 → c < 64 → (k.tile u).acc ad r c =
            BitVec.ofNat 64 (t.spadRead u (pdAddr d) (256 * n) / 2 ^ (n * (64 * r + c)) % 2 ^ n)) ∧
      (bits w 0 8 = 0 → bits w 8 1 = 0 → (t.tile u).tag ad ≠ .fp64 →
        (∃ k, exec (.ard h w) s = .next k ∧ k.mem = t.mem ∧ (k.tile u).accs = (t.tile u).accs ∧
          ∀ c, c < 64 → vlane 32 ((k.tile u).v (bits w 14 5)) c = ((t.tile u).acc ad (bits w 9 5) c).toNat % 2 ^ 32) ∧
        (∃ k, exec (.awr h w) s = .next k ∧ others k ∧ (k.tile u).tags = (t.tile u).tags ∧
          ∀ r c, r < 32 → c < 64 → (k.tile u).acc ad r c =
            if r = bits w 9 5 then BitVec.ofNat 64 (vlane 32 ((t.pre u).v (bits w 14 5)) c) else (t.tile u).acc ad r c)) ∧
      (bits w 0 8 = 0 → (t.tile u).tag ad = .fp64 →
        (∃ k, exec (.ard h w) s = .next k ∧ k.mem = t.mem ∧ (k.tile u).accs = (t.tile u).accs ∧
          ∀ c, c < 32 → vlane 64 ((k.tile u).v (bits w 14 5)) c = ((t.tile u).acc ad (bits w 9 5) (32 * bits w 8 1 + c)).toNat) ∧
        (∃ k, exec (.awr h w) s = .next k ∧ others k ∧ (k.tile u).tags = (t.tile u).tags ∧
          ∀ r c, r < 32 → c < 64 → (k.tile u).acc ad r c =
            if r = bits w 9 5 ∧ c / 32 = bits w 8 1 then BitVec.ofNat 64 (vlane 64 ((t.pre u).v (bits w 14 5)) (c % 32))
            else (t.tile u).acc ad r c))) ∧
  (∀ (h : SlotHdr) (w : BitVec 22) (s : State), s.acts h 2 = true →
      let t := s.issued h
      let u := h.tile.unit
      let ad := bits w 19 3
      let d := (t.pre u).s (bits w 14 5)
      let n := if (t.tile u).tag ad = .fp64 then 64 else 32
      bits w 0 10 = 0 → bits w 11 3 ≤ 5 → pdZero d = true →
      (pdFmt d = ((t.tile u).tag ad).code → ∃ k, exec (.ast h w) s = .next k ∧ (k.tile u).accs = (t.tile u).accs ∧
        SameMemoryBut t k u (pdAddr d) (256 * n) ∧
        ∀ r c i, r < 32 → c < 64 → i < n / 8 →
          k.rdByte (spadBase u + (pdAddr d + n / 8 * (64 * r + c) + i) % 2 ^ 20) =
            BitVec.ofNat 8 (((t.tile u).acc ad r c).toNat % 2 ^ n / 2 ^ (8 * i))) ∧
      (astAllowed ((t.tile u).tag ad) (pdFmt d) = true → pdFmt d ≠ ((t.tile u).tag ad).code →
        let rnd := (t.pre u).rnd
        let f := pdFmt d
        let r := convert ((t.tile u).tag ad).code f (effMode (bits w 11 3) rnd) (decide (bits w 10 1 = 1) || rnd.getLsbD 3)
          (rnd.getLsbD 4) (accIdx.map fun e => elemRead ((t.tile u).tag ad).code (rnd.getLsbD 4) ((t.tile u).acc ad e.1 e.2).toNat)
          (t.tile u).seed
        ∃ k, exec (.ast h w) s = .next k ∧ (k.tile u).accs = (t.tile u).accs ∧ (k.tile u).tags = (t.tile u).tags ∧
          (k.tile u).sregs = (t.tile u).sregs ∧ (k.tile u).seed = r.2.seed ∧
          SameMemoryBut t k u (pdAddr d) (256 * fmtBits f + r.1.length) ∧
          (∀ i, i < 256 * fmtBits f → k.rdByte (spadBase u + (pdAddr d + i) % 2 ^ 20) =
            BitVec.ofNat 8 (joinLanes (fmtBits f) r.2.bits / 2 ^ (8 * i))) ∧
          ∀ i, i < r.1.length → k.rdByte (spadBase u + (pdAddr d + 256 * fmtBits f + i) % 2 ^ 20) =
            BitVec.ofNat 8 (r.1.getD i 0)) ∧
      (astAllowed ((t.tile u).tag ad) (pdFmt d) = false →
        exec (.ast h w) s = .next ((s.opened h).illegal u 2 ((s.opened h).tile u).bundle 0)))

/-! ## The X slot and the mover (R66-R68, R116-R118, R158, R164, R275) -/

/-- The commands of format XM, with their opcodes (R116). -/
def moverCommands (h : SlotHdr) (w : BitVec 22) : List (Instr × Nat) :=
  [(.load h w, 1), (.store h w, 2), (.fadd32 h w, 4), (.fadd64 h w, 5), (.faddf32 h w, 6), (.faddbf2 h w, 7),
   (.swap64 h w, 8), (.cas64 h w, 9), (.min64 h w, 10), (.max64 h w, 11), (.and64 h w, 12), (.or64 h w, 13),
   (.xor64 h w, 14), (.plait h w, 16)]

/-- R66, R116, R117, R277: an X-slot request that passes its source checks and its region entry takes a mover slot and the next REQ_SEQ
and leaves the tile with the key of its key slot, its data and operands read from the scratchpad; one whose entry is not in the
lookaside cache waits for it; a release-flagged STORE is held behind the earlier requests of its queue; one that finds no free mover
slot stalls its bundle. No byte of memory changes. R66, R118: LOAD and STORE with a line count of 0 or above 64 complete RANGE_FAULT,
and a misaligned address completes ALIGNMENT_FAULT, without leaving the tile: the done counter counts and TILE_FAULT records the first
status. -/
def Obligations.MoverRequestsLeaveTheTile : Prop :=
  (∀ (h : SlotHdr) (w : BitVec 22) (s : State), s.acts h 3 = true → bits w 0 1 = 0 →
      let t := s.issued h
      let u := h.tile.unit
      let a := (t.pre u).s (bits w 7 5)
      let b := (t.pre u).s (bits w 2 5)
      let q := (t.tile u).seqNext
      let spad := b.toNat % 2 ^ 20 / 64 * 64
      let lines := b.toNat / 2 ^ 20 % 128
      let g := a.toNat % 2 ^ 48 / 2 ^ 19
      ((s.tile u).freeMover = 0 → ∀ c ∈ moverCommands h w, exec c.1 s = .next s) ∧
      ((s.tile u).freeMover ≠ 0 → h.ecc ≠ .spad → ∀ c ∈ moverCommands h w, bits w 1 1 = 0 → t.sourceCheck c.2 a b = 0 →
        (c.2 = 16 ∨ t.isHere (a.toNat / 2 ^ 48) = false ∨ laGoverned (a.toNat % 2 ^ 48) = false ∨
          ∃ e, (t.tile u).look.find? (fun e => e.1 == g) = some e ∧ lookOk (e.2.word t.clk.frame) c.2 = true) →
        ∃ k r, exec c.1 s = .next k ∧ k.mem = t.mem ∧ (k.tile u).sregs = (t.tile u).sregs ∧
          (k.tile u).seqNext = (q + 1) % 2 ^ 24 ∧ (k.tile u).mover.length = (t.tile u).mover.length + 1 ∧
          k.net.reqs = t.net.reqs ++ [r] ∧ r.opc = BitVec.ofNat 16 c.2 ∧ r.srcUnit = BitVec.ofNat 16 u ∧
          r.seq = BitVec.ofNat 24 q ∧ r.retry = false ∧
          r.key = t.getR (Reg.grpKey (u / 512) (t.getF (Reg.tileGroup (u / 512) (u % 512))) (bits w 12 3)) ∧
          (c.2 ≠ 16 → r.ga = a) ∧ (c.2 = 16 → r.operand = a) ∧
          (c.2 = 1 → r.data = [] ∧ r.lines = lines) ∧
          (c.2 = 2 ∨ c.2 = 16 → r.data = t.spadLines u spad lines ∧ r.lines = lines) ∧
          (4 ≤ c.2 → c.2 ≤ 14 → r.operand = BitVec.ofNat 64 (t.spadRd u spad (atomicBytes c.2))) ∧
          (c.2 = 9 → r.compare = BitVec.ofNat 64 (t.spadRd u (spad + 8) 8))) ∧
      ((s.tile u).freeMover ≠ 0 → ∀ c ∈ moverCommands h w, bits w 1 1 = 0 → c.2 ≠ 16 → t.sourceCheck c.2 a b = 0 →
        t.isHere (a.toNat / 2 ^ 48) = true → laGoverned (a.toNat % 2 ^ 48) = true →
        (t.tile u).look.find? (fun e => e.1 == g) = none →
        ∃ k, exec c.1 s = .next k ∧ k.net = t.net ∧ k.mem = t.mem ∧
          (k.tile u).mover.length = (t.tile u).mover.length + 1 ∧
          ∀ m ∈ (k.tile u).mover, m.seq = q → m.state = .entry) ∧
      ((s.tile u).freeMover ≠ 0 → bits w 1 1 = 1 → t.sourceCheck 2 a b = 0 →
        (t.isHere (a.toNat / 2 ^ 48) = false ∨ laGoverned (a.toNat % 2 ^ 48) = false) →
        (((t.tile u).mover.takeWhile fun x => x.seq != q).any fun x => x.queue == bits w 19 3 && x.opc != 1) = true →
        ∃ k, exec (.store h w) s = .next k ∧ k.net = t.net ∧ k.mem = t.mem ∧
          ∀ m ∈ (k.tile u).mover, m.seq = q → m.state = .held)) ∧
  (∀ (h : SlotHdr) (w : BitVec 22) (s : State), s.acts h 3 = true → bits w 0 2 = 0 → (s.tile h.tile.unit).freeMover ≠ 0 →
      let t := s.issued h
      let u := h.tile.unit
      let a := (t.pre u).s (bits w 7 5)
      let b := (t.pre u).s (bits w 2 5)
      let lines := b.toNat / 2 ^ 20 % 128
      let dc := bits w 15 4
      let done := fun (c : Instr) (st : Nat) => ∃ k, exec c s = .next k ∧ k.net = t.net ∧ k.mem = t.mem ∧
        (k.tile u).d dc = (t.tile u).d dc + 1 ∧
        (k.getF (Reg.faultCount (u / 512) (u % 512)) = Min.min 65535 (t.getF (Reg.faultCount (u / 512) (u % 512)) + 1)) ∧
        (t.getF (Reg.faultCount (u / 512) (u % 512)) = 0 → k.getF (Reg.faultStatus (u / 512) (u % 512)) = st)
      ((lines = 0 ∨ 64 < lines) → done (.load h w) 0x12 ∧ done (.store h w) 0x12) ∧
      (1 ≤ lines → lines ≤ 64 → b.toNat / 2 ^ 27 = 0 → a.toNat / 2 ^ 48 ≠ 0xFFFF →
        a.toNat / 2 ^ 48 ≠ t.getF Reg.wtyNode →
        (a.toNat % 64 ≠ 0 ∨ 4096 < a.toNat % 4096 + 64 * lines) → done (.load h w) 0x13 ∧ done (.store h w) 0x13))

/-- R275: a release-flagged STORE is held while an earlier store, atomic or contribution of its queue is outstanding; STORE_RELEASE
sends it once none is, or completes it ABORTED where one of them failed. R66, R117, R277: the reply that carries a sent request's tag
frees its slot and counts its done counter; a LOAD's lines go to the scratchpad, a marked line leaving its destination unchanged
(R287); an atomic's old value goes to the bytes 16 above its operand; a request that has sent no retry is acknowledged (R279). R68: a
region entry that arrives becomes the most recently used of the 128 of the lookaside cache; where it allows none of the requests that
wait for it they complete ACCESS_FAULT and never leave. While no system area serves the lookup nothing arrives. -/
def Obligations.MoverRequestsComplete : Prop :=
  (∀ (tile : TileId) (seq : BitVec 24) (found : LineRead) (s : State) (m : MReq), s.alive = true →
      let u := tile.unit
      (s.tile u).mover.find? (fun x => x.seq == seq.toNat && x.state == .held) = some m →
      ((s.tile u).behind m = true → exec (.storeRelease tile seq found) s = .next s) ∧
      ((s.tile u).behind m = false → m.failed = false → found.failed = [] →
        ∃ k r, exec (.storeRelease tile seq found) s = .next k ∧
        k.net.reqs = s.net.reqs ++ [r] ∧ r.ga = m.ga ∧ r.key = m.key ∧ r.seq = BitVec.ofNat 24 m.seq ∧
        r.deadline = s.clk.now + 4 * s.window (aimOf m.opc m.ga) + 16000 ∧ k.mem = s.mem) ∧
      ((s.tile u).behind m = false → m.failed = true → ∃ k, exec (.storeRelease tile seq found) s = .next k ∧
        k.net = s.net ∧ (k.tile u).d m.dc = (s.tile u).d m.dc + 1 ∧ (∀ x ∈ (k.tile u).mover, x.seq ≠ m.seq) ∧
        (s.getF (Reg.faultCount (u / 512) (u % 512)) = 0 → k.getF (Reg.faultStatus (u / 512) (u % 512)) = 0x03))) ∧
  (∀ (tile : TileId) (r : Reply) (s : State) (m : MReq), s.alive = true →
      let u := tile.unit
      (s.tile u).mover.find? (fun m => m.seq == r.seq.toNat && m.state == .sent && m.opc == r.opc.toNat) = some m →
      r.inc.toNat = s.incOf u → r.status = 0 →
      ∃ k, exec (.moverReply tile r []) s = .next k ∧
        (k.tile u).mover = (s.tile u).mover.filter (fun x => x.seq != m.seq) ∧
        (∀ d, (k.tile u).d d = if d = m.dc then (s.tile u).d d + 1 else (s.tile u).d d) ∧
        (k.tile u).sregs = (s.tile u).sregs ∧ (k.tile u).vregs = (s.tile u).vregs ∧
        k.net.acks = (if m.retries = 0 then s.net.acks ++ [(u, r.seq)] else s.net.acks) ∧
        (m.opc = 1 → r.data.length ≤ 64 → SameMemoryBut s k u m.spad (64 * r.data.length) ∧
          ∀ i j, i < r.data.length → j < 64 → k.rdByte (spadBase u + (m.spad + 64 * i + j) % 2 ^ 20) =
            match r.data.getD i none with
            | some l => BitVec.ofNat 8 (l.toNat / 2 ^ (8 * j))
            | none => s.rdByte (spadBase u + (m.spad + 64 * i + j) % 2 ^ 20)) ∧
        (4 ≤ m.opc → m.opc ≤ 14 → SameMemoryBut s k u (m.spad + 16) (atomicBytes m.opc) ∧
          ∀ j, j < atomicBytes m.opc → k.rdByte (spadBase u + (m.spad + 16 + j) % 2 ^ 20) =
            BitVec.ofNat 8 (r.value.toNat / 2 ^ (8 * j))) ∧
        (m.opc = 2 ∨ m.opc = 16 → k.mem = s.mem)) ∧
  (∀ (tile : TileId) (g : GranuleN) (found : List (BitVec 24 × LineRead)) (s : State), s.alive = true →
      let u := tile.unit
      let waits := fun (m : MReq) => m.state = .entry ∧ granuleOf (gaLa m.ga) = g.val
      (s.entryDie g = none → exec (.lookasideFill tile ⟨g, found⟩) s = .next s) ∧
      (∀ d, s.entryDie g = some d → g.val ∉ (s.sdie d).badEntries → (∃ m ∈ (s.tile u).mover, waits m) →
        ∃ k, exec (.lookasideFill tile ⟨g, found⟩) s = .next k ∧ k.mem = s.mem ∧
          (k.tile u).look = ((g.val, s.region g.val) :: (s.tile u).look.filter (fun e => e.1 != g.val)).take 128 ∧
          ((∀ m ∈ (s.tile u).mover, waits m → lookOk ((s.region g.val).word s.clk.frame) m.opc = false) → k.net = s.net ∧
            (∀ m ∈ (k.tile u).mover, ¬ waits m) ∧
            (s.getF (Reg.faultCount (u / 512) (u % 512)) = 0 → k.getF (Reg.faultStatus (u / 512) (u % 512)) = 0x11))))

/-- R118, R164: ROWRD and ROWWR take a mover slot and wait for their grant; a row index above 16,383 completes RANGE_FAULT. R35, R164:
a tile's oldest row move that is not granted is granted when its slice takes accesses and the governor admits it: a tile that is not
HOT is always admitted, and a HOT one only while its blocks have had fewer than two grants in the window and no older held move of the
die goes first; one that the governor holds stays, and the cycles since it was last asked count in ROW_HOLD_CYCLES (R169). A failed
slice completes it UNREACHABLE (R174). R164, R165: a granted ROWRD that meets no marked line, no error and no lost word puts the row's
512 bytes, invalid lines reading zero, into the scratchpad; ROWWR writes the row's eight lines and makes them valid. The done counter
counts, and no other byte changes. -/
def Obligations.RowMoves : Prop :=
  (∀ (h : SlotHdr) (w : BitVec 22) (s : State), s.acts h 3 = true → bits w 12 3 = 0 → bits w 0 2 = 0 →
      let t := s.issued h
      let u := h.tile.unit
      let row := (t.pre u).s (bits w 7 5)
      let spad := ((t.pre u).s (bits w 2 5)).toNat % 2 ^ 20 / 512 * 512
      let dc := bits w 15 4
      let commands := [(Instr.rowrd h w, false), (Instr.rowwr h w, true)]
      ((s.tile u).freeMover = 0 → ∀ c ∈ commands, exec c.1 s = .next s) ∧
      ((s.tile u).freeMover ≠ 0 → row.toNat < 16384 → ∀ c ∈ commands, exec c.1 s = .next (t.modTile u fun k =>
        { k with rows := k.rows ++ [⟨c.2, row, dc, spad, false, none, none, 0⟩] })) ∧
      ((s.tile u).freeMover ≠ 0 → 16384 ≤ row.toNat → ∀ c ∈ commands, ∃ k, exec c.1 s = .next k ∧ k.mem = t.mem ∧
        (k.tile u).d dc = (t.tile u).d dc + 1 ∧
        (t.getF (Reg.faultCount (u / 512) (u % 512)) = 0 → k.getF (Reg.faultStatus (u / 512) (u % 512)) = 0x12))) ∧
  (∀ (tile : TileId) (k : Nat) (s : State) (r : RowMove), s.alive = true →
      let u := tile.unit
      let st := s.getF (Reg.sliceState (u / 512) (u % 512))
      (s.tile u).rows.find? (fun r => !r.granted) = some r →
      (st = 3 → ∃ t, exec (.rowMoveGrant tile k) s = .next t ∧
        (t.tile u).d r.dc = (s.tile u).d r.dc + 1 ∧ t.mem = s.mem ∧
        (s.getF (Reg.faultCount (u / 512) (u % 512)) = 0 → t.getF (Reg.faultStatus (u / 512) (u % 512)) = 0x31)) ∧
      (st ≠ 3 → s.sliceOpen (u / 512) (u % 512) = true →
        (s.isHot u = false ∨
          (governorAdmits (s.cdie (u / 512)).grants (u % 512) k = true ∧ s.heldBefore u k r.since = false)) →
        ∃ t, exec (.rowMoveGrant tile k) s = .next t ∧
          { r with granted := true, counted := none, due := k + rowCycles st r.write } ∈ (t.tile u).rows ∧ t.mem = s.mem ∧
          (t.cdie (u / 512)).grants = ((s.cdie (u / 512)).grants.filter fun g => decide (k < g.1 + 64)) ++ [(k, u % 512)]) ∧
      (st ≠ 3 → s.isHot u = true →
        (governorAdmits (s.cdie (u / 512)).grants (u % 512) k = false ∨ s.heldBefore u k r.since = true) →
        ∃ t, exec (.rowMoveGrant tile k) s = .next t ∧ (∀ x ∈ (t.tile u).rows, x.granted = true → x ∈ (s.tile u).rows) ∧
          { r with since := some (r.since.getD k), counted := some k } ∈ (t.tile u).rows ∧ t.mem = s.mem ∧
          (∀ c, r.counted = some c → Counted s t (Reg.siteCnt (u / 512) (u % 512) 2) (k - c)))) ∧
  (∀ (tile : TileId) (s : State) (r : RowMove), s.alive = true →
      let u := tile.unit
      let base := 0xF000000000 + (u / 512) * 0x90000000 + (u % 512) * 0x800000 + r.row.toNat * 0x200
      (s.tile u).nextRow = some r → s.getF (Reg.sliceState (u / 512) (u % 512)) ≠ 3 →
      (r.write = false → (∀ i, i < 8 → s.lineMark (base + 64 * i) = 0) →
        ∃ k, exec (.rowMoveDone tile [] .clean) s = .next k ∧ (k.tile u).d r.dc = (s.tile u).d r.dc + 1 ∧
          (k.tile u).rows = (s.tile u).rows.erase r ∧ SameMemoryBut s k u r.spad 512 ∧
          ∀ i, i < 512 → k.rdByte (spadBase u + (r.spad + i) % 2 ^ 20) =
            if s.lineValid (base + i) = true then s.rdByte (base + i) else 0) ∧
      (r.write = true → ∃ k, exec (.rowMoveDone tile [] .clean) s = .next k ∧ (k.tile u).d r.dc = (s.tile u).d r.dc + 1 ∧
        (k.tile u).rows = (s.tile u).rows.erase r ∧
        (∀ i, i < 512 → k.rdByte (base + i) = s.rdByte (spadBase u + (r.spad + i) % 2 ^ 20) ∧ k.lineValid (base + i) = true) ∧
        ∀ x, (x < base ∨ base + 512 ≤ x) → k.rdByte x = s.rdByte x))

/-! ## Courses and laps (R79-R94) -/

/-- R79, R84, R85: a fetched course entry that is sound is kept and its image fetched next, under the key slot that it names; a
malformed one ends the member's part, and so does a fetch that completed with a fault code, which TILE_FAULT records; an image that
passes the fit check is placed in the bank that does not issue, and one that fails it ends the member's part. R69: the refetched image
whose digest agrees ends the wait, and one that does not arrive or disagrees faults the tile; its cycles are executed cycles of the
lap. -/
def Obligations.LoadersTakeEntriesAndImages : Prop :=
  (∀ (tile : TileId) (s : State) (m : Member), s.alive = true →
      let u := tile.unit
      let count := Reg.faultCount (u / 512) (u % 512)
      let ends := fun (c : Instr) (why : Leave) => ∃ k, exec c s = .next k ∧ k.mem = s.mem ∧
        (k.tile u).member = some { m with stopping := some why, fetch := .idle } ∧ (k.tile u).sregs = (s.tile u).sregs ∧
        (k.tile u).bank0 = (s.tile u).bank0 ∧ (k.tile u).bank1 = (s.tile u).bank1
      let failed := fun (c : Instr) (status : Nat) => ends c (.fetchFault status) ∧
        ∃ k, exec c s = .next k ∧ k.getF count = Min.min 65535 (s.getF count + 1) ∧
          (s.getF count = 0 → k.getF (Reg.faultStatus (u / 512) (u % 512)) = status % 256)
      (s.tile u).member = some m →
      (∀ (status : Nat) (line : List Byte), (s.tile u).loaded .entry = some (status, line) → m.fetch = .entry →
        let e := m.entryOf line
        let sound := e.rpt ≠ 0 ∧ e.zeros = 0 ∧ e.imageGa.toNat % 256 = 0 ∧ (m.nextEntry ≠ 65535 ∨ e.last = true)
        (status = 0 → sound → ∃ k, exec (.courseEntryFetched tile status m.nextEntry) s = .next k ∧ k.mem = s.mem ∧
          (k.tile u).member = some { m with loaded := some e, fetch := .image } ∧ (k.tile u).sregs = (s.tile u).sregs ∧
          ∃ new, k.net.reqs = s.net.reqs ++ new ∧
            ∀ r ∈ new, r.opc = 1 ∧ r.key = s.getR (Reg.grpKey (u / 512) m.group e.keySlot.val)) ∧
        (s.phase u = 2 → m.stopping = none →
          (status = 0 → ¬ sound → ends (.courseEntryFetched tile status m.nextEntry) .malformed) ∧
          (status ≠ 0 → failed (.courseEntryFetched tile status m.nextEntry) status))) ∧
      (∀ (status : Nat) (bytes : List Byte) (e : CourseEntry), (s.tile u).loaded .image = some (status, bytes) →
        m.fetch = .image → m.loaded = some e →
        let img := imageOfBytes bytes
        (status = 0 → s.fitCheck img = 0 →
          ∃ k b, exec (.imageLoaded tile status m.nextEntry) s = .next k ∧ k.mem = s.mem ∧
            (if s.curBank u then (k.tile u).bank0 else (k.tile u).bank1) = some b ∧
            (if s.curBank u then (k.tile u).bank1 else (k.tile u).bank0) = s.curImg u ∧
            b.bound = img.bound.toNat ∧ b.bundles = img.bundles.toNat ∧ b.entry = img.entry.toNat ∧ b.segs = img.segs ∧
            (k.tile u).member = some { m with ready := true, fetch := .idle }) ∧
        (s.phase u = 2 → m.stopping = none →
          (status = 0 → s.fitCheck img ≠ 0 → ends (.imageLoaded tile status m.nextEntry) .fitReject) ∧
          (status ≠ 0 → failed (.imageLoaded tile status m.nextEntry) status)))) ∧
  (∀ (tile : TileId) (cycles status : Nat) (bytes : List Byte) (s : State) (img : BankImg), s.alive = true →
      let u := tile.unit
      let agrees := status = 0 ∧ bodyDigest bytes img.bundles = img.digest
      (s.tile u).wait = some .refetch → s.curImg u = some img → (s.tile u).loaded .refetch = some (status, bytes) →
      ∃ k, exec (.imageRefetchDone tile status cycles) s = .next k ∧ (k.tile u).wait = none ∧ k.mem = s.mem ∧
        (k.tile u).cycles = (s.tile u).cycles + cycles ∧ (k.tile u).sregs = (s.tile u).sregs ∧
        (agrees → (k.tile u).issueEnd = (s.tile u).issueEnd ∧ k.phase u = s.phase u) ∧
        (¬ agrees → (k.tile u).issueEnd = true ∧ k.phase u = 4))

/-- R80, R81, R138: at the lap instant, in or after its start frame, a claimed course whose members are all ready starts while FABRIC is
2: a member that holds its first entry runs it with s1 its argument, s2 its index, s3 the member count, s4 its lap number and s5 the
frame, every other register of the lap and TILE_FAULT zero, the companions 0x7F, SEED its start value, and its phase is 2. R83: a lap
whose issue has ended and whose requests, moves and signals have all completed ends: its drain cycles are executed cycles and it is
counted; the tile waits in phase 3 for the next lap instant, or leaves the course where that was its last lap. R89: a lap whose executed
cycles pass its declared bound is counted once and goes on. R93: once every member of a claimed course has left it and no request of its
members can still be applied, the course completes its descriptor with the status of the first of R93's conditions that holds. -/
def Obligations.CoursesStartAndComplete : Prop :=
  (∀ (g : GroupN) (s : State) (c : Course) (u : Nat) (m : Member) (e : CourseEntry), s.alive = true →
      s.courses.find? (fun c => c.claimed && c.group == g.val && !c.running) = some c →
      c.members.Nodup → (∀ x ∈ c.members, x < 4096) →
      (∀ x ∈ c.members, ∀ m', (s.tile x).member = some m' → m'.group = g.val → s.phase x = 1 ∧ m'.ready = true) →
      u ∈ c.members → (s.tile u).member = some m → m.group = g.val → m.loaded = some e → m.current = none →
      s.frameReached c.startFrame = true → s.getF Reg.fabric = 2 → s.lateMembers c = [] → s.clk.running = true →
      s.clk.lapDue = false → s.clk.now = s.clk.tick + s.getF Reg.lapOffset →
      ∃ k, exec (.courseStart g) s = .next k ∧ k.phase u = 2 ∧ k.curBank u = !s.curBank u ∧ k.mem = s.mem ∧
        (k.tile u).s 1 = e.arg ∧ (k.tile u).s 2 = BitVec.ofNat 64 m.index ∧ (k.tile u).s 3 = BitVec.ofNat 64 m.count ∧
        (k.tile u).s 4 = BitVec.ofNat 64 m.begun ∧ (k.tile u).s 5 = BitVec.ofNat 64 (s.clk.frame % 2 ^ 32) ∧
        (∀ i, (i = 0 ∨ 5 < i) → (k.tile u).s i = 0) ∧ (∀ i, (k.tile u).v i = 0) ∧ (∀ d, (k.tile u).d d = 0) ∧
        (∀ i, i ≠ 0 → (k.tile u).p i = false) ∧ (∀ i, (k.tile u).scale i = scaleOne) ∧
        (∀ a r x, (k.tile u).acc a r x = 0) ∧ (∀ a, (k.tile u).tag a = .fp32) ∧
        (k.tile u).rnd = 0 ∧ (k.tile u).aflags = 0 ∧ (k.tile u).tstat = 0 ∧
        k.getF (Reg.faultCount (u / 512) (u % 512)) = 0 ∧ k.getF (Reg.faultStatus (u / 512) (u % 512)) = 0 ∧
        (k.tile u).seed = BitVec.ofNat 64 ((s.getF Reg.wtyNode * 2 ^ 16 + u) * 2 ^ 32 + 0x5EED0001) ∧
        (∃ c' ∈ k.courses, c'.group = g.val ∧ c'.running = true ∧ c'.began = s.clk.frame)) ∧
  (∀ (tile : TileId) (drain : Nat) (s : State) (m : Member) (e : CourseEntry), s.alive = true →
      let u := tile.unit
      (s.tile u).member = some m → m.current = some e → m.stopping = none →
      s.phase u = 2 → (s.tile u).issueEnd = true → (s.tile u).wait = none →
      (s.tile u).mover = [] → (s.tile u).rows = [] → (s.tile u).sigs = [] →
      ((e.last = false ∨ m.runsLeft ≠ 0) →
        ∃ k, exec (.lapEnd tile drain) s = .next k ∧ k.phase u = 3 ∧ (k.tile u).cycles = (s.tile u).cycles + drain ∧
          (k.tile u).sregs = (s.tile u).sregs ∧ k.mem = s.mem ∧
          (k.tile u).member = some { m with ended := m.ended + 1, lastEnded := false } ∧
          Counted s k (Reg.tileCnt (u / 512) (u % 512) 0) 1) ∧
      (e.last = true → m.runsLeft = 0 → (∀ x ∈ s.courses, x.claimed = true ∧ x.running = true) →
        ∃ k, exec (.lapEnd tile drain) s = .next k ∧ k.phase u = 0 ∧ (k.tile u).cycles = (s.tile u).cycles + drain ∧
          (k.tile u).sregs = (s.tile u).sregs ∧ k.mem = s.mem ∧ (k.tile u).member = none ∧
          (∀ c ∈ k.courses, c.group = m.group → c.progress.getLast? = some (m.ended + 1)) ∧
          Counted s k (Reg.tileCnt (u / 512) (u % 512) 0) 1)) ∧
  (∀ (tile : TileId) (cycles : Nat) (s : State) (img : BankImg), s.alive = true →
      let u := tile.unit
      let a := Reg.tileCnt (u / 512) (u % 512) 6
      s.curImg u = some img → s.phase u = 2 → img.bound < Max.max (s.tile u).cycles cycles →
      ((s.tile u).boundSeen = false → ∃ k, exec (.lapBoundExceeded tile cycles) s = .next k ∧
        (k.tile u).boundSeen = true ∧ Counted s k a 1 ∧ k.phase u = 2 ∧ (k.tile u).sregs = (s.tile u).sregs ∧ k.mem = s.mem) ∧
      ((s.tile u).boundSeen = true → exec (.lapBoundExceeded tile cycles) s = .next s)) ∧
  (∀ (g : GroupN) (s : State) (c : Course) (d : Started), s.alive = true →
      s.courses.find? (fun c => c.claimed && c.group == g.val) = some c →
      (∀ u ∈ c.members, (s.tile u).member = none) → c.notBefore ≤ s.clk.now →
      (∀ x ∈ s.courses.erase c, x.claimed = true ∧ x.running = true) → c.ring < 256 →
      s.started c.ring c.num = some d → d.finished = false → descFlag d.line 2 = false →
      ∃ k rec, exec (.courseComplete g) s = .next k ∧ k.courses = s.courses.erase c ∧ k.mem = s.mem ∧
        rec ∈ (k.cq (s.getF (Reg.sqCq c.ring))).waiting ∧ rec.ring = c.ring ∧ rec.num = c.num ∧
        (∀ row st, row ≤ 6 → (∀ y ∈ c.statuses, row ≤ y.1) → (∃ y ∈ c.statuses, y.1 = row) →
          (∀ y ∈ c.statuses, y.1 = row → y.2.2 = st) → rec.status = st) ∧
        ((∀ y ∈ c.statuses, 6 < y.1) → c.faults ≠ [] → ∃ f ∈ c.faults, rec.status = f.2.2 ∧
          ∀ x ∈ c.faults, f.1 < x.1 ∨ (f.1 = x.1 ∧ f.2.1 ≤ x.2.1)) ∧
        ((∀ y ∈ c.statuses, 6 < y.1) → c.faults = [] → rec.status = 0))

/-! ## The fabric's links (R186-R203) -/

/-- R192, R193, R195, R197, R198: a slot takes a flit that has credit by the model's selection order, the next LINK_SEQ and a credit of
its class, and keeps it for replay, CRC and sequence written; where no ready flit has credit nothing leaves and CREDIT_WAIT counts. A
flit that passes every check of R193 is acknowledged and joins those its hub has accepted; one that completes its request brings that
request to its target. One whose CRC fails or that overlaps an uncorrectable codeword is counted and dropped, one for another port is
counted in DEST_MISMATCH, one of a stale incarnation in STALE_DROPPED. A KIND 5 flit empties the replay buffer up to its acknowledgement
and returns credits; a replay timeout, 256 st after the last acknowledgement, sends again all that is held. -/
def Obligations.SequencedFlitsAreReplayedUntilAcknowledged : Prop :=
  (∀ (src dst : PortN) (hop : Nat) (link own : List ReadyFlit) (s : State), s.alive = true →
    s.launchHop src dst = some hop → s.launchFree src hop = true →
    let x := s.pair src hop
    let all := (link ++ own ++ s.readyCopies src dst).filter fun f => launchable src dst f.flit
    (∀ f, x.pick all = some f → ∃ k g, exec (.flitLaunch src dst link own) s = .next k ∧
      (k.pair src hop).replay = x.replay ++ [(x.nextSeq, g)] ∧ (k.pair src hop).nextSeq = (x.nextSeq + 1) % 4096 ∧
      (k.pair src hop).credits.getD f.tc 0 + 1 = x.credits.getD f.tc 0 ∧
      flitLinkSeq g = x.nextSeq % 4096 ∧ flitDest g = dst.val ∧ flitTc g = f.tc.val ∧
      flitKind g = (if hop = dst.val then flitKind f.flit else 7) ∧
      flitCrc g = crcOf g ∧ fbits g 96 1920 = fbits f.flit 96 1920 ∧ Counted s k (Reg.hubCnt src 0) 1 ∧ k.mem = s.mem) ∧
    (x.pick all = none → (∃ f ∈ all, s.hasCredit src hop f.tc = false) →
      ∃ k, exec (.flitLaunch src dst link own) s = .next k ∧ k.fab = s.fab ∧ Counted s k (Reg.hubCnt src 8) 1)) ∧
  (∀ (port colour : PortN) (flit : Flit) (word : CwRead) (more : List CwRead) (s : State), s.alive = true →
    let words := word :: more
    let p := port.val
    let src := heardPort p colour
    s.hears src p = true →
    (crcOf flit ≠ flitCrc flit ∨ (∃ c ∈ words, c.failed = true) → ∃ k, exec (.flitReceive port colour flit word more) s = .next k ∧
      (k.hub p).accepted = (s.hub p).accepted ∧ (k.pair src p).expect = (s.pair src p).expect ∧
      Counted s k (Reg.hubCnt p 3) 1) ∧
    (crcOf flit = flitCrc flit → (∀ c ∈ words, c.failed = false) → flitKind flit ≠ 0 → flitKind flit ≠ 5 →
      (flitKind flit = 6 ↔ colour.val = 0) →
      ((flitKind flit ≤ 4 → flitDest flit = p ∧ flitSrc flit = src) → flitLinkSeq flit = (s.pair src p).expect →
        (flitInc flit = s.incOf (flitUnit flit) →
          ∃ k, exec (.flitReceive port colour flit word more) s = .next k ∧ (k.pair src p).expect = ((s.pair src p).expect + 1) % 4096 ∧
            Counted s k (Reg.hubCnt p 1) 1 ∧ k.mem = s.mem ∧
            (let accepted := (s.hub p).accepted ++ [flit]
             (completeMessage accepted flit = none → (k.hub p).accepted = accepted ∧ k.net = s.net) ∧
             (∀ first rest, completeMessage accepted flit = some (first, rest) → flitKind flit ≤ 3 → flitOpc flit ≠ 0x21 →
               flitTc flit ≠ 1 → reqOfFlits 0xFFFF first rest ∈ k.net.reqs))) ∧
        (flitInc flit ≠ s.incOf (flitUnit flit) →
          ∃ k, exec (.flitReceive port colour flit word more) s = .next k ∧ (k.pair src p).expect = ((s.pair src p).expect + 1) % 4096 ∧
            Counted s k (Reg.hubCnt p 7) 1 ∧ (k.hub p).accepted = (s.hub p).accepted)) ∧
      (flitKind flit ≤ 4 → flitDest flit ≠ p →
        ∃ k, exec (.flitReceive port colour flit word more) s = .next k ∧ (k.hub p).accepted = (s.hub p).accepted ∧
          Counted s k (Reg.hubCnt p 6) 1))) ∧
  (∀ (src dst : PortN) (ack : BitVec 12) (nak : Option (BitVec 12)) (credits : List Nat) (s : State), s.alive = true →
    let x := s.pair src dst
    s.hubUp src = true → s.hubUp dst = true → x.trained = true → x.credits.length = 4 → x.owed.length = 4 →
    ∃ k, exec (.linkControlFlit src dst ack nak credits) s = .next k ∧
      (k.pair src dst).replay = (if x.replay.any (fun e => e.1 == ack.toNat) = true
        then (x.replay.dropWhile fun e => e.1 != ack.toNat).drop 1 else x.replay) ∧
      ∀ tc, tc < 4 → (k.pair src dst).credits.getD tc 0 =
        x.credits.getD tc 0 + Min.min (credits.getD tc 0) (x.owed.getD tc 0)) ∧
  (∀ (src dst : PortN) (s : State), s.alive = true → s.hubUp src = true → (s.pair src dst).trained = true →
    (s.pair src dst).replay ≠ [] →
    ((s.pair src dst).ackAt + 256 ≤ s.clk.now → ∃ k, exec (.replayTimeout src dst) s = .next k ∧
      (k.pair src dst).replay = (s.pair src dst).replay ∧ (k.pair src dst).nextSeq = (s.pair src dst).nextSeq ∧
      Counted s k (Reg.hubCnt src 2) (s.pair src dst).replay.length) ∧
    (s.clk.now < (s.pair src dst).ackAt + 256 → exec (.replayTimeout src dst) s = .next s))

/-- R189, R196, R200, R201: a lane that has met eight lane errors within 1 ms is shown suspect and masked and its pair retrains; one
that has met fewer is left; a retraining holds launches and keeps the replay buffer; a pair that finishes training while the fabric is
not DARK runs on the lanes of its active planes that are not masked, with full credits; the first pair of a compute hub in reset to do
so has it reload (R223). PL8's lane takes a masked lane's place, and the pair retrains, once it is lit and its rings are locked. -/
def Obligations.PairsTrainOnTheirHealthyLanes : Prop :=
  (∀ (src dst : PortN) (plane : PlaneN) (s : State), s.alive = true → src ≠ dst →
    (s.getF (Reg.pairSuspect src dst)).testBit plane = false →
    let errors := s.recentErrors src dst plane
    (8 ≤ errors → ∃ k, exec (.laneSuspect src dst plane errors) s = .next k ∧
      (k.getF (Reg.pairSuspect src dst)).testBit plane = true ∧ (k.pair src dst).masked.testBit plane = true ∧
      ((s.pair src dst).masked.testBit plane = false → (k.pair src dst).trained = false) ∧
      (k.pair src dst).replay = (s.pair src dst).replay) ∧
    (errors < 8 → exec (.laneSuspect src dst plane errors) s = .next s) ∧
    (∀ n : Nat, n ≠ errors → exec (.laneSuspect src dst plane n) s = .next s)) ∧
  (∀ (src dst : PortN) (s : State), s.alive = true → (s.pair src dst).trained = true →
    ∃ k, exec (.pairRetrain src dst) s = .next k ∧ (k.pair src dst).trained = false ∧
      (k.pair src dst).replay = (s.pair src dst).replay ∧ Counted s k (Reg.hubCnt src 20) 1) ∧
  (∀ (src dst : PortN) (s : State), s.alive = true → src ≠ dst → (s.pair src dst).trained = false →
    (s.hubUp src = true → s.hubUp dst = true → s.carries = true →
      ∃ k, exec (.pairWidth src dst) s = .next k ∧ (k.pair src dst).trained = true ∧
        (k.pair src dst).credits = [40, 40, 40, 2] ∧ (k.pair src dst).replay = (s.pair src dst).replay ∧
        (∀ i, i < 8 → (k.getF (Reg.pairLanes src dst)).testBit i =
          ((s.getF (Reg.planeActive src)).testBit i && !(s.pair src dst).masked.testBit i)) ∧
        k.getF (Reg.pairWidthF src dst) = popcount 9 (k.getF (Reg.pairLanes src dst))) ∧
    (src.val < 16 → s.getF (Reg.hubState src) = 0 → 3 ≤ s.getF Reg.glbPhase →
      ∃ k, exec (.pairWidth src dst) s = .next k ∧ k.getF (Reg.hubState src) = 2)) ∧
  (∀ (src dst : PortN) (plane : PlaneN) (s : State), s.alive = true → src ≠ dst → (s.pair src dst).trained = true →
    s.pl8Free src dst plane = true →
    let l := (s.lightLane src dst).refreshLasers
    let ready := l.getF (Reg.lsrServing (256 + pairColour src dst)) ≠ 0 ∧
      ∀ r ∈ l.laneRings src dst 8, l.getF (Reg.heatState r) = 2
    (ready → l.pl8Free src dst plane = true → ∃ k, exec (.laneSpared src dst plane) s = .next k ∧
      (k.pair src dst).pl8 = some plane.val ∧ (k.pair src dst).trained = false ∧ k.mem = s.mem) ∧
    (¬ ready → exec (.laneSpared src dst plane) s = .next l))

/-! ## Vertical links, meshes and store dies (R23-R25, R71, R72, R170-R180) -/

/-- R23-R25, R71, R72: one of a group's two spares replaces a failing signal; a vertical link goes to half width on 16 to 31 healthy
groups and fails on fewer, and HLTH_DEGRADED shows it; a die that has lost one of its bridges routes through the other; a flit that a
mesh hop does not take is counted in MESH_RETRIES, and a link with eight such errors within 1 ms becomes suspect. -/
def Obligations.VerticalLinksAndMeshesDegrade : Prop :=
  (∀ (hub : PortN) (transmit : Bool) (group : Fin 32) (signal : Nat) (s : State), s.alive = true →
    let key := (if transmit then 0 else 32) + group.val
    let n := Tbl.look (fun _ => 0) (s.vlink hub).spares key
    n < 2 → s.getF (Reg.vlinkWidth hub) ≠ 2 → ∃ k, exec (.vlinkSpared hub transmit group signal) s = .next k ∧
      Tbl.look (fun _ => 0) (k.vlink hub).spares key = n + 1 ∧ k.getF (Reg.vlinkWidth hub) = s.getF (Reg.vlinkWidth hub) ∧
      k.mem = s.mem) ∧
  (∀ (hub : PortN) (groups : Fin 33) (s : State), s.alive = true → groups.val < s.getF (Reg.vlinkGroups hub) →
    ∃ k, exec (.vlinkHalfWidth hub groups) s = .next k ∧ k.getF (Reg.vlinkGroups hub) = groups.val ∧
      (k.getF Reg.degraded).testBit 1 = true ∧
      (16 ≤ groups.val → s.getF (Reg.vlinkWidth hub) = 0 → k.getF (Reg.vlinkWidth hub) = 1) ∧
      (groups.val < 16 → k.getF (Reg.vlinkWidth hub) = 2)) ∧
  (∀ (die : DieN) (s : State), s.alive = true → s.getF (Reg.meshRoute die) = 0 →
    let lost := fun i => s.getF (Reg.vlinkWidth (2 * die.val + i)) = 2
    (lost 0 → ¬ lost 1 → ∃ k, exec (.meshRerouted die) s = .next k ∧ k.getF (Reg.meshRoute die) = 1) ∧
    (lost 1 → ¬ lost 0 → ∃ k, exec (.meshRerouted die) s = .next k ∧ k.getF (Reg.meshRoute die) = 2)) ∧
  (∀ (die : DieN) (site : Fin 288) (dir : MeshDir) (flits : List Flit) (s : State), s.alive = true →
    (meshPort site dir).isSome = true →
    let link := meshLink site dir
    let n := (flits.filter fun f => !hopTakes f).length
    let before := ((s.cdie die).errors.filter fun e => decide (s.clk.now < e.2 + 1000000) && e.1 == link).length
    ∃ k, exec (.meshLinkSuspect die ⟨site, dir⟩ flits) s = .next k ∧ Counted s k (Reg.meshRetries die) n ∧
      (8 ≤ before + n → link ∈ (k.cdie die).suspect) ∧ (before + n < 8 → (k.cdie die).suspect = (s.cdie die).suspect) ∧
      ∀ x ∈ (s.cdie die).suspect, x ∈ (k.cdie die).suspect)

/-- R170-R174: a full-width slice whose failing positions stay within its 64 spares keeps its state; beyond them it goes to half width
where its first half serves, and where neither half does it is copied to a spare or has failed. A completed evacuation maps the slice to its spare, and the spare serves it. R178, R179: a store die that resets shows
state 0 until its clearing step is done; that step makes every line of its slices invalid and reading zero and leaves every other byte
as it was, and the die reloads; once its partner has reloaded it, it is operational. -/
def Obligations.StoreDiesSpareAndReset : Prop :=
  ((∀ (die : DieN) (slice : Fin 292) (positions : List (Fin 4608)) (repeats : Nat) (s : State), s.alive = true →
      let x := s.slice die slice
      let new := ((positions.map Fin.val).filter fun y => !decide (y ∈ x.failed)).eraseDups
      (s.getF (Reg.sdState die) = 1 ∨ s.getF (Reg.sdState die) = 2) → s.getF (Reg.sliceState die slice) = 0 → slice.val < 288 →
      x.copyTo = none →
      (x.failed.length + new.length ≤ 64 → ∃ k, exec (.sliceSpared die slice positions repeats) s = .next k ∧
        (k.slice die slice).failed = x.failed ++ new ∧ (k.slice die slice).copyTo = none ∧
        k.getF (Reg.sliceState die slice) = 0 ∧ k.mem = s.mem) ∧
      (64 < x.failed.length + new.length → halfFails (x.failed ++ new) 0 ≤ 64 →
        ∃ k, exec (.sliceSpared die slice positions repeats) s = .next k ∧ k.getF (Reg.sliceState die slice) = 1 ∧
          k.getF (Reg.sliceHalf die slice) = 0) ∧
      (64 < x.failed.length + new.length → 64 < halfFails (x.failed ++ new) 0 → 64 < halfFails (x.failed ++ new) 1 →
        ∃ k, exec (.sliceSpared die slice positions repeats) s = .next k ∧
          ((k.slice die slice).copyTo.isSome = true ∨ k.getF (Reg.sliceState die slice) = 3))) ∧
    (∀ (die : DieN) (slice : Fin 292) (spare : Nat) (s : State), s.alive = true →
      (s.slice die slice).copyTo = some spare → spare ≠ slice.val → spare < 292 →
      s.getF (Reg.sliceState die slice) ≠ 2 →
      ∃ k, exec (.sliceEvacuated die slice) s = .next k ∧ (k.slice die slice).copyTo = none ∧
        k.getF (Reg.sliceState die slice) = 2 ∧ k.getF (Reg.slicePartner die slice) = spare ∧
        k.getF (Reg.sliceState die spare) = 5 ∧ k.getF (Reg.slicePartner die spare) = slice.val ∧ k.mem = s.mem)) ∧
  ((∀ (die : DieN) (cause : Cause) (s : State), s.alive = true →
      (cause = .register → s.answers (Reg.cd die) = true) → (s.getF (Reg.sdState die) = 1 ∨ s.getF (Reg.sdState die) = 2) →
      ∃ k, exec (.sdReset die cause) s = .next k ∧ k.getF (Reg.sdState die) = 0 ∧ (k.sdie die).clearing = true ∧
        (k.sdie die).resetAt = s.clk.now) ∧
    (∀ (die : DieN) (s : State), s.alive = true → s.getF (Reg.sdState die) = 0 → (s.sdie die).clearing = true →
      s.getF (Reg.dieState die) ≠ 2 → s.getF (Reg.dieState die) ≠ 4 →
      let lo := 0xF000000000 + die.val * 0x90000000
      ∃ k, exec (.sdResetCleared die) s = .next k ∧ k.getF (Reg.sdState die) = 2 ∧ (k.sdie die).clearing = false ∧
        k.getF (Reg.sdResetCount die) = (s.getF (Reg.sdResetCount die) + 1) % 256 ∧
        ∀ a, (lo ≤ a → a < lo + 0x90000000 → k.rdByte a = 0 ∧ k.lineValid a = false ∧ k.lineMark a = 0) ∧
          ((a < lo ∨ lo + 0x90000000 ≤ a) → k.rdByte a = s.rdByte a ∧ k.lineValid a = s.lineValid a)) ∧
    (∀ (die : DieN) (s : State), s.alive = true → s.getF (Reg.sdState die) = 2 → s.getF (Reg.sdState (mirrorDie die)) ≠ 0 →
      (∀ p ∈ [2 * mirrorDie die, 2 * mirrorDie die + 1], ∀ q ∈ [2 * die.val, 2 * die.val + 1], (s.nextHop p q).isSome = true) →
      ∃ k, exec (.sdReloaded die) s = .next k ∧ k.getF (Reg.sdState die) = 1 ∧ k.mem = s.mem))

/-! ## Requests at their targets (R92, R150, R205, R265, R269, R278, R282) -/

/-- The state once the entry that a request's RACK_SEQ acknowledges is freed (R279). -/
def afterRack (s : State) (h : Nat) (r : Req) : State :=
  match r.rack with
  | some q => s.ackEntries h fun e => e.isTag r.srcNode.toNat r.srcUnit.toNat r.inc.toNat q.toNat
  | none => s

/-- A request of this package's present incarnation of its source (R194), or of another node, that is not past its DEADLINE
(R282). -/
def InTime (s : State) (r : Req) : Prop :=
  (s.isHere r.srcNode.toNat = true → r.inc.toNat = s.incOf r.srcUnit.toNat) ∧ s.clk.now ≤ r.deadline

/-- A request that its target's ledger admits (R282, R285): in time, not recorded before, no quarantine that stops it, its turn, and
room for its entry. -/
def Admitted (s : State) (h : Nat) (r : Req) : Prop :=
  InTime s r ∧ (afterRack s h r).findEntry h r = none ∧
  (r.retry = false ∨ ((afterRack s h r).ledger h).quarantineEnd ≤ s.clk.now) ∧
  ((afterRack s h r).ledger h).entries.length < ledgerCap h ∧ s.turnHeld h r = false

/-- R92, R205, R278: an admitted SIGNAL adds its amount, saturating at 2^48 − 1, and a counter set stores its value, at the hub that
serves the counter; the operation is recorded, every waiter that it satisfies is answered, and the acknowledgement waits for the mirror
while the partner can confirm. A request recorded before is answered from the ledger and not applied again, and while its first
acknowledgement waits for the mirror that one answers the copy too. R91, R205: a WAIT whose condition holds is answered at once with
the counter's value, and one whose condition does not is held; a mirror's confirmation stores the value in the mirror and releases the
acknowledgement. -/
def Obligations.SyncCountersAndWaits : Prop :=
  (∀ (hub : PortN) (r : Req) (s : State), s.alive = true →
      let p := hub.val
      let c := r.ga.toNat % 2 ^ 16
      let h := 0x1000 + p
      let applies := fun (i : Instr) (opc v : Nat) => reqMalformed r opc = false → wordOk r.ga = true → s.servesSync p r = true →
        (Admitted s h r → ∃ k, exec i s = .next k ∧ k.syncVal c = v ∧ (∀ c', c' ≠ c → k.syncVal c' = s.syncVal c') ∧
          (∃ e ∈ (k.ledger h).entries, e.hasTag r = true ∧ e.value = BitVec.ofNat 64 v ∧ e.status = 0) ∧
          (∀ w ∈ (s.hub p).waiters, w.counter = c → w.target ≤ v →
            (∃ a ∈ k.net.replies, a.srcUnit = BitVec.ofNat 16 w.unit ∧ a.seq = BitVec.ofNat 24 w.seq ∧
              a.value = BitVec.ofNat 64 v ∧ a.status = 0) ∧ w ∉ (k.hub p).waiters) ∧
          (s.getF (Reg.hubState (p ^^^ 1)) ≠ 1 → ∃ a ∈ k.net.replies, a.seq = r.seq ∧ a.status = 0 ∧ a.saturated = (v == 2 ^ 48 - 1)) ∧
          (s.getF (Reg.hubState (p ^^^ 1)) = 1 → ∃ x ∈ (k.hub p).unmirrored, x.counter = c ∧ x.value = v) ∧ k.mem = s.mem) ∧
        (∀ e, InTime s r → (afterRack s h r).findEntry h r = some e → ∃ k, exec i s = .next k ∧
          (∀ c', k.syncVal c' = s.syncVal c') ∧
          ((∀ u ∈ (s.hub p).unmirrored, ∀ x, u.reply = some x → x.seq ≠ r.seq) →
            ∃ a ∈ k.net.replies, a.seq = r.seq ∧ a.ledgerHit = true ∧ a.value = e.value) ∧
          ((∃ u ∈ (s.hub p).unmirrored, ∃ x, u.reply = some x ∧ x.srcUnit = r.srcUnit ∧ x.seq = r.seq ∧ x.inc = r.inc ∧
            x.srcNode = r.srcNode) → k.net.replies = s.net.replies))
      applies (.signalReq hub r) 0x18 (Min.min (2 ^ 48 - 1) (s.syncVal c + r.operand.toNat % 2 ^ 48)) ∧
      applies (.counterSetReq hub r) 0x19 (r.operand.toNat % 2 ^ 48)) ∧
  ((∀ (hub : PortN) (r : Req) (s : State), s.alive = true →
      let p := hub.val
      let c := r.ga.toNat % 2 ^ 16
      let target := r.operand.toNat % 2 ^ 48
      reqMalformed r 0x1A = false → wordOk r.ga = true → s.servesSync p r = true → InTime s r →
      (afterRack s (0x1000 + p) r).findEntry (0x1000 + p) r = none → s.turnHeld (0x1000 + p) r = false →
      (target ≤ s.syncVal c → ∃ k, exec (.waitReq hub r) s = .next k ∧ (∀ c', k.syncVal c' = s.syncVal c') ∧
        ∃ a ∈ k.net.replies, a.seq = r.seq ∧ a.srcUnit = r.srcUnit ∧ a.status = 0 ∧ a.value = BitVec.ofNat 64 (s.syncVal c)) ∧
      (s.syncVal c < target → s.syncVal c ≠ 2 ^ 48 - 1 → ∃ k, exec (.waitReq hub r) s = .next k ∧
        (∀ c', k.syncVal c' = s.syncVal c') ∧ k.net.replies = s.net.replies ∧
        ⟨r.srcNode.toNat, r.srcUnit.toNat, r.inc.toNat, r.seq.toNat, c, target⟩ ∈ (k.hub p).waiters)) ∧
    (∀ (c : BitVec 16) (s : State) (x : Unmirrored), s.alive = true →
      let p := s.actingHub (c.toNat / 4096)
      (s.hub p).unmirrored.find? (fun y => y.counter == c.toNat) = some x →
      ∃ k, exec (.syncMirrorConfirm c) s = .next k ∧ Tbl.look (fun _ => 0) k.fab.mirror c.toNat = x.value ∧
        (k.hub p).unmirrored = (s.hub p).unmirrored.erase x ∧
        k.net.replies = s.net.replies ++ (match x.reply with | some a => [a] | none => [])))

/-- A governed request of this node whose target is not held, admits it, holds its region entry and lets it pass (R57, R265, R266,
R282). -/
def Passes (s : State) (opc : Nat) (r : Req) : Prop :=
  let la := gaLa r.ga
  let h := s.laHolder la
  s.isHere (gaNode r.ga) = true ∧ laGoverned la = true ∧ reqMalformed r opc = false ∧ reqBadAddress r = 0 ∧ r.rack = none ∧
  s.laHeld la = false ∧ Admitted s h r ∧ granuleOf la ∈ s.rgnCached h ∧ regionCheck ((s.region (granuleOf la)).word s.clk.frame) r = 0

/-- R165, R269, R278: a STORE that passes its checks writes its lines, valid, to the slice, and no other byte, is recorded and answered
OK; a LOAD answers the slice's lines, invalid ones reading zero, and changes no byte. R167: a valid line that still fails is poisoned, and
its read answers POISONED. -/
def Obligations.SliceLoadsAndStores : Prop :=
  ∀ (r : Req) (s : State), s.alive = true →
    let la := gaLa r.ga
    let d := (la - 0xF000000000) / 0x90000000
    let p := (la - 0xF000000000) % 0x90000000 / 0x800000
    0xF000000000 ≤ la → la < 0xF480000000 → s.dieServes d = some 0 → s.getF (Reg.sdState d) ≠ 3 →
    s.getF (Reg.sliceState d p) ≠ 3 → s.sliceOpen d p = true →
    (r.opc = 2 → Passes s 2 r → ∃ k, exec (.storeReq r []) s = .next k ∧
      (∀ i j, i < r.lines → j < 64 → k.rdByte (la + 64 * i + j) = BitVec.ofNat 8 ((r.data.getD i 0).toNat / 2 ^ (8 * j)) ∧
        k.lineValid (la + 64 * i) = true ∧ k.lineMark (la + 64 * i) = 0) ∧
      (∀ a, (a < la ∨ la + 64 * r.lines ≤ a) → k.rdByte a = s.rdByte a) ∧
      (∃ e ∈ (k.ledger (s.laHolder la)).entries, e.hasTag r = true ∧ e.status = 0) ∧
      ∃ a ∈ k.net.replies, a.seq = r.seq ∧ a.srcUnit = r.srcUnit ∧ a.status = 0) ∧
    (∀ c i, Passes s 1 r → i < r.lines → s.lineValid (la + 64 * i) = true → ∃ k, exec (.loadReq r (.good 0) ⟨c, [i], []⟩) s = .next k ∧
      k.lineMark (la + 64 * i) = 0x40 ∧ (∀ a, k.rdByte a = s.rdByte a) ∧ ∃ a ∈ k.net.replies, a.seq = r.seq ∧ a.status = 0x40) ∧
    (∀ c, Passes s 1 r → (∀ i, i < r.lines → s.lineMark (la + 64 * i) = 0) → ∃ k, exec (.loadReq r (.good 0) ⟨c, [], []⟩) s = .next k ∧
      SameMemory s k ∧ ∃ a ∈ k.net.replies, a.seq = r.seq ∧ a.status = 0 ∧
        a.data = (List.range r.lines).map (fun i => some (if s.lineValid (la + 64 * i) = true then s.rdLine (la + 64 * i) else 0)))

/-- R150, R270, R302: an atomic that passes its checks on a valid, unmarked line that its stack's coalescer holds writes the new
value to its bytes, leaves every other byte as it was and answers the old value. -/
def Obligations.AtomicsReplaceTheirBytes : Prop :=
  ∀ (r : Req) (s : State), s.alive = true →
    let la := gaLa r.ga
    let k := la / 4096 % 12
    let q := la / 4096 / 12
    la < 0xF000000000 → s.getF (Reg.scState k) = 1 → s.getF (Reg.dieState (16 + k)) ≠ 5 → s.getF (Reg.vlinkWidth (16 + k)) ≠ 2 →
    (s.sc k).isCached q = true → (s.sc k).holds q (la / 64 % 64) 1 = true → s.canCoalesce k q = true →
    s.lineValid la = true → s.lineMark la = 0 →
    let old32 := BitVec.ofNat 32 (s.rdN la 4)
    let old := BitVec.ofNat 64 (s.rdN la 8)
    let o := r.operand
    let x := o.setWidth 32
    let gives := fun (i : Instr) (opc n new : Nat) => Passes s opc r → ∃ t, exec i s = .next t ∧ t.rdN la n = new ∧
      (∀ a, (a < la ∨ la + n ≤ a) → t.rdByte a = s.rdByte a) ∧
      (∃ a ∈ t.net.replies, a.seq = r.seq ∧ a.status = 0 ∧ a.value.toNat = s.rdN la n) ∧
      ∃ e ∈ (t.ledger (0x1100 + k)).entries, e.hasTag r = true
    gives (.fadd32Req r) 4 4 (old32 + x).toNat ∧ gives (.fadd64Req r) 5 8 (old + o).toNat ∧
    gives (.faddf32Req r) 6 4 (faddBits fmt32 old32.toNat x.toNat % 2 ^ 32) ∧
    gives (.faddbf2Req r) 7 4 ((faddBits fmtBf (old32.toNat % 2 ^ 16) (x.toNat % 2 ^ 16) +
      2 ^ 16 * faddBits fmtBf (old32.toNat / 2 ^ 16) (x.toNat / 2 ^ 16)) % 2 ^ 32) ∧
    gives (.swap64Req r) 8 8 o.toNat ∧ gives (.cas64Req r) 9 8 (if old = r.compare then o.toNat else old.toNat) ∧
    gives (.min64Req r) 10 8 (if o.toInt < old.toInt then o.toNat else old.toNat) ∧
    gives (.max64Req r) 11 8 (if old.toInt < o.toInt then o.toNat else old.toNat) ∧
    gives (.and64Req r) 12 8 (old &&& o).toNat ∧ gives (.or64Req r) 13 8 (old ||| o).toNat ∧
    gives (.xor64Req r) 14 8 (old ^^^ o).toNat

/-- R167, R176, R266-R268, R421: the hub that takes its die's lookups, while its store die is operational, serves the entries of its
own partition, and from the mirror those of the other die's while that die's memory is not operational, which it counts; a line that
cannot be read serves nothing and its entry stays poisoned; any other lookup changes nothing. A filled entry is the most recently used
of its target's cache, a poisoned one completes the requests that wait for it POISONED, and nothing arrives while no die serves the
lookup; an append adds the named entry to the staging list or sets OVERFLOW, unless a check runs; a clear empties the list; a fold puts
each staged word in force. -/
def Obligations.RegionTableCommands : Prop :=
  (∀ (hub : PortN) (g : GranuleN) (found : LineRead) (s : State), s.alive = true →
    let d := hub.val / 2
    let own := g.val % 8
    let mirror := own ≠ d ∧ (own + 4) % 8 = d ∧ s.getF (Reg.sdState own) ≠ 1
    let bad := lineBad found (entryOffset d g.val) 0 = true ∨ g.val ∈ (s.sdie d).badEntries
    (hub.val < 16 → s.getF (Reg.sdState d) = 1 → s.lookupHub hub = true → (own = d ∨ mirror) →
      (¬ bad → ∃ k w, exec (.regionEntryReq hub g found) s = .next k ∧
        k.net.entries = s.net.entries ++ [(hub.val, g.val, (s.region g.val).active, w)] ∧ k.regions = s.regions ∧
        (mirror → Counted s k (Reg.sdCnt d 5) 1)) ∧
      (bad → ∃ k, exec (.regionEntryReq hub g found) s = .next k ∧ k.net = s.net ∧ k.regions = s.regions ∧
        g.val ∈ (k.sdie d).badEntries ∧ Counted s k (Reg.sdCnt d 1) 1)) ∧
    ((16 ≤ hub.val ∨ s.getF (Reg.sdState d) ≠ 1 ∨ s.lookupHub hub = false ∨ (own ≠ d ∧ ¬ mirror)) →
      exec (.regionEntryReq hub g found) s = .next s)) ∧
  (∀ (h : BitVec 16) (g : GranuleN) (s : State), s.alive = true →
    let mine := s.fab.rgnWait.filter fun w => w.holder == h.toNat && w.granule == g.val
    (s.entryDie g = none → exec (.targetCacheFill h g) s = .next s) ∧
    (∀ d, s.entryDie g = some d →
      (g.val ∉ (s.sdie d).badEntries → (0x1000 ≤ h.toNat ∧ h.toNat < 0x1010 ∨ 0x1100 ≤ h.toNat ∧ h.toNat < 0x110C) → mine = [] →
        ∃ k, exec (.targetCacheFill h g) s = .next k ∧
          (k.rgnCached h.toNat).head? = some g.val ∧ k.fab.rgnWait = s.fab.rgnWait ∧ k.mem = s.mem) ∧
      (g.val ∈ (s.sdie d).badEntries → ∃ k, exec (.targetCacheFill h g) s = .next k ∧
        k.mem = s.mem ∧ (∀ w ∈ mine, w ∉ k.fab.rgnWait ∧ ∃ a ∈ k.net.replies, a.seq = w.req.seq ∧ a.status = 0x40)))) ∧
  (∀ (v : W32) (s : State), s.alive = true → s.answers Reg.hawkBase = true →
    (s.getF Reg.hawkState ≠ 1 → s.hawk.rgnStage.length < 4096 → ∃ k, exec (.rgnStageAppend v) s = .next k ∧
      k.hawk.rgnStage = s.hawk.rgnStage ++ [⟨s.getF Reg.rgnIdx, BitVec.ofNat 64 (s.getF Reg.rgnAttr + s.getF Reg.rgnKeyLo * 2 ^ 16 +
        v.toNat % 2 ^ 16 * 2 ^ 32)⟩] ∧ k.getF Reg.rgnCount = s.hawk.rgnStage.length + 1) ∧
    (s.getF Reg.hawkState ≠ 1 → 4096 ≤ s.hawk.rgnStage.length → ∃ k, exec (.rgnStageAppend v) s = .next k ∧
      k.hawk = s.hawk ∧ k.getF Reg.rgnOverflow = 1) ∧
    (s.getF Reg.hawkState = 1 → ∃ k, exec (.rgnStageAppend v) s = .next k ∧ k.hawk = s.hawk ∧ k.getF Reg.hawkWriteIgnored = 1) ∧
    (s.getF Reg.hawkState ≠ 1 → ∃ k, exec .rgnStageClear s = .next k ∧ k.hawk.rgnStage = [] ∧ k.getF Reg.rgnCount = 0)) ∧
  (∀ (s : State), s.alive = true → ∃ k, exec .regionFold s = .next k ∧ k.regs = s.regs ∧ k.mem = s.mem ∧
    ∀ g, (∀ e ∈ s.regions, e.1 = g → e.2 = s.region g) → k.region g =
      (if (s.region g).pending = true ∧ ((s.clk.frame : Int) - (s.region g).atFrame) % 2 ^ 16 < 2 ^ 15
       then { s.region g with active := (s.region g).staged, pending := false } else s.region g))

/-- R279, R281, R283, R284, R404: acknowledged and expired entries leave the ledger, but an acknowledged one of a control unit stays until
the latest DEADLINE that it has answered has passed; a quarantine ends when its time has come; a mover's request whose
window ends without a reply is sent again with RETRY, at most three times, and completes TIMEOUT once its DEADLINE has passed; one whose
first window ends while it has not left for want of a way to its target completes UNREACHABLE; a window toward a region that is stopped
for a memory-class change does not end. -/
def Obligations.LedgersAndReplyWindows : Prop :=
  (∀ (h srcNode srcUnit : BitVec 16) (inc : Byte) (seqs : List (BitVec 24)) (s : State), s.alive = true →
    1 ≤ seqs.length → seqs.length ≤ 58 →
    let listed := fun (e : LedgerEntry) => seqs.any fun q => e.isTag srcNode.toNat srcUnit.toNat inc.toNat q.toNat
    let held := fun (e : LedgerEntry) => e.control && decide (s.clk.now ≤ e.latest)
    ∃ k, exec (.replyAck h srcNode srcUnit inc seqs) s = .next k ∧ k.mem = s.mem ∧
      (k.ledger h.toNat).entries = ((s.ledger h.toNat).entries.filter fun e => !listed e || held e).map (fun e =>
        if listed e then { e with acked := true, expires := e.latest + 1 } else e)) ∧
  (∀ (h srcNode srcUnit : BitVec 16) (inc : Byte) (seq : BitVec 24) (s : State), s.alive = true →
    (∃ e ∈ (s.ledger h.toNat).entries, e.isTag srcNode.toNat srcUnit.toNat inc.toNat seq.toNat = true ∧ e.expires ≤ s.clk.now) →
    (∀ e ∈ (s.ledger h.toNat).entries, e.isTag srcNode.toNat srcUnit.toNat inc.toNat seq.toNat = true → e.acked = false) →
    ∃ k, exec (.ledgerEntryExpired h srcNode srcUnit inc seq) s = .next k ∧ Counted s k (Reg.ledgerCnt h.toNat 2) 1 ∧
      ∀ e ∈ (k.ledger h.toNat).entries, e ∈ (s.ledger h.toNat).entries ∧
        ¬ (e.isTag srcNode.toNat srcUnit.toNat inc.toNat seq.toNat = true ∧ e.expires ≤ s.clk.now)) ∧
  (∀ (h : BitVec 16) (s : State), s.alive = true → 0 < (s.ledger h.toNat).quarantineEnd →
    (s.ledger h.toNat).quarantineEnd ≤ s.clk.now → ∃ k, exec (.ledgerQuarantineEnd h) s = .next k ∧
      k.ledger h.toNat = ⟨(s.ledger h.toNat).entries, 0⟩ ∧ k.regs = s.regs) ∧
  (∀ (unit : BitVec 16) (seq : BitVec 24) (s : State) (m : MReq) (t0 : Nat), s.alive = true → unit.toNat < 0x1000 →
    let u := unit.toNat
    (s.tile u).mover.find? (fun m => m.seq == seq.toNat && m.state == .sent) = some m →
    let target := s.moverReq u m m.deadline
    let window := s.window (aimOf m.opc m.ga)
    let again := ∃ k r, exec (.requestWindowExpired unit seq) s = .next k ∧ r ∈ k.net.reqs ∧ r.retry = true ∧
      r.seq = BitVec.ofNat 24 m.seq ∧ r.deadline = m.deadline ∧ { m with retries := m.retries + 1 } ∈ (k.tile u).mover
    let completes := fun (status : Nat) => ∃ k, exec (.requestWindowExpired unit seq) s = .next k ∧
      (∀ x ∈ (k.tile u).mover, x.seq ≠ m.seq) ∧ (k.tile u).d m.dc = (s.tile u).d m.dc + 1 ∧
      (s.getF (Reg.faultCount (u / 512) (u % 512)) = 0 → k.getF (Reg.faultStatus (u / 512) (u % 512)) = status)
    m.deadline = t0 + 4 * window + 16000 →
    ((∃ x ∈ s.targetRegions target, x ∈ s.clk.stopped) → exec (.requestWindowExpired unit seq) s = .next s) ∧
    ((∀ x ∈ s.targetRegions target, x ∉ s.clk.stopped) →
    t0 + (m.retries + 1) * window + s.pausedSince target t0 ≤ s.clk.now →
    (m.retries = 0 → s.unreachable target = true → completes 0x31) ∧
    (m.retries < 3 → (m.retries = 0 → s.unreachable target = false) → again) ∧
    (3 ≤ m.retries → m.deadline < s.clk.now → completes 0x32)))

/-! ## Spokes, plaits, rim channels and hub resets (R207-R224) -/

/-- R207-R210: a spoke flit leaves for all its targets in one slot once each has credit; once its patience has ended, or its first flit
has left, the targets with credit get it and a KIND 3 copy is queued for each other one. A target stores a payload at BASE plus the
offset with the entry's key, once; a second arrival is counted and not stored, and an entry that is not valid refuses it. The operation
ends when every target has acknowledged every flit, and the hub then shows its status, that of the lowest target that did not complete
OK, and the mask of the targets that did. -/
def Obligations.SpokeOperations : Prop :=
  (∀ (hub : PortN) (op : Nat) (s : State) (o : SpokeOp), s.alive = true → (s.hub hub).spoke op = some o → o.sent < o.total →
    s.hubServes hub = true →
    let ready := s.spokeReady hub o.tc
    let waits := (portsOf o.targets).filter fun q => !ready q
    let sends := fun (i : Instr) => ∃ k o', exec i s = .next k ∧ (k.hub hub).spoke op = some o' ∧ o'.sent = o.sent + 1 ∧
      o'.acks = o.acks ∧ k.net.reqs.length + waits.length = s.net.reqs.length + (portsOf o.targets).length ∧
      (k.hub hub).copies.map (fun c => c.port) = (s.hub hub).copies.map (fun c => c.port) ++ waits ∧
      (∀ c ∈ (k.hub hub).copies.drop (s.hub hub).copies.length, flitKind c.flit = 3 ∧ flitDest c.flit = c.port) ∧
      Counted s k (Reg.hubCnt hub 11) waits.length ∧ k.mem = s.mem
    (waits = [] → sends (.spokeLaunch hub op)) ∧
    (waits ≠ [] → exec (.spokeLaunch hub op) s = .next s ∧
      ((o.sent ≠ 0 ∨ (o.since + s.getF (Reg.spokePatience hub) ≤ s.clk.now ∧ ∀ q ∈ portsOf o.targets, 0x1000 + q ∉ s.clk.stopped)) →
        sends (.spokeFollowup hub op)))) ∧
  (∀ (hub : PortN) (entry : Fin 1024) (i : Nat) (r : Req) (s : State) (src op : Nat), s.alive = true → s.hubServes hub = true →
    s.spokeOf r = some (src, op) →
    let key := (r.srcUnit.toNat, r.seq.toNat, i)
    let known := key ∈ (s.hub hub).arrivals ∨ s.spokeAcked src op hub i = true
    let refused := reqMalformed r 0x20 = true ∨ s.on (Reg.spkValid hub entry) = false
    (¬ known → ¬ refused → ∃ k e, exec (.spokeStoreReq hub entry i r) s = .next k ∧ k.engine = s.engine ++ [e] ∧
      (k.hub hub).arrivals = (s.hub hub).arrivals ++ [key] ∧ e.req.data = r.data ∧ e.req.opc = 0x20 ∧
      e.req.key = BitVec.ofNat 32 (s.getF (Reg.spkKey hub entry)) ∧
      e.req.ga.toNat % 2 ^ 48 = (s.getF (Reg.spkBaseLo hub entry) + s.getF (Reg.spkBaseHi hub entry) * 2 ^ 32 + r.ga.toNat) % 2 ^ 48) ∧
    (¬ known → refused → ∃ k, exec (.spokeStoreReq hub entry i r) s = .next k ∧ k.engine = s.engine ∧
      k.spokeAcked src op hub i = true ∧ k.mem = s.mem) ∧
    (known → ∃ k, exec (.spokeStoreReq hub entry i r) s = .next k ∧ k.engine = s.engine ∧
      (k.hub hub).arrivals = (s.hub hub).arrivals ∧ Counted s k (Reg.hubCnt hub 12) 1)) ∧
  (∀ (hub : PortN) (op : Nat) (s : State) (o : SpokeOp), s.alive = true → (s.hub hub).spoke op = some o → o.total ≤ o.sent →
    (∀ q ∈ portsOf o.targets, ∀ i, i < o.total → ∃ a ∈ o.acks, a.1 = q ∧ a.2.1 = i) →
    let codes := fun (q : Nat) => (List.range o.total).filterMap fun i =>
      (o.acks.find? fun a => a.1 == q && a.2.1 == i).map fun a => a.2.2
    let failing := (portsOf o.targets).filter fun q => (codes q).any (· != 0)
    ∃ k st, exec (.spokeOperationComplete hub op) s = .next k ∧ (k.hub hub).spoke op = none ∧ k.mem = s.mem ∧
      (k.hub hub).spokeEnd = some (op, st, (((portsOf o.targets).filter fun q => (codes q).all (· == 0)).map fun q => 2 ^ q).sum) ∧
      (failing = [] → st = 0) ∧ (∀ q rest, failing = q :: rest → (codes q).find? (· != 0) = some st))

/-- R213, R215, R216: a contribution to a group without a route is refused RANGE_FAULT; an admitted one of an armed group whose
patience lasts is applied once, counted, and completes the group when it is the last; one that repeats is answered OK and not applied;
one that comes late is answered PARTIAL and counted. An incomplete group whose patience has run out completes PARTIAL. After the stores
of its result are acknowledged the group stores its status, after those its counter is signalled by 1, and after that it is done. -/
def Obligations.PlaitGroups : Prop :=
  (∀ (hub : PortN) (r : Req) (s : State) (x : Plait) (port : Nat), s.alive = true →
    let p := hub.val
    let g := r.operand.toNat % 4096
    let c := r.operand.toNat / 2 ^ 16 % 2 ^ 16
    s.hubServes p = true →
    (s.route g = none → ∃ k, exec (.plaitContributionReq hub r) s = .next k ∧ k.fab.plaits = s.fab.plaits ∧
      ∃ a ∈ k.net.replies, a.seq = r.seq ∧ a.status = 0x12) ∧
    (reqMalformed r 0x10 = false → s.route g = some port → s.actingHub port = p →
    Tbl.look (fun _ => none) s.fab.forwarders g = none → s.plait g = some x → Admitted s (plaitHolder p) r → r.rack = none →
    ((x.completed = true ∨ s.plaitExpired x = true) → ∃ k, exec (.plaitContributionReq hub r) s = .next k ∧ k.plait g = some x ∧
      Counted s k (Reg.hubCnt hub 15) 1 ∧ ∃ a ∈ k.net.replies, a.seq = r.seq ∧ a.status = 3) ∧
    (x.completed = false → s.plaitExpired x = false →
    r.key = x.key → c < x.expect → r.lines = x.lines → r.operand.toNat / 2 ^ 12 % 16 = x.op →
    (x.bitmap.testBit c = false → x.count + 1 < x.expect → ∃ k y, exec (.plaitContributionReq hub r) s = .next k ∧ k.plait g = some y ∧
      y.count = x.count + 1 ∧ y.bitmap.testBit c = true ∧ y.completed = false ∧
      y.acc = List.zipWith (fun a l => some (plaitApply x.op a l)) x.acc r.data ∧
      ∃ a ∈ k.net.replies, a.seq = r.seq ∧ a.status = 0) ∧
    (x.bitmap.testBit c = false → x.count + 1 = x.expect → ∃ k y, exec (.plaitContributionReq hub r) s = .next k ∧ k.plait g = some y ∧
      y.completed = true ∧ y.status = 0 ∧ y.count = x.expect ∧ y.doneAt = s.clk.now) ∧
    (x.bitmap.testBit c = true → ∃ k, exec (.plaitContributionReq hub r) s = .next k ∧ k.plait g = some x ∧
      ∃ a ∈ k.net.replies, a.seq = r.seq ∧ a.status = 0)))) ∧
  (∀ (g : PlaitN) (s : State) (x : Plait), s.alive = true → s.plait g = some x → x.completed = false → x.patience ≠ 0 →
    x.patience ≤ (s.clk.frame + 2 ^ 48 - x.frame % 2 ^ 48) % 2 ^ 48 → ∃ k y, exec (.plaitPartial g) s = .next k ∧ k.plait g = some y ∧ y.completed = true ∧
      y.status = 1 ∧ y.count = x.count ∧ k.mem = s.mem) ∧
  (∀ (g : PlaitN) (s : State) (x : Plait), s.alive = true → s.plait g = some x → x.completed = true →
    (∀ e ∈ s.engine, (∃ result, e.purpose = .plaitStore g result) ∨ e.purpose = .plaitSignal g → (s.answered e).isSome = true) →
    (x.phase = 1 → (∀ p < 32, ∀ o ∈ (s.hub p).spokes, o.group ≠ some g) → ∃ k y e, exec (.plaitResultAcked g) s = .next k ∧
      k.plait g = some y ∧ y.phase = 2 ∧ e ∈ k.engine ∧ e.purpose = .plaitStore g false ∧ e.req.opc = 2 ∧ e.req.ga = x.statusGa ∧
      e.req.data.head? = some y.statusLine) ∧
    (x.phase = 2 → ∃ k y e, exec (.plaitResultAcked g) s = .next k ∧ k.plait g = some y ∧ y.phase = 3 ∧
      e ∈ k.engine ∧ e.req.opc = 0x18 ∧ e.req.ga = x.counter ∧ e.req.operand = 1) ∧
    (x.phase = 3 → ∃ k y, exec (.plaitResultAcked g) s = .next k ∧ k.plait g = some y ∧ y.phase = 4))

/-- R219, R220, R381: an arrival of the hub's generation is counted and its participant waits; once the hub holds the completion of
every counting set it releases its participants and flips the generation; a forwarded flag value takes the larger and releases the
waits that it satisfies, and so does one of another node that an I/O hub of a channel across nodes admits. -/
def Obligations.RimChannels : Prop :=
  (∀ (hub : PortN) (ch : ChanN) (gen : Bool) (s : State) (a : Nat × Nat × Bool), s.alive = true → s.hubUp hub = true →
    s.rimHere hub ch = true → gen = s.on (Reg.rimGen hub ch) → (s.chan hub ch).inbox.find? (fun a => a.2.2 == gen) = some a →
    s.getF (Reg.rimArrived hub ch) < 511 → ∃ k, exec (.rimArrival hub ch gen) s = .next k ∧
      k.getF (Reg.rimArrived hub ch) = s.getF (Reg.rimArrived hub ch) + 1 ∧
      (k.chan hub ch).waiting = (s.chan hub ch).waiting ++ [(a.1, a.2.1)] ∧ k.on (Reg.rimGen hub ch) = gen) ∧
  (∀ (hub : PortN) (ch : ChanN) (src : PortN) (s : State), s.alive = true → s.hubUp hub = true →
    (src.val, s.on (Reg.rimGen hub ch)) ∈ (s.chan hub ch).compIn →
    let all := ∀ q ∈ portsOf (s.getF (Reg.rimMask hub ch)), setOf q = setOf src ∨ setOf q ∈ (s.chan hub ch).comps
    (all → ∃ k, exec (.rimCompletion hub ch src) s = .next k ∧ k.on (Reg.rimGen hub ch) = !s.on (Reg.rimGen hub ch) ∧
      k.getF (Reg.rimArrived hub ch) = 0 ∧ (k.chan hub ch).waiting = [] ∧
      ∀ w ∈ (s.chan hub ch).waiting, ∃ a ∈ k.net.replies, a.srcUnit = BitVec.ofNat 16 w.1 ∧ a.seq = BitVec.ofNat 24 w.2 ∧ a.status = 0) ∧
    (¬ all → ∃ k, exec (.rimCompletion hub ch src) s = .next k ∧ k.regs = s.regs ∧
      (k.chan hub ch).waiting = (s.chan hub ch).waiting ∧ setOf src ∈ (k.chan hub ch).comps)) ∧
  (∀ (hub : PortN) (ch : ChanN) (value : W32) (tag : Option NodeTag) (s : State), s.alive = true → s.hubUp hub = true →
    s.rimHere hub ch = true →
    (tag = none → ∃ q o, q < 32 ∧ o ∈ (s.hub q).sets ∧ o.ch = ch.val ∧ o.value = value ∧ hub.val ∈ o.remaining) →
    (∀ x, tag = some x → 28 ≤ hub.val ∧ s.on (Reg.rimNodesValid ch) = true ∧ s.isHere x.node.toNat = false ∧
      Admitted s (0x1200 + (hub.val - 28) / 2) (s.nodeReq ch x)) →
    let v := Max.max value.toNat (s.getF (Reg.rimFlag hub ch))
    ∃ k, exec (.rimFlagUpdate hub ch ⟨value, tag⟩) s = .next k ∧ k.getF (Reg.rimFlag hub ch) = v ∧
      ∀ w ∈ (s.chan hub ch).flagWait, (w.2.2 ≤ v → w ∉ (k.chan hub ch).flagWait ∧
          ∃ a ∈ k.net.replies, a.srcUnit = BitVec.ofNat 16 w.1 ∧ a.seq = BitVec.ofNat 24 w.2.1) ∧
        (v < w.2.2 → w ∈ (k.chan hub ch).flagWait))

/-- R206, R222-R224: a hub that resets drops what it held, counts the reset, and an operational partner, unless it served them
already, serves its counters from the mirrored values; a compute hub copies its partner's state and resumes at a frame tick, a stack or
I/O hub as soon as it has retrained. -/
def Obligations.HubResets : Prop :=
  (∀ (hub : PortN) (cause : Cause) (s : State), s.alive = true → (cause = .register → s.answers (Reg.hub hub) = true) →
    (s.getF (Reg.hubState hub) = 1 ∨ s.getF (Reg.hubState hub) = 2) → ∃ k, exec (.hubReset hub cause) s = .next k ∧
      k.getF (Reg.hubState hub) = 0 ∧ k.getF (Reg.hubResetCount hub) = (s.getF (Reg.hubResetCount hub) + 1) % 256 ∧
      (k.hub hub).accepted = [] ∧ (k.hub hub).resetAt = s.clk.now ∧
      (hub.val < 16 → s.getF (Reg.hubState (hub.val ^^^ 1)) = 1 → s.on (Reg.ownByMirror hub) = false →
        ∀ c, (4096 * hub.val ≤ c → c < 4096 * hub.val + 4096 → k.syncVal c = Tbl.look (fun _ => 0) s.fab.mirror c) ∧
          ((c < 4096 * hub.val ∨ 4096 * hub.val + 4096 ≤ c) → k.syncVal c = s.syncVal c))) ∧
  (∀ (hub : PortN) (s : State), s.alive = true → hub.val < 16 → (s.getF (Reg.hubState hub) = 0 ∨ s.getF (Reg.hubState hub) = 2) →
    (s.hub hub).copied = false → 3 ≤ s.getF Reg.glbPhase →
    ∃ k, exec (.hubStateCopied hub) s = .next k ∧ k.getF (Reg.hubState hub) = 2 ∧ (k.hub hub).copied = true ∧
      (∀ c, 8192 * (hub.val / 2) ≤ c → c < 8192 * (hub.val / 2) + 8192 → Tbl.look (fun _ => 0) k.fab.mirror c = s.syncVal c) ∧
      k.mem = s.mem) ∧
  (∀ (hub : PortN) (s : State), s.alive = true → 3 ≤ s.getF Reg.glbPhase →
    (if hub.val < 16 then s.getF (Reg.hubState hub) = 2 ∧ (s.hub hub).copied = true ∧ s.clk.now = s.clk.tick
     else s.getF (Reg.hubState hub) = 0) →
    ∃ k, exec (.hubRestored hub) s = .next k ∧ k.getF (Reg.hubState hub) = 1 ∧ k.getF (Reg.hubCtrlReset hub) = 0 ∧ k.mem = s.mem)

/-! ## Stacks (R300-R317) -/

/-- R300, R302, R304, R310, R312: a page read without an uncorrectable error ends its fetch and changes no byte, and an uncorrectable
one ends it too and reads valid, zero and marked but for the lines stored meanwhile; a commit makes the snapshot's lines the medium's
and its ledger entries durable; a gap move moves the gap of a bank group by one slot after 256 writes; a power failure shows STATE 2,
and its completion, with every channel working, leaves no page queued and a CLEAN record; its release resumes service with a record
that is not CLEAN. -/
def Obligations.StackPagesAreFetchedAndCommitted : Prop :=
  (∀ (k : StackN) (page stored : Nat) (res : SlotRead) (s : State), s.alive = true →
    (s.sc k).fetching.find? (fun f => f.1 == page) = some (page, stored) →
    (∀ n, slotShown res = .good n → ∃ t, exec (.pageFetchDone k page res) s = .next t ∧ (t.sc k).isFetching page = false ∧
      SameMemory s t) ∧
    (slotShown res = .uncorrectable → page < 20971520 → ∃ t, exec (.pageFetchDone k page res) s = .next t ∧
      (t.sc k).isFetching page = false ∧ ∀ i : Fin 64,
        let la := (12 * page + k) * 4096 + 64 * i.val
        (stored.testBit i = false → t.rdLine la = 0 ∧ t.lineValid la = true ∧ (t.lineMark la = 0x40 ∨ t.lineMark la = 0x41)) ∧
        (stored.testBit i = true → t.rdLine la = s.rdLine la ∧ t.lineValid la = s.lineValid la ∧ t.lineMark la = s.lineMark la))) ∧
  (∀ (k : StackN) (page : Nat) (s : State) (m : Commit), s.chanFailed k page = false →
    (s.sc k).commits.find? (fun m => m.page == page) = some m → m.lines.length = 64 →
    ∃ t, exec (.commitDone k page) s = .next t ∧ (t.sc k).commits = ((s.sc k).commits.erase m).map m.shares ∧ SameMemory s t ∧
      (∀ i j, i < 64 → j < 64 → Tbl.look memD t.mem.medium ((12 * page + k) * 4096 + 64 * i + j) =
        BitVec.ofNat 8 ((m.lines.getD i (0, false, 0)).1.toNat / 2 ^ (8 * j))) ∧
      (∀ e ∈ (t.ledger (0x1100 + k.val)).entries, e.tag ∈ m.entries → e.durable = true) ∧
      Counted s t (Reg.scCnt k 1) 1) ∧
  (∀ (k : StackN) (b : Fin 1024) (s : State), s.alive = true → 256 ≤ ((s.sc k).group b).writes → s.getF (Reg.scState k) = 1 →
    let g := (s.sc k).group b
    ∃ t, exec (.gapMove k b) s = .next t ∧ SameMemory s t ∧ ((t.sc k).group b).writes = g.writes - 256 ∧
      (g.gap ≠ 0 → ((t.sc k).group b).gap = g.gap - 1 ∧ ((t.sc k).group b).start = g.start) ∧
      (g.gap = 0 → ((t.sc k).group b).gap = 20481 ∧ ((t.sc k).group b).start = (g.start + 1) % 20481)) ∧
  (∀ (k : StackN) (s : State), s.alive = true → s.getF (Reg.scState k) = 1 → ∃ t, exec (.pwrfailFlush k) s = .next t ∧
    t.getF (Reg.scState k) = 2 ∧ t.pins.pwrfailN = false ∧ SameMemory s t) ∧
  (∀ (k : StackN) (s : State) (began : Nat), s.getF (Reg.scState k) = 2 → (s.sc k).flushAt = some began →
    (∀ q, s.chanFailed k q = false) → (s.sc k).dirty = [] →
    ∃ t r, exec (.pwrfailFlushDone k) s = .next t ∧ (t.sc k).commits = [] ∧ (t.sc k).flushAt = none ∧ SameMemory s t ∧
      ((t.sc k).recA = some r ∨ (t.sc k).recB = some r) ∧ r.clean = true ∧
      r.seq = Max.max (recSeq (s.sc k).recA) (recSeq (s.sc k).recB) + 1) ∧
  (∀ (k : StackN) (s : State), s.alive = true → s.getF (Reg.scState k) = 2 → ∃ t r, exec (.pwrfailRelease k) s = .next t ∧
    t.getF (Reg.scState k) = 1 ∧ t.pins.pwrfailN = true ∧ ((t.sc k).recA = some r ∨ (t.sc k).recB = some r) ∧ r.clean = false ∧
    r.seq = Max.max (recSeq (s.sc k).recA) (recSeq (s.sc k).recB) + 1)

/-- R295, R306, R307, R313-R317: once eight failed transfers within 1 ms are traced to a signal, a spare replaces it, then half width,
then failure; before that nothing changes. A skim visit of the slot whose turn it is takes one of the quota and counts, and one of the
verify pass advances it; a controller powers up with its verify pass active and a record that is not CLEAN, and the pass, once it has
visited every slot, is done. A reset holds service until it is done, poisons the cached lines that it has lost, and is followed by the
flush that PWRFAIL_N asks for; one that discards first queues every dirty page; the third within 1 s fails the controller. -/
def Obligations.StackControllersRecover : Prop :=
  (∀ (k : StackN) (ch : Fin 128) (signal : Fin 17) (lanes : List Bool) (s : State), s.alive = true →
    let st := s.getF (Reg.chanState k ch)
    let used := s.getF (Reg.chanSpares k ch)
    let healthy := fun (i : Nat) => lanes.getD i false = true ∧ ¬ (st = 1 ∧ s.getF (Reg.chanHalf k ch) = i)
    let gives := fun (more : State → Prop) => ∃ t, exec (.channelSpared k ch signal lanes) s = .next t ∧ more t
    (s.signalFails k ch signal < 8 → exec (.channelSpared k ch signal lanes) s = .next s) ∧
    (8 ≤ s.signalFails k ch signal →
      (st = 0 → used < 2 → gives fun t => t.getF (Reg.chanState k ch) = 0 ∧ t.getF (Reg.chanSpares k ch) = used + 1) ∧
      (st ≠ 2 → (st ≠ 0 ∨ 2 ≤ used) →
        (healthy 0 → gives fun t => t.getF (Reg.chanState k ch) = 1 ∧ t.getF (Reg.chanHalf k ch) = 0 ∧
          (t.getF Reg.degraded).testBit 5 = true) ∧
        (¬ healthy 0 → healthy 1 → gives fun t => t.getF (Reg.chanState k ch) = 1 ∧ t.getF (Reg.chanHalf k ch) = 1 ∧
          (t.getF Reg.degraded).testBit 5 = true) ∧
        (¬ healthy 0 → ¬ healthy 1 → gives fun t => t.getF (Reg.chanState k ch) = 2 ∧ (t.getF Reg.degraded).testBit 5 = true)))) ∧
  (∀ (k : StackN) (page hard : Nat) (res : SlotRead) (s : State), s.alive = true → s.getF (Reg.scState k) = 1 → page < slotCount →
    (0 < (s.sc k).quota → s.visitKey k page = passKey k (s.sc k).visits → ∃ t, exec (.skimVisit k .skim page res hard) s = .next t ∧
      (t.sc k).quota = (s.sc k).quota - 1 ∧ page ∉ (t.sc k).early ∧ Counted s t (Reg.scCnt k 7) 1 ∧
      (t.sc k).visits = (if (s.sc k).visits + 1 = slotCount then 0 else (s.sc k).visits + 1) ∧
      (∀ n, slotShown res = .good n → (s.sc k).isDirty page = true → t.mem = s.mem)) ∧
    (s.on (Reg.scVerifyActive k) = true → s.visitKey k page = passKey k (s.sc k).verified →
      ∃ t, exec (.skimVisit k .verify page res hard) s = .next t ∧ (t.sc k).verified = (s.sc k).verified + 1 ∧
        t.getF (Reg.scVerify k) = Min.min 100 (((s.sc k).verified + 1) * 100 / slotCount) ∧ Counted s t (Reg.scCnt k 7) 1)) ∧
  (∀ (k : StackN) (s : State), s.alive = true → s.on (Reg.scVerifyActive k) = true → slotCount ≤ (s.sc k).verified →
    ∃ t, exec (.verifyDone k ((s.clk.now - (s.sc k).verifyAt) / 1000000000)) s = .next t ∧ t.on (Reg.scVerifyActive k) = false ∧ t.getF (Reg.scVerify k) = 100) ∧
  (∀ (k : StackN) (scan : Nat) (s : State), s.alive = true → s.getF (Reg.scState k) = 0 → s.getF (Reg.dieState (16 + k.val)) ≠ 1 →
    s.on (Reg.identHeldOut (16 + k.val)) = false → ∃ t r, exec (.scPowerUp k scan) s = .next t ∧ t.getF (Reg.scState k) = 1 ∧
      t.on (Reg.scVerifyActive k) = true ∧ t.getF (Reg.scVerify k) = 0 ∧ t.getF (Reg.dieState (16 + k.val)) = 1 ∧
      ((t.sc k).recA = some r ∨ (t.sc k).recB = some r) ∧ r.clean = false ∧ SameMemory s t) ∧
  (∀ (k : StackN) (cause : Cause) (s : State), s.alive = true →
    (cause = .register → s.answers (Reg.sc k) = true ∧ s.on (Reg.scDiscard k) = false) →
    (s.getF (Reg.scState k) = 1 ∨ s.getF (Reg.scState k) = 2) → s.on (Reg.identHeldOut (16 + k.val)) = false →
    let recent := (s.sc k).resets.filter (fun t => decide (s.clk.now < t + 1000000000))
    (recent.length < 2 → ∃ t, exec (.scReset k cause) s = .next t ∧ t.getF (Reg.scState k) = 0 ∧ t.on (Reg.scCtrlReset k) = true ∧
      t.mem = s.mem ∧ (t.sc k).dirty = (s.sc k).dirty) ∧
    (2 ≤ recent.length → ∃ t, exec (.scReset k cause) s = .next t ∧ t.getF (Reg.scState k) = 3 ∧
      (t.getF Reg.degraded).testBit 10 = true)) ∧
  (∀ (k : StackN) (s : State), s.alive = true → s.answers (Reg.sc k) = true → s.on (Reg.scDiscard k) = true →
    s.getF (Reg.scState k) = 1 → s.on (Reg.identHeldOut (16 + k.val)) = false → (s.sc k).resets = [] →
    ∃ t, exec (.scDiscardReset k) s = .next t ∧ t.getF (Reg.scState k) = 0 ∧ (t.sc k).cause = 3 ∧ (t.sc k).dirty = [] ∧ SameMemory s t) ∧
  (∀ (k : StackN) (lost : List (Nat × Fin 64)) (s : State), s.alive = true → s.getF (Reg.scState k) = 0 →
    s.on (Reg.scCtrlReset k) = true → ∃ t, exec (.scResetDone k lost) s = .next t ∧ t.on (Reg.scCtrlReset k) = false ∧
      t.getF (Reg.scResetCount k) = (s.getF (Reg.scResetCount k) + 1) % 256 ∧
      t.getF (Reg.dieInc (16 + k.val)) = (s.getF (Reg.dieInc (16 + k.val)) + 1) % 256 ∧
      (∀ a, t.rdByte a = s.rdByte a) ∧
      (∀ q i, (q, i) ∈ lost → q < 20971520 → (s.sc k).isCached q = true → s.lineValid ((12 * q + k) * 4096 + 64 * i.val) = true →
        t.lineMark ((12 * q + k) * 4096 + 64 * i.val) = 0x40) ∧
      (s.pins.pwrfailN = false → t.getF (Reg.scState k) = 2) ∧
      (s.pins.pwrfailN = true → t.getF (Reg.scState k) = 1 ∧
        ((s.sc k).cause ≠ 3 → (t.ledger (0x1100 + k.val)) = s.ledger (0x1100 + k.val)) ∧
        ((s.sc k).cause = 3 → (t.ledger (0x1100 + k.val)).entries = [])))

/-! ## Power, bring-up, registers (R38, R45, R62, R410, R418-R421, R431-R434, R472) -/

/-- R45, R312, R410, R431-R433: a feed in range powers the part up in the phase that it shows; the master starts in phase 1; each phase
ends into the next, phase 3 with a compute die that passes its self-test, phase 5 only once the restore gate has opened, phase 8 with a
pair of an I/O hub, and phase 9, once every stack is settled, makes the part ready; without them, and without a master, bring-up fails
with its cause; PROCEED and the timeout open the gate without a restore; the loss of both feeds stops every unit and leaves the media,
the fuses and the queue. -/
def Obligations.BringUpRunsInPhases : Prop :=
  (∀ (a b : Bool) (s : State), s.pins.feedA = false → s.pins.feedB = false → (a || b) = true → ∃ t, exec (.powerUp a b) s = .next t ∧
    t.pins.feedA = a ∧ t.pins.feedB = b ∧ t.pins.pwrfailN = true ∧ t.getF Reg.glbPhase = s.getF Reg.glbPhase ∧ t.mem = s.mem) ∧
  (∀ s : State, s.alive = true → s.clk.running = false → s.getF Reg.glbPhase = 1 → ∃ t, exec .stakeMasterStart s = .next t ∧
    t.clk.running = true ∧ t.clk.now = 0 ∧ t.clk.frame = 0 ∧ t.clk.tick = 0 ∧ t.clk.lapDue = true ∧ t.on Reg.refOk = true) ∧
  (∀ (r : PhaseReport) (s : State), s.alive = true →
    let ends := fun (p : Nat) (more : State → Prop) => ∃ t, exec (.bringupPhaseDone r) s = .next t ∧ t.getF Reg.glbPhase = p ∧ more t
    let total := fun (t : State) => t.getF Reg.glbTotalMs = Min.min 65535 (s.getF Reg.glbTotalMs + r.ms)
    (s.getF Reg.glbPhase = 0 → s.identBad r 32 = false → ends 1 total) ∧
    (s.getF Reg.glbPhase = 1 → r.mastersFailed = true → ends 15 fun t => t.getF Reg.glbFailCause = 3) ∧
    (s.getF Reg.glbPhase = 1 → r.mastersFailed = false → s.clk.running = true → ends 2 total) ∧
    (s.getF Reg.glbPhase = 2 → ends 3 total) ∧
    (s.getF Reg.glbPhase = 3 →
      let passes := ∃ d : DieN, s.getF (Reg.dieState d) ≠ 5 ∧ d ∉ r.failedDies
      (passes → ends 4 total) ∧ (¬ passes → ends 15 fun t => t.getF Reg.glbFailCause = 1)) ∧
    (s.getF Reg.glbPhase = 4 → ends 5 fun t => total t ∧ t.on Reg.glbGateWaiting = s.on Reg.restoreOpen ∧
      ∀ p : PortN, t.getF (Reg.hubState p) = if s.getF (Reg.hubState p) = 3 then 3 else 1) ∧
    (s.getF Reg.glbPhase = 6 → ends 7 total) ∧
    (s.getF Reg.glbPhase = 7 → ends 8 total) ∧
    (s.getF Reg.glbPhase = 8 →
      (r.noPair = false → (s.phasePairs r).ioPaired = true → ends 9 total) ∧
      ((r.noPair = true ∨ (s.phasePairs r).ioPaired = false) → ends 15 fun t => t.getF Reg.glbFailCause = 2)) ∧
    (s.getF Reg.glbPhase = 5 → s.on Reg.restoreOpen = true → exec (.bringupPhaseDone r) s = .next s) ∧
    (s.getF Reg.glbPhase = 5 → s.on Reg.restoreOpen = false → ends 6 fun t =>
      t.getF Reg.glbGateMs = Min.min 65535 (s.getF Reg.glbGateMs + r.ms)) ∧
    (s.getF Reg.glbPhase = 9 →
      (∀ k : StackN, s.on (Reg.identHeldOut (16 + k.val)) = true ∨ s.getF (Reg.scState k) = 1 ∨ s.getF (Reg.scState k) = 3 ∨
        k ∈ r.failedStacks) → ends 10 fun t => t.on Reg.glbReady = true ∧ t.getF Reg.fabric = 2) ∧
    (10 ≤ s.getF Reg.glbPhase → exec (.bringupPhaseDone r) s = .next s)) ∧
  (∀ s : State, s.alive = true →
    let opens := fun (i : Instr) => ∃ t, exec i s = .next t ∧ t.on Reg.restoreOpen = false ∧ t.on Reg.glbGateWaiting = false ∧
      t.on Reg.glbWarm = false ∧ t.light = s.light
    (s.getF Reg.glbPhase = 5 → s.on Reg.restoreOpen = true → opens .proceed) ∧
    (s.on Reg.glbGateWaiting = true → s.clk.gateAt + 1000000000 ≤ s.clk.now → opens .restoreGateTimeout)) ∧
  (∀ s : State, (s.pins.feedA || s.pins.feedB) = true → ∃ t, exec .powerDown s = .next t ∧ t.alive = false ∧
    t.regs = [] ∧ t.mem.bytes = s.mem.medium ∧ t.mem.valid = s.mem.medValid ∧ t.tiles = [] ∧ t.clk = Clk.reset ∧
    t.sec.fuses = s.sec.fuses ∧ t.pending = s.pending)

/-- The registers whose write has no effect but on their own bits: those of GLB, STK, HLTH, SEC, PWR and the hubs that no other rule
gives a behaviour (R419-R421). -/
def BitsOnly (a : Nat) : Prop :=
  (a < 0x10000 ∧ a ≠ 0x14 ∧ a ≠ 0x1C) ∨ (0x20000 ≤ a ∧ a < 0x30000) ∨
  (0x40000 ≤ a ∧ a < 0x50000 ∧ a ≠ 0x40004 ∧ a ≠ 0x4000C ∧ (a < 0x40100 ∨ 0x40178 ≤ a)) ∨
  (0x50000 ≤ a ∧ a < 0x60000 ∧ a ≠ 0x50004) ∨ (0x60000 ≤ a ∧ a < 0x70000) ∨
  (0x2000000 ≤ a ∧ a < 0x2200000 ∧ a % 0x10000 ≠ 4)

/-- R15, R33, R62, R325, R419-R421, R472: a write that its block answers changes, of a register that acts on its own bits alone, the RW
bits and clears the W1C bits written as 1, and no other register; one of RWH bits changes their staged value alone, or, while the hawk
checks, nothing but WRITE_IGNORED; one of a register that stands for a command acts as that command; a misaligned write, or one that no
block answers, has no effect. A read by the host changes no register but REMAIN of STK_SLEW; one of a low word latches its high word, one
of a high word answers the latched bits with those read live; one that no block answers reads zero, and one that is misaligned or that no
port carries has no effect. SMBus reads by latches of its own. -/
def Obligations.RegisterAccesses : Prop :=
  (∀ (addr : BitVec 26) (v : W32) (s : State), s.alive = true →
    let a := addr.toNat
    let bits := fun (n : Nat) => BitVec.ofNat 32 n
    (a % 4 ≠ 0 ∨ s.answers a = false → exec (.registerWrite addr v) s = .next s) ∧
    (a % 4 = 0 → s.answers a = true →
      (BitsOnly a → (regDesc a).rwh = 0 → ∃ t, exec (.registerWrite addr v) s = .next t ∧
        t.getR a = (s.getR a &&& ~~~bits (regDesc a).rw &&& ~~~(v &&& bits (regDesc a).w1c)) ||| (v &&& bits (regDesc a).rw) ∧
        (∀ x, x ≠ a → t.getR x = s.getR x) ∧ t.hawk = s.hawk ∧ t.mem = s.mem) ∧
      (BitsOnly a → (regDesc a).rwh ≠ 0 → (regDesc a).rw = 0 → (regDesc a).w1c = 0 → ∃ t, exec (.registerWrite addr v) s = .next t ∧
        t.mem = s.mem ∧ (s.getF Reg.hawkState ≠ 1 → t.regs = s.regs ∧ t.getStaged a = v &&& rwhMask a) ∧
        (s.getF Reg.hawkState = 1 → t.hawk = s.hawk ∧ t.on Reg.hawkWriteIgnored = true)) ∧
      (a = 0x14 → v.getLsbD 0 = true → exec (.registerWrite addr v) s = exec .proceed s) ∧
      (a = 0x18008 → exec (.registerWrite addr v) s = exec (.rgnStageAppend v) s) ∧
      (∀ p : PortN, a = Reg.hub p + 4 → v.getLsbD 0 = true → exec (.registerWrite addr v) s = exec (.hubReset p .register) s) ∧
      (∀ l : LaserN, a = 0x3020000 + 16 * l.val + 4 → exec (.registerWrite addr v) s = exec (.lsrTargetWrite l v) s))) ∧
  (∀ (addr : BitVec 26) (s : State), s.alive = true →
    let a := addr.toNat
    let h := regHome a
    let hi := if h = 4 then 8 else h + 4
    (a % 4 ≠ 0 ∨ s.hostReaches = false → exec (.loRegisterRead addr) s = .next s) ∧
    (a % 4 = 0 → s.hostReaches = true → ∃ t, exec (.loRegisterRead addr) s = .next t ∧ t.mem = s.mem ∧ t.smbLatch = s.smbLatch ∧
      (a ≠ Reg.slewRemain.addr → t.regs = s.regs) ∧
      (s.readable a = false → t.readData = 0 ∧ t.hostLatch = s.hostLatch) ∧
      (s.readable a = true → isHi h = false → t.readData = s.readWord h ∧
        (isLo h = true → Tbl.look (fun _ => 0) t.hostLatch hi = s.readWord hi)) ∧
      (s.readable a = true → isHi h = true → t.hostLatch = s.hostLatch ∧
        t.readData = (Tbl.look (fun _ => 0) s.hostLatch h &&& ~~~liveHi h) ||| (s.readWord h &&& liveHi h)))) ∧
  (∀ s u : State, s.alive = true → u.alive = true → s.hostReaches = true → u.hostReaches = true →
    ∃ t, exec (.loRegisterRead 0x20000) s = .next t ∧ t.readData = BitVec.ofNat 32 s.clk.now ∧
      (u.hostLatch = t.hostLatch → ∃ w, exec (.loRegisterRead 0x20004) u = .next w ∧ w.readData = BitVec.ofNat 32 (s.clk.now / 2 ^ 32))) ∧
  (∀ (block : List Byte) (ok : Bool) (s : State), (s.pins.feedA || s.pins.feedB) = true →
    let a := natOfBytes block
    (block.length ≠ 4 ∨ ok = false → ∃ t, exec (.smbusRead block ok) s = .next t ∧ t.smbData = [] ∧ t.regs = s.regs) ∧
    (block.length = 4 → ok = true → ∃ t, exec (.smbusRead block ok) s = .next t ∧ t.hostLatch = s.hostLatch ∧ t.mem = s.mem ∧
      (a ≠ Reg.slewRemain.addr → t.regs = s.regs) ∧
      (s.smbServes a = false → t.smbData = [0, 0, 0, 0] ∧ t.smbLatch = s.smbLatch) ∧
      (s.smbServes a = true → isHi (regHome a) = false → t.smbData = bytesOfNat 4 (s.readWord (regHome a)).toNat) ∧
      (s.smbServes a = true → isHi (regHome a) = true → t.smbData = bytesOfNat 4
        ((Tbl.look (fun _ => 0) s.smbLatch (regHome a) &&& ~~~liveHi (regHome a)) ||| (s.readWord (regHome a) &&& liveHi (regHome a))).toNat)))

/-! ## Stake time (R39-R59, R388) -/

/-- R39-R51, R66, R266, R388: a tick begins the next frame and empties the target caches; the lap instant follows it by LAP_OFFSET; the second
generator takes over from the first, and with its failure every unit stops and the stacks flush; the reference is lost once 640 st
have passed since the last good edge or a window is off by more than 200 ppm, restored after 1 ms without a break, and slewed; a leg is
measured again once in 1,024 frames and its correction accepted within the hard range and by the step limit, or repeated; a droop counts
for its unit. -/
def Obligations.FramesAndStakeTime : Prop :=
  (∀ s : State, s.alive = true → s.clk.running = true →
    (∃ t, exec .frameTick s = .next t ∧ t.clk.frame = (s.clk.frame + 1) % 2 ^ 48 ∧ t.clk.tick = s.nextTick ∧ t.clk.lapDue = true ∧
      s.nextTick ≤ t.clk.now ∧ s.clk.now ≤ t.clk.now ∧ t.fab.rgnCache = []) ∧
    (s.clk.lapDue = true → ∃ t, exec .lapInstant s = .next t ∧ t.clk.lapDue = false ∧ t.clk.frame = s.clk.frame ∧
      t.clk.now = Max.max s.clk.now (s.clk.tick + s.getF Reg.lapOffset) ∧ t.clk.stretch = [] ∧ t.clk.lapWindow = s.clk.frame ∧
      t.mem = s.mem) ∧
    (s.on Reg.masterSpare = false → ∃ t, exec .masterSwitched s = .next t ∧ t.on Reg.masterSpare = true ∧
      (t.getF Reg.degraded).testBit 9 = true ∧ t.clk = s.clk ∧ t.mem = s.mem) ∧
    (∀ (leg : Fin 54) (m again : Int),
      let last := Tbl.look (fun _ => 0) s.clk.legFrame leg
      let old := Tbl.find s.light.cal (calKey 8 leg)
      let near := ∀ v, old = some v → (m - v).natAbs ≤ 1
      ((last ≠ 0 ∧ s.clk.frame + 1 < last + 1024) → exec (.stakeLegMeasure leg ⟨m, again⟩) s = .next s) ∧
      ((last = 0 ∨ last + 1024 ≤ s.clk.frame + 1) → ∃ t, exec (.stakeLegMeasure leg ⟨m, again⟩) s = .next t ∧
        (m.natAbs ≤ 32 → near → (old = none → again = m) → Tbl.find t.light.cal (calKey 8 leg) = some m ∧ Counted s t (Reg.lxCnt 7) 1) ∧
        (m.natAbs ≤ 32 → ¬ near → again = m → Tbl.find t.light.cal (calKey 8 leg) = some m ∧ Counted s t (Reg.lxCnt 8) 1) ∧
        ((32 < m.natAbs ∨ ((old = none ∨ ¬ near) ∧ again ≠ m)) → t.light.cal = s.light.cal ∧ Counted s t (Reg.lxCnt 9) 1))) ∧
    (∀ (die : DieN) (site : Option (Fin 288)), s.getF (Reg.dieState die) = 1 → ∃ t, exec (.droopStretch die site) s = .next t ∧
      let u := die.val * 512 + (match site with | some x => x.val | none => 0x1FF)
      Tbl.look (fun _ => 0) t.clk.stretch u = Tbl.look (fun _ => 0) s.clk.stretch u + 1 ∧
      (∀ v, v ≠ u → Tbl.look (fun _ => 0) t.clk.stretch v = Tbl.look (fun _ => 0) s.clk.stretch v) ∧ t.regs = s.regs)) ∧
  (∀ s : State, s.on Reg.masterSpare = true → s.clk.dead = false → ∃ t, exec .masterFailed s = .next t ∧ t.clk.dead = true ∧
    t.clk.running = false ∧ t.alive = false ∧ SameMemory s t ∧
    ∀ k, k < 12 → s.getF (Reg.scState k) = 1 → t.getF (Reg.scState k) = 2) ∧
  (∀ s : State, s.alive = true →
    (∀ (dev : Option Int) (edge : Nat), s.on Reg.refOk = true →
      let gone := (dev = none ∧ edge + 640 ≤ s.clk.now) ∨ ∃ ppb, dev = some ppb ∧ edge ≤ s.clk.now ∧ 200000 < ppb.natAbs
      (gone → ∃ t, exec (.refLost dev edge) s = .next t ∧ t.on Reg.refOk = false ∧
        t.on Reg.holdover = true ∧ t.on Reg.slewActive = false ∧ t.clk.lastEdge = edge ∧ Counted s t Reg.refLosses 1) ∧
      (¬ gone → exec (.refLost dev edge) s = .next s)) ∧
    (∀ (off : Int) (since : Nat), s.on Reg.holdover = true → -320 ≤ off → off ≤ 256 → s.clk.lastEdge ≤ since →
      (since + 1000000 ≤ s.clk.now → ∃ t, exec (.refRestored ⟨off, since⟩) s = .next t ∧
        t.on Reg.holdover = false ∧ t.on Reg.refOk = true ∧ t.on Reg.slewActive = true ∧
        t.getF Reg.slewRemain = (off % 65536).toNat ∧ t.clk.slewOffset = off ∧ t.clk.slewStart = s.clk.now) ∧
      (s.clk.now < since + 1000000 → exec (.refRestored ⟨off, since⟩) s = .next s)) ∧
    (s.on Reg.slewActive = true → 625 * s.clk.slewOffset.natAbs ≤ 2 * (s.clk.now - s.clk.slewStart) →
      ∃ t, exec .slewDone s = .next t ∧ t.on Reg.slewActive = false ∧ t.getF Reg.slewRemain = 0 ∧ t.clk = s.clk))

/-- R56, R57, R59, R60: the rails ramp before the tick that raises the compute clock, and settle; the second wave of a memory-class
change stops its regions 4,000 st after the tick, each restarts at the new step, and the last one ends the change; echoes off by more
than 4 st count, and the sixteenth in a row has the copy slewed back; one off by more than 64 st, or none for 2 µs, is the clock loss of
its die. ALIGNED tells that every last echo was within 1 st. -/
def Obligations.FrequencyAndClockLoss : Prop :=
  (∀ s : State, s.alive = true →
    (∀ x : Armed, s.hawk.armed = some x → x.raises = true → s.clk.ramp = .idle → x.tick - 200000 < s.nextTick →
      ∃ t, exec .railRampStart s = .next t ∧ t.clk.ramp = .raising ∧ t.on Reg.rampActive = true ∧
        t.clk.now = Max.max s.clk.now (x.tick - 200000) ∧ t.hawk = s.hawk) ∧
    (s.clk.ramp = .raising → ∃ t, exec .railRampSettled s = .next t ∧ t.clk.ramp = .raised ∧ t.on Reg.rampActive = false) ∧
    (s.clk.ramp = .lowering → ∃ t, exec .railRampSettled s = .next t ∧ t.clk.ramp = .idle ∧ t.on Reg.rampActive = false) ∧
    (s.on Reg.memstopActive = true → s.clk.memWave = false → s.clk.running = true → ∃ t, exec .memstopSecondWave s = .next t ∧
      t.clk.memWave = true ∧ t.clk.stopped = s.clk.stopped ++ s.wave true ∧ t.getF Reg.memstopWave = 1 ∧
      t.clk.now = Max.max s.clk.now (s.clk.memTick + 4000)) ∧
    (∀ (r : MemRegion) (n : Nat), regionUnit r ∈ s.clk.stopped → ∃ t, exec (.memstopRegionRestart r n) s = .next t ∧
      let rest := s.clk.stopped.filter fun x => x != regionUnit r
      t.clk.stopped = rest ∧ Tbl.look (fun _ => 0) t.clk.regionStep (regionUnit r) = s.clk.memNext ∧
      (s.clk.memWave = true → rest = [] →
        t.getF Reg.memStep = s.clk.memNext % 2 ∧ t.on Reg.memstopActive = false ∧ t.clk.memWave = false) ∧
      (rest ≠ [] → t.getF Reg.memStep = s.getF Reg.memStep ∧ t.on Reg.memstopActive = s.on Reg.memstopActive))) ∧
  (∀ (hub : PortN) (die : Fin 30) (off : Int) (s : State), s.alive = true → s.echoes hub die = true →
    let key := hub.val * 64 + die.val
    let drift := fun (t : State) => Tbl.look (fun _ => 0) t.clk.drift key
    let noted := fun (t : State) => Tbl.look (fun _ => (0, (0 : Int))) t.clk.echo key = (s.clk.now, off) ∧
      t.on Reg.stkAligned = t.clk.echo.all fun e => decide (e.2.2.natAbs ≤ 1)
    (off.natAbs ≤ 4 → ∃ t, exec (.stakeEcho hub die off) s = .next t ∧ noted t ∧ drift t = 0 ∧ t.ev = s.ev ∧
      t.on (Reg.clockLost die) = s.on (Reg.clockLost die)) ∧
    (4 < off.natAbs → off.natAbs ≤ 64 → ∃ t, exec (.stakeEcho hub die off) s = .next t ∧ noted t ∧ drift t = drift s + 1 ∧
      (drift s = 15 → die.val ∈ t.clk.slewing) ∧ t.on (Reg.clockLost die) = s.on (Reg.clockLost die)) ∧
    (64 < off.natAbs → ∃ t, exec (.stakeEcho hub die off) s = .next t ∧ t.on (Reg.clockLost die) = true) ∧
    (s.echoSince hub die + 2000 ≤ s.clk.now → ∃ t, exec (.dieClockLost hub die) s = .next t ∧ t.on (Reg.clockLost die) = true) ∧
    (s.clk.now < s.echoSince hub die + 2000 → exec (.dieClockLost hub die) s = .next s))

/-! ## Light, rings, calibration and DARK (R230-R257) -/

/-- R231-R237: a reading of a lit laser is reported, its bias never above the maximum; the feedforward adds to a lit laser's tuning, and an
accepted grid measurement is shown and trims it; a handover runs when it is phase-locked, one step of 64 at a time, the outgoing laser's
set point following, and ends with the incoming laser serving; a loss of the lock pauses it, and a lock that is not regained finishes it
at once on the side it had reached; a laser that fails alone hands its index to the other, and the outgoing laser of a handover to the
incoming one; the lanes return when their rings have passed identity; a target in its range is accepted. -/
def Obligations.LasersServeAndHandOver : Prop :=
  ∀ (l : LaserN) (s : State), s.alive = true →
    let serving := fun (t : State) => t.getF (Reg.lsrServing l)
    (∀ (sp : Bool) (p c : Nat), s.lit l sp = true → ∃ t, exec (.laserPowerControl l sp p c) s = .next t ∧
      t.getF (Reg.lsrPower l sp) = Min.min 1023 p ∧ t.getF (Reg.lsrCurrent l sp) = Min.min 1000 c ∧ t.mem = s.mem) ∧
    (s.fabricLit l = true →
      (∀ x : Int, ∃ t, exec (.gridFeedforward l x) s = .next t ∧ (t.laser l).tuning = (s.laser l).tuning + x ∧ t.regs = s.regs) ∧
      ∀ x again : Int, ∃ t, exec (.gridMeasurement l ⟨x, again⟩) s = .next t ∧
        (∀ v i, s.calJudge .grid l x again = .ok (v, i) → t.getF (Reg.lsrGridOffset l) = (v % 1024).toNat ∧
          t.on (Reg.lsrGridLocked l) = decide (v.natAbs ≤ 20) ∧ (t.laser l).tuning = (s.laser l).tuning + Config.gridTrim v ∧
          Counted s t (Reg.lxCnt i) 1) ∧
        (∀ c, s.calJudge .grid l x again = .error c → t.getF (Reg.lsrGridOffset l) = s.getF (Reg.lsrGridOffset l) ∧
          t.laser l = s.laser l ∧ Counted s t (Reg.lxCnt 9) 1)) ∧
    (∀ h : Handover, (s.laser l).handover = some h →
      (∃ t, exec (.handoverPhaseLocked l) s = .next t ∧ (t.laser l).handover = some { h with locked := true } ∧ t.regs = s.regs) ∧
      (h.locked = true → s.getF (Reg.lsrStep l) + 1 < 64 → ∃ t, exec (.handoverStep l) s = .next t ∧
        t.getF (Reg.lsrStep l) = s.getF (Reg.lsrStep l) + 1 ∧ serving t = serving s ∧
        (t.laser l).handover = some { h with setPoint := s.outPoint l (!h.spareIn) (s.getF (Reg.lsrStep l) + 1) }) ∧
      (h.locked = true → 64 ≤ s.getF (Reg.lsrStep l) + 1 → ∃ t, exec (.handoverStep l) s = .next t ∧ (t.laser l).handover = none ∧
        serving t = (if h.spareIn then 2 else 1) ∧ t.getF (Reg.lsrStep l) = 64 ∧ t.getF (Reg.lsrPower l (!h.spareIn)) = 0 ∧
        t.on (Reg.lsrFaded l) = (s.laser l).worn.testBit (if h.spareIn then 1 else 0) ∧ Counted s t (Reg.lxCnt 0) 1) ∧
      (h.locked = true → ∃ t, exec (.handoverPhaseLoss l) s = .next t ∧ (t.laser l).handover = some { h with locked := false } ∧
        t.getF (Reg.lsrStep l) = s.getF (Reg.lsrStep l) ∧ serving t = serving s) ∧
      (h.locked = false → ∃ t, exec (.handoverLockTimeout l) s = .next t ∧ (t.laser l).handover = none ∧
        serving t = (if h.spareIn == decide (32 ≤ s.getF (Reg.lsrStep l)) then 2 else 1)) ∧
      (∀ cause : Nat, s.on (Reg.lsrFailed l (!h.spareIn)) = false → ∃ t, exec (.laserFailed l (!h.spareIn) cause) s = .next t ∧
        t.on (Reg.lsrFailed l (!h.spareIn)) = true ∧ (t.laser l).handover = none ∧ serving t = (if h.spareIn then 2 else 1))) ∧
    (∀ (sp : Bool) (cause : Nat), s.on (Reg.lsrFailed l sp) = false → ∃ t, exec (.laserFailed l sp cause) s = .next t ∧
      t.on (Reg.lsrFailed l sp) = true ∧ Counted s t (Reg.lxCnt 1) 1) ∧
    (∀ (sp : Bool) (cause : Nat), s.on (Reg.lsrFailed l sp) = false → (s.laser l).handover = none → s.lit l sp = true →
      s.laserOk l (!sp) = true → ∃ t, exec (.laserFailed l sp cause) s = .next t ∧ t.on (Reg.lsrFailed l sp) = true ∧
        serving t = (if sp then 1 else 2) ∧ (t.laser l).outage = true ∧ Counted s t (Reg.lxCnt 1) 1) ∧
    ((s.laser l).outage = true → ∃ t, exec (.laserLanesReturned l) s = .next t ∧ (t.laser l).outage = false ∧ serving t = serving s) ∧
    (∀ v : W32, ∃ t, exec (.lsrTargetWrite l v) s = .next t ∧ serving t = serving s ∧
      (80 ≤ v.toNat % 256 → v.toNat % 256 ≤ 240 → t.getF (Reg.lsrTarget l) = v.toNat % 256 ∧
        Tbl.find t.light.cal (calKey 9 l) = some ((v.toNat % 256 : Nat) : Int) ∧ Counted s t (Reg.lxCnt 7) 1) ∧
      ((v.toNat % 256 < 80 ∨ 240 < v.toNat % 256) → t.getF (Reg.lsrTarget l) = s.getF (Reg.lsrTarget l) ∧ t.light = s.light ∧
        Counted s t (Reg.lxCnt 9) 1))

/-- R240-R247: the loop of a ring sets its heater, and an open or shorted heater fails it; a ring whose residual stays beyond 6 GHz for
1 ms, or whose heater is at an end of its range, is unlocked and its lane masked; the sweep of the ring whose turn it is locks it once its
residual has been within 2 GHz for 1 ms, and a second failure fails it; a window of the wrong colour, or a second ambiguous one, makes it
sweep again; a masked lane is repaired by steps: its trims are measured again, a spare stands in for its modulator ring, then for its drop
ring; it returns when its test passes, and is lost when the last step fails or no spare is free. -/
def Obligations.RingsLockAndAreRepaired : Prop :=
  (∀ (r : HeatN) (s : State), s.alive = true →
    let st := s.getF (Reg.heatState r)
    let now := fun (t : State) => t.getF (Reg.heatState r)
    let turn := (st = 1 ∨ st = 3) ∧ s.carries = true ∧ s.sweepTurn r = true ∧ s.ringFed r = true
    (∀ lockIn warmer x : Int, (st = 1 ∨ st = 2 ∨ st = 6) → ∃ t, exec (.ringLoopUpdate r ⟨lockIn, warmer, true⟩ x) s = .next t ∧
      t.getF (Reg.heater r) = s.loopHeater r (s.loopError r lockIn) warmer ∧ now t = st ∧
      (x.natAbs ≤ 6000 → (t.heat r).beyond = none) ∧ (2000 < x.natAbs → (t.heat r).within = none) ∧
      (x.natAbs ≤ 2000 → (t.heat r).within = some ((s.heat r).within.getD s.clk.now)) ∧
      (6000 < x.natAbs → (s.heat r).beyond = none → (t.heat r).beyond = some s.clk.now ∧ Counted s t (Reg.lxCnt 4) 1)) ∧
    (∀ lockIn warmer x : Int, ∃ t, exec (.ringLoopUpdate r ⟨lockIn, warmer, false⟩ x) s = .next t ∧ now t = 4) ∧
    (st = 2 → ((∃ b, (s.heat r).beyond = some b ∧ b + 1000000 ≤ s.clk.now) ∨ s.getF (Reg.heater r) = 0 ∨ s.getF (Reg.heater r) = 65535) →
      ∃ t, exec (.ringUnlocked r) s = .next t ∧ now t = 3 ∧ (t.heat r).lostAt = some s.clk.now ∧
        ∀ e, s.ringPair r = some e → (t.pair e.1 e.2).masked.testBit (ringPlane r) = true) ∧
    (∀ h : BitVec 16, turn → (∀ b, (s.heat r).within = some b → b + 1000000 ≤ s.clk.now → ∃ t,
        exec (.ringAcquire r (some h)) s = .next t ∧ now t = 2 ∧ t.getF (Reg.heater r) = h.toNat ∧
        (t.heat r).fails = 0 ∧ Counted s t (Reg.lxCnt 2) 1) ∧
      (s.lockedFor r = false → ∃ t, exec (.ringAcquire r (some h)) s = .next t ∧ now t = st)) ∧
    (turn → (s.heat r).fails = 0 → ∃ t, exec (.ringAcquire r none) s = .next t ∧ now t = 1 ∧ (t.heat r).fails = 1) ∧
    (turn → 1 ≤ (s.heat r).fails → ∃ t, exec (.ringAcquire r none) s = .next t ∧ now t = 4) ∧
    (¬ turn → ∀ found, exec (.ringAcquire r found) s = .next s) ∧
    ((st = 1 ∨ st = 2) → ∃ t, exec (.identityWindow r .correct) s = .next t ∧ (t.heat r).ambiguous = 0 ∧ t.regs = s.regs) ∧
    (∀ c : Fin 33, st = 2 → ∃ t, exec (.identityWindow r (.wrong c)) s = .next t ∧ now t = 1 ∧ Counted s t (Reg.lxCnt 3) 1) ∧
    (st = 2 → (s.heat r).ambiguous = 0 → ∃ t, exec (.identityWindow r .ambiguous) s = .next t ∧ now t = 2 ∧ (t.heat r).ambiguous = 1) ∧
    (st = 2 → (s.heat r).ambiguous ≠ 0 → ∃ t, exec (.identityWindow r .ambiguous) s = .next t ∧ now t = 1 ∧ Counted s t (Reg.lxCnt 3) 1)) ∧
  (∀ (src dst : PortN) (plane : PlaneN) (s : State), s.alive = true →
    let p := src.val
    let q := dst.val
    let id := laneId p q plane
    (p ≠ q → (s.pair p q).masked.testBit plane = true → s.repair p q plane = none → id ∉ s.fab.lost → id ∉ s.light.laserMasked →
      ∃ t, exec (.ringRepair src dst plane) s = .next t ∧ t.light.repairs = s.light.repairs ++ [⟨p, q, plane, 2, []⟩] ∧ t.fab = s.fab) ∧
    (∀ (x : Repair) (errors : Nat), s.repair p q plane = some x → (s.laneRings p q plane).length = 2 →
      (∀ r ∈ s.laneRings p q plane, s.getF (Reg.heatState r) = 2) → x.todo = [] →
      (errors = 0 → ∃ t, exec (.laneTestDone src dst plane errors) s = .next t ∧ t.repair p q plane = none ∧
        (t.pair p q).masked.testBit plane = false ∧ Counted s t (Reg.lxCnt 6) 1) ∧
      (1 ≤ errors → x.step = 2 → ∃ t, exec (.laneTestDone src dst plane errors) s = .next t ∧
        t.repair p q plane = some { x with step := 3, todo := s.laneTrims p q plane } ∧ t.fab = s.fab) ∧
      (1 ≤ errors → (x.step = 3 ∨ x.step = 4) →
        let bus := x.step - 3
        let port := if bus = 0 then p else q
        (∀ f, s.freeRing port plane bus = some f → ∃ t, exec (.laneTestDone src dst plane errors) s = .next t ∧
          t.repair p q plane = some { x with step := x.step + 1 } ∧ t.getF (Reg.heatRole f) = 1 ∧ t.getF (Reg.heatState f) = 1 ∧
          t.getF (Reg.heatColour f) = pairColour p q) ∧
        (s.freeRing port plane bus = none → ∃ t, exec (.laneTestDone src dst plane errors) s = .next t ∧ t.repair p q plane = none ∧
          id ∈ t.fab.lost)) ∧
      (1 ≤ errors → 5 ≤ x.step → ∃ t, exec (.laneTestDone src dst plane errors) s = .next t ∧ t.repair p q plane = none ∧ id ∈ t.fab.lost)))

/-- R248-R253: a result within its hard range and step limit becomes the quantity's value, one beyond the step limit only if its second
measurement repeats it, a first one only if both are in range and repeat, any other changes none; one outside the hard range marks a
redundant element suspect; nothing that traces to REFV is accepted while it is at fault. A save captures the image at a later frame; a restore whose image passes opens the gate warm, one that fails opens it cold and names its fault. -/
def Obligations.CalibrationLimits : Prop :=
  (∀ (q : CalQty) (e : Nat) (part : Fin 8) (m again : Int) (s : State), s.alive = true →
    let key := calKey (calPlace q) e
    let becomes := fun (x : Int) (n : Nat) => ∃ t, exec (.calMeasurement q ⟨e, part⟩ m again) s = .next t ∧ Tbl.find t.light.cal key = some x ∧
      Counted s t (Reg.lxCnt n) 1 ∧ ∀ k, k ≠ key → Tbl.find t.light.cal k = Tbl.find s.light.cal k
    let rejected := ∃ t, exec (.calMeasurement q ⟨e, part⟩ m again) s = .next t ∧ t.light.cal = s.light.cal ∧ t.light.inForce = s.light.inForce ∧
      Counted s t (Reg.lxCnt 9) 1 ∧
      (s.on Reg.refvOk = true → s.inHardRange q e m = false → hasRedundant q = true → (calPlace q, e, part.val) ∈ t.light.suspects)
    (s.on Reg.refvOk = false → tracesToRefv q = true → rejected) ∧
    ((s.on Reg.refvOk = true ∨ tracesToRefv q = false) →
      (∀ v, Tbl.find s.light.cal key = some v →
        (s.inHardRange q e m = true → inStep q v m = true → becomes m 7) ∧
        (s.inHardRange q e m = true → inStep q v m = false → repeats q m again = true → becomes again 8) ∧
        (s.inHardRange q e m = true → inStep q v m = false → repeats q m again = false → rejected) ∧
        (s.inHardRange q e m = false → rejected)) ∧
      (Tbl.find s.light.cal key = none →
        (s.inHardRange q e m = true → s.inHardRange q e again = true → repeats q m again = true → becomes m 7) ∧
        ((s.inHardRange q e m = false ∨ s.inHardRange q e again = false ∨ repeats q m again = false) → rejected)))) ∧
  (∀ s : State, s.alive = true →
    (∀ d : Int, s.on Reg.refvOk = true → 50 < d.natAbs → ∃ t, exec (.refvFault d) s = .next t ∧ t.on Reg.refvOk = false) ∧
    (∃ t, exec .refvRestored s = .next t ∧ t.on Reg.refvOk = true ∧ t.light = s.light) ∧
    (s.light.saveFrame = none → ∃ t, exec .save s = .next t ∧ t.light.saveFrame = some s.clk.frame ∧ t.on Reg.calSave = true) ∧
    (∀ (f : Nat) (temp : BitVec 32) (sites : List (BitVec 16)), s.light.saveFrame = some f → f < s.clk.frame →
      ∃ t, exec (.calImageCapture ⟨temp, sites⟩) s = .next t ∧
      t.light.saveFrame = none ∧ t.on Reg.calSave = false ∧ t.getF Reg.calLast = 1 ∧ t.getR imageBase = 0x49434650) ∧
    (s.on Reg.restoreOpen = false → ∃ t, exec .restore s = .next t ∧ t.getF Reg.rejectCause = 5 ∧ t.light = s.light) ∧
    (s.on Reg.restoreOpen = true → s.imageFault = 0 → ∃ t, exec .restore s = .next t ∧ t.on Reg.restoreOpen = false ∧
      t.on Reg.glbWarm = true ∧ t.getF Reg.calLast = 2 ∧ t.light.savedAt = s.clk.now) ∧
    (s.on Reg.restoreOpen = true → s.imageFault ≠ 0 → ∃ t, exec .restore s = .next t ∧ t.on Reg.restoreOpen = false ∧
      t.on Reg.glbWarm = false ∧ t.getF Reg.calLast = 3 ∧ t.getF Reg.rejectCause = s.imageFault ∧ t.light = s.light))

/-- R254-R256, R430: a request for DARK stops the fabric's work; DARK is entered at a tick with everything quiet, and every fabric laser and
heater is off; a relock begins when DARK is released, and ends with the fabric lit; a change of the plane set waits for each plane that
enters, and the planes come into use at a tick. -/
def Obligations.DarkAndRelock : Prop :=
  ∀ s : State, s.alive = true →
    (∃ t, exec .darkRequest s = .next t ∧ t.on Reg.dark = true ∧ (s.getF Reg.fabric = 2 → t.getF Reg.fabric = 3) ∧
      (s.getF Reg.fabric ≠ 2 → t.getF Reg.fabric = s.getF Reg.fabric) ∧ t.light = s.light) ∧
    (s.getF Reg.fabric = 3 → s.quiet = true → s.clk.now = s.clk.tick → ∃ t, exec .darkEntered s = .next t ∧ t.getF Reg.fabric = 0 ∧
      (∀ l, l < 288 → t.getF (Reg.lsrServing l) = 0) ∧ (∀ r, r < 19008 → t.getF (Reg.heater r) = 0) ∧ t.light.repairs = [] ∧
      Counted s t (Reg.lxCnt 10) 1 ∧ t.mem = s.mem) ∧
    (s.getF Reg.fabric = 0 → s.on Reg.glbReady = true → ∃ t, exec .relockRequest s = .next t ∧ t.on Reg.dark = false ∧
      t.getF Reg.fabric = 1 ∧ t.light.relockAt = s.clk.now) ∧
    (s.getF Reg.fabric = 3 → ∃ t, exec .relockRequest s = .next t ∧ t.on Reg.dark = false ∧ t.getF Reg.fabric = 2) ∧
    (∀ n : Nat, s.getF Reg.fabric = 1 → ∃ t, exec (.relocked n) s = .next t ∧ t.getF Reg.fabric = 2 ∧ t.hawk.relight = none ∧
      t.on Reg.glbRelocking = false ∧ t.getF Reg.glbPlanesOf = s.getF Reg.glbProfile ∧ Counted s t (Reg.lxCnt 2) n) ∧
    (∀ (x : Relight) (plane : PlaneN), s.hawk.relight = some x → plane.val ∈ x.waiting → ∃ t, exec (.planeRelocked plane) s = .next t ∧
      t.hawk.relight = some { x with waiting := x.waiting.erase plane } ∧ t.getF Reg.fabric = s.getF Reg.fabric) ∧
    (∀ x : Relight, s.hawk.relight = some x → x.waiting = [] → s.clk.now = s.clk.tick → s.getF Reg.fabric = 2 →
      ∃ t, exec .profilePlanesAdded s = .next t ∧ t.hawk.relight = none ∧ t.on Reg.glbRelocking = false ∧
        t.getF Reg.glbPlanesOf = x.profile % 4)

/-! ## The host interface (R321-R330, R351-R354) -/

/-- R321, R324, R325-R328: a port's link comes up with its width and goes down; a reset pin takes its own port's link down and ends DARK; with no
link for 100 ms every enabled ring is disabled; an aperture's accesses become requests of the port's engine, all ones where it is not
enabled, and wait behind a base that moves; a window's load returns the host's lines, its store, but for one of a hub, which is refused,
reaches the host and is acknowledged by a later flushing read. -/
def Obligations.HostPortsAndApertures : Prop :=
  (∀ (n : IoN) (s : State), s.alive = true →
    (∀ (w : Fin 4) (c : Bool), w ≠ 0 → 4 ≤ s.getF Reg.glbPhase → s.on (Reg.identHeldOut (28 + n)) = false → s.linkUp n = false →
      Tbl.look (fun _ => false) s.pins.perst n = false →
      (s.getF (Reg.dieState (28 + n)) = 0 ∨ s.getF (Reg.dieState (28 + n)) = 1 ∨ s.getF (Reg.dieState (28 + n)) = 6) →
      ∃ t, exec (.cxlLinkUp n w c) s = .next t ∧ t.linkUp n = true ∧ t.getF (Reg.portWidth n) = w ∧ t.on (Reg.portCache n) = c ∧
        t.host.noLinkSince = none ∧ t.host.disabledRings = none) ∧
    (s.linkUp n = true → ∃ t, exec (.cxlLinkDown n false) s = .next t ∧ t.linkUp n = false ∧ t.getF (Reg.portWidth n) = 0 ∧
      (s.host.noLinkSince = none → s.linkUp (1 - n.val) = false → t.host.noLinkSince = some s.clk.now)) ∧
    (∀ b : Bool, ∃ t, exec (.cxlPerst n b) s = .next t ∧ Tbl.look (fun _ => false) t.pins.perst n = b ∧
      (b = false → t.regs = s.regs) ∧ (b = true → t.linkUp n = false ∧
        (s.getF Reg.fabric = 0 → s.on Reg.glbReady = true → t.getF Reg.fabric = 1)))) ∧
  (∀ (s : State) (since : Nat), s.alive = true → s.host.noLinkSince = some since → since + 100000000 ≤ s.clk.now →
    s.host.disabledRings = none → ∃ t, exec .ringsDisabledNoLink s = .next t ∧ t.host.disabledRings.isSome = true ∧
      ∀ n, n < 256 → (s.getF (Reg.sqState n) = 1 ∨ s.getF (Reg.sqState n) = 3) → t.getF (Reg.sqState n) = 2) ∧
  (∀ (n : IoN) (s : State), s.alive = true → s.linkUp n = true →
    let u := 0x1200 + n.val
    let key := BitVec.ofNat 32 (s.getF (Reg.aperKey n))
    let at_ := fun (off : Nat) => s.getF (Reg.aperBlock n) * 2 ^ 36 + off
    let sends := fun (i : Instr) (opc : Nat) => ∃ t es, exec i s = .next t ∧ es ≠ [] ∧ t.engine = s.engine ++ es ∧ t.host.rsp = s.host.rsp ∧
      ∀ e ∈ es, e.unit = u ∧ e.req.opc.toNat = opc ∧ e.req.key = key
    let real := fun (off len : Nat) => ∀ a, at_ off / 64 * 64 ≤ a → a < at_ off + len → laReserved a = false
    (∀ off len, 0 < len → len ≤ 4096 → off + len ≤ 2 ^ 36 →
      (s.on (Reg.aperMoving n) = true → ∃ t, exec (.apertureRead n off len) s = .next t ∧
        t.heldAt n = s.heldAt n ++ [⟨false, off, len, []⟩] ∧ t.engine = s.engine) ∧
      (s.on (Reg.aperMoving n) = false → s.aperWriting n = false → s.heldAt n = [] →
        (s.on (Reg.aperEnable n) = false → ∃ t, exec (.apertureRead n off len) s = .next t ∧
          t.host.rsp = s.host.rsp ++ [⟨n, 0, List.replicate len 0xFF⟩] ∧ t.engine = s.engine) ∧
        (s.on (Reg.aperEnable n) = true → real off len → sends (.apertureRead n off len) 1))) ∧
    (∀ off bytes, bytes ≠ [] → off + bytes.length ≤ 2 ^ 36 →
      (s.on (Reg.aperMoving n) = true → ∃ t, exec (.apertureWrite n off bytes) s = .next t ∧
        t.heldAt n = s.heldAt n ++ [⟨true, off, bytes.length, bytes⟩] ∧ t.engine = s.engine) ∧
      (s.on (Reg.aperMoving n) = false → s.aperWriting n = false → s.heldAt n = [] →
        (s.on (Reg.aperEnable n) = false → exec (.apertureWrite n off bytes) s = .next s) ∧
        (s.on (Reg.aperEnable n) = true → off % 64 = 0 → bytes.length % 64 = 0 → real off bytes.length →
          sends (.apertureWrite n off bytes) 2)))) ∧
  (∀ (n : IoN) (v : W32) (s : State), s.alive = true → s.answers (Reg.aperBlock n).addr = true →
    (s.aperBusy n = false → s.heldAt n = [] → ∃ t, exec (.aperBaseWrite n v) s = .next t ∧ t.getF (Reg.aperBlock n) = v.toNat % 16 ∧
      t.on (Reg.aperEnable n) = v.getLsbD 31 ∧ t.on (Reg.aperMoving n) = false) ∧
    (s.aperBusy n = true → ∃ t, exec (.aperBaseWrite n v) s = .next t ∧ t.getF (Reg.aperBlock n) = s.getF (Reg.aperBlock n) ∧
      t.on (Reg.aperMoving n) = true ∧ Tbl.find t.host.moving n = some (v &&& 0x8000000F#32))) ∧
  (∀ (r : Req) (data : List Line) (s : State), s.alive = true →
    let la := gaLa r.ga
    let w := laWin la
    let x := (la - 0x10000000000) % 0x20000000000
    let base := (s.getR (Reg.win w)).toNat + (s.getR (Reg.win w + 4)).toNat * 2 ^ 32
    laIsWindow la = true → s.isHere (gaNode r.ga) = true → reqMalformed r r.opc.toNat = false → reqBadAddress r = 0 → r.rack = none →
    Admitted s (0x1200 + s.controller) r → r.remote = false → s.on (Reg.winValid w) = true → s.getF (Reg.winKey w) = r.key.toNat →
    x + 64 * r.lines ≤ 2 ^ s.getF (Reg.winLog2 w) → s.hostPort.isSome = true →
    (r.opc = 1 → ∃ t, exec (.hostWindowRequest r (.ok data)) s = .next t ∧ SameMemory s t ∧
      ∃ a ∈ t.net.replies, a.seq = r.seq ∧ a.status = 0 ∧ a.data = (List.range r.lines).map fun i => some (data.getD i 0)) ∧
    let hubs := 0x1000 ≤ r.srcUnit.toNat ∧ r.srcUnit.toNat < 0x1020
    (r.opc = 2 → hubs → ∃ t, exec (.hostWindowRequest r (.ok data)) s = .next t ∧ t.host = s.host ∧
      ∃ a ∈ t.net.replies, a.seq = r.seq ∧ a.status = 0x12) ∧
    (r.opc = 2 → ¬ hubs → r.data.length ≤ 64 → ∃ t a, exec (.hostWindowRequest r (.ok data)) s = .next t ∧
      t.host.winStores = s.host.winStores ++ [(w, a)] ∧ a.seq = r.seq ∧ a.status = 0 ∧ t.net.replies = s.net.replies ∧
      ∀ i j, i < r.data.length → j < 64 → Tbl.find t.host.mem ((base + x + 64 * i + j) % 2 ^ 64) =
        some (BitVec.ofNat 8 ((r.data.getD i 0).toNat / 2 ^ (8 * j))))) ∧
  (∀ (w : ChanN) (s : State), s.alive = true → ∃ t, exec (.windowFlushRead w) s = .next t ∧ (∀ e ∈ t.host.winStores, e.1 ≠ w.val) ∧
    ∀ e ∈ s.host.winStores, (e.1 = w.val → e.2 ∈ t.net.replies) ∧ (e.1 ≠ w.val → e ∈ t.host.winStores))

/-- R329-R331, R351-R354, R356: a doorbell's count is taken from a line that the device holds, by snoop, by poll or from the fallback register; a
tail more than the ring size ahead halts the ring; a fetched descriptor joins its queue, and a failing fetch halts the ring; a ring is
enabled from slot 0 only with a valid completion ring, drains when disabled, and stops when its last record is written; completion and
event records are written in order while their rings have room, and signal their vectors. -/
def Obligations.DoorbellsFetchAndRings : Prop :=
  (∀ (n : RingN) (c : W32) (s : State), s.alive = true →
    let beyond := s.sqSize n < ahead c.toNat ((s.sq n).next - (s.sq n).queue.length)
    let takes := fun (i : Instr) (more : State → Prop) => ∃ t, exec i s = .next t ∧ (t.sq n).tail = c.toNat ∧ more t ∧
      (beyond → t.getF (Reg.sqState n) = 3 ∧ t.getF (Reg.sqHaltCause n) = 2) ∧ (¬ beyond → t.getF (Reg.sqState n) = 1)
    (s.getF (Reg.sqState n) = 1 →
      (s.hostCache = true → takes (.doorbellSnoop 0 n c) fun t => Counted s t (Reg.ringCnt 5) 1) ∧
      (s.hostPort.isSome = true → (s.sq n).tail ≠ c.toNat → takes (.doorbellPoll 0 n c) fun t => Counted s t (Reg.ringCnt 6) 1) ∧
      (s.answers (Reg.sq n) = true → takes (.sqDbFallbackWrite n c) fun t => t.getF (Reg.sqDbFallback n) = c.toNat)) ∧
    (s.on (Reg.cqValid n) = true → s.hostCache = true → ∃ t, exec (.doorbellSnoop 1 n c) s = .next t ∧ (t.cq n).head = c.toNat) ∧
    (s.on Reg.evrValid = true → s.hostCache = true → ∃ t, exec (.doorbellSnoop 2 n c) s = .next t ∧ t.host.evrHead = c.toNat)) ∧
  (∀ (n : RingN) (s : State), s.alive = true → s.getF (Reg.sqState n) = 1 → s.ctl.startsStopped = false → s.hostPort.isSome = true →
    (s.sq n).queue.length < 16 → ahead (s.sq n).tail (s.sq n).next ≠ 0 →
    (∀ l : Line, ∃ t, exec (.descriptorFetched n (some l)) s = .next t ∧
      (t.sq n).queue = (s.sq n).queue ++ [⟨(s.sq n).next, l, s.clk.now, false⟩] ∧ (t.sq n).next = ((s.sq n).next + 1) % 2 ^ 32 ∧
      Counted s t (Reg.ringCnt 0) 1 ∧ t.mem = s.mem) ∧
    (∃ t, exec (.descriptorFetched n none) s = .next t ∧ t.getF (Reg.sqState n) = 3 ∧ t.getF (Reg.sqHaltCause n) = 1 ∧
      (t.sq n).queue = (s.sq n).queue)) ∧
  (∀ (n : RingN) (s : State), s.alive = true →
    (s.answers (Reg.sq n) = true → s.getF (Reg.sqState n) = 0 →
      (s.on (Reg.cqValid (s.getF (Reg.sqCq n))) = true → ∃ t, exec (.ringEnable n) s = .next t ∧ t.getF (Reg.sqState n) = 1 ∧
        t.on (Reg.sqEnable n) = true ∧ t.getF (Reg.sqFetched n) = 0 ∧ t.sq n = Sq.zero) ∧
      (s.on (Reg.cqValid (s.getF (Reg.sqCq n))) = false → ∃ t, exec (.ringEnable n) s = .next t ∧ t.getF (Reg.sqState n) = 0 ∧
        t.on (Reg.sqCfgIgnored n) = true ∧ t.sq n = s.sq n)) ∧
    (s.answers (Reg.sq n) = true → (s.getF (Reg.sqState n) = 1 ∨ s.getF (Reg.sqState n) = 3) → ∃ t, exec (.ringDisable n) s = .next t ∧
      t.getF (Reg.sqState n) = 2 ∧ t.on (Reg.sqEnable n) = false ∧ (t.sq n).queue = []) ∧
    (s.getF (Reg.sqState n) = 2 → (s.sq n).started = [] → (s.sq n).queue = [] → ∃ t, exec (.ringStopped n) s = .next t ∧
      t.getF (Reg.sqState n) = 0 ∧ t.sq n = s.sq n)) ∧
  (∀ (m : RingN) (s : State) (r : Rec) (rest : List Rec), s.alive = true → (s.cq m).waiting = r :: rest → s.on (Reg.cqValid m) = true →
    ahead (s.getF (Reg.cqWritten m)) (s.cq m).head < s.cqSize m → s.hostPort.isSome = true →
    let w := s.getF (Reg.cqWritten m)
    let place := s.hostAddr (Reg.cq m) + 32 * (w % s.cqSize m)
    (∃ t, exec (.completionRecordWrite m true) s = .next t ∧ (t.cq m).waiting = rest ∧ t.getF (Reg.cqWritten m) = (w + 1) % 2 ^ 32 ∧
      ∀ i, i < 32 → Tbl.find t.host.mem ((place + i) % 2 ^ 64) = some ((r.bytes (1 - w / s.cqSize m % 2)).getD i 0)) ∧
    (∃ t, exec (.completionRecordWrite m false) s = .next t ∧ (t.cq m).waiting = r :: rest ∧
      ∀ n, n < 256 → s.getF (Reg.sqCq n) = m.val → s.getF (Reg.sqState n) = 1 →
        t.getF (Reg.sqState n) = 3 ∧ t.getF (Reg.sqHaltCause n) = 3)) ∧
  (∀ (m : RingN) (s : State), s.alive = true → 0 < (s.cq m).since → (s.cq m).firstAt + 1000 * s.getF (Reg.cqDelay m) ≤ s.clk.now →
    let v := s.getF (Reg.cqVector m)
    let masked := (s.getR (Reg.msixTable s.controller v + 12)).getLsbD 0
    ∃ t, exec (.cqIrqDelay m) s = .next t ∧ (t.cq m).since = 0 ∧ (masked = false → t.host.signals = s.host.signals ++ [v]) ∧
      (masked = true → t.host.signals = s.host.signals ∧ (t.getR (Reg.msixPba s.controller (v / 32))).getLsbD (v % 32) = true)) ∧
  (∀ (hub : PortN) (s : State) (e : EventRec) (rest : List EventRec), s.alive = true → (28 ≤ hub.val ∨ 2 ≤ s.getF Reg.fabric) →
    s.on Reg.evrValid = true → s.evrNoRoom = false → s.hostPort.isSome = true → s.ev.lost = 0 → s.stagedAt hub = e :: rest →
    s.cnt (Reg.ringCnt 8) + 1 < 2 ^ 48 - 1 →
    let w := s.host.evrWritten
    let place := s.hostAddr Reg.evrBaseLo + 32 * (w % s.evrSize)
    ∃ t, exec (.eventRecordWrite hub) s = .next t ∧ t.stagedAt hub = rest ∧ t.host.evrWritten = (w + 1) % 2 ^ 32 ∧
      Counted s t (Reg.ringCnt 8) 1 ∧
      ∀ i, i < 32 → Tbl.find t.host.mem ((place + i) % 2 ^ 64) = some (e.bytes.getD i 0))

/-! ## Descriptors, snapshots and reports (R332-R350, R393-R397, R452-R454) -/

/-- The front descriptor of a ring can start, has opcode `op`, passes its checks and is not aborted, and its number is no started one's. -/
def Starts (s : State) (n : Nat) (d : Desc) (op : Nat) : Prop :=
  s.alive = true ∧ s.canStart n = some d ∧ descOpcode d.line = op ∧ s.descFault n d = none ∧
  (descFlag d.line 0 && descFlag d.line 1 && d.failedPrev) = false ∧ ∀ x ∈ (s.sq n).started, x.num ≠ d.num

/-- The descriptor has left the queue and is among the started ones. -/
def Begun (s t : State) (n : Nat) (d : Desc) : Prop :=
  (t.sq n).queue = (s.sq n).queue.drop 1 ∧
  ∃ x ∈ (t.sq n).started, x.num = d.num ∧ x.line = d.line ∧ x.finished = false ∧ x.startFrame = s.clk.frame

/-- A completion record of a descriptor, with the status and the progress, has joined those that wait in its completion ring. -/
def Completed (s t : State) (n num status progress : Nat) : Prop :=
  ∃ r ∈ ((t.cq (s.getF (Reg.sqCq n))).waiting).drop (s.cq (s.getF (Reg.sqCq n))).waiting.length,
    r.ring = n ∧ r.num = num ∧ r.status = status ∧ r.progress = progress ∧ r.stime = s.clk.now

/-- A quiet descriptor writes no record when it completes OK (R334). -/
def Quiet (l : Line) : Prop := descFlag l 2 = true

/-- R221, R332-R344, R347, R350: the front descriptor of a ring starts and takes its effect: a NOP completes, a LAUNCH queues its course, a
COPY from device memory, a FILL of device memory, a REMOTE and a SIGNAL send their requests with the ring's unit, a PLAIT arms its group, a
WAIT waits for its condition and times out, and is refused for another node's counter or channel, a rim descriptor is refused where the hub
takes no such channel, a FENCE with nothing left to wait for completes; a quantum closes when its requests have completed, and the last one
completes the descriptor. -/
def Obligations.DescriptorsStartAndComplete : Prop :=
  ∀ (n : RingN) (d : Desc) (s : State),
    let l := d.line
    let u := ringUnit n
    let sends := fun (i : Instr) (purpose : Purpose) (opc : Nat) (operand : Nat) => ∃ t e, exec i s = .next t ∧ Begun s t n d ∧
      t.engine = s.engine ++ [e] ∧ e.unit = u ∧ e.purpose = purpose ∧ e.req.opc = BitVec.ofNat 16 opc ∧
      e.req.operand = BitVec.ofNat 64 operand
    let apart := fun (from_ : Nat) => ∀ a, from_ ≤ a → a < from_ + xferLen l →
      s.isHere (gaNode (BitVec.ofNat 64 a)) = false ∨ laReserved (gaLa (BitVec.ofNat 64 a)) = false
    (Starts s n d 0 → ∃ t, exec (.nopDesc n) s = .next t ∧ (t.sq n).queue = (s.sq n).queue.drop 1 ∧
      (¬ Quiet l → Completed s t n d.num 0 0)) ∧
    (Starts s n d 1 → s.groupTiles (dfield l 8 2) ≠ [] → ∃ t, exec (.launch n) s = .next t ∧
      ∃ c ∈ t.courses, c.ring = n.val ∧ c.num = d.num ∧ c.group = dfield l 8 2 ∧ c.startFrame = s.resolveFrame (dfield l 12 4) ∧
        c.listGa = BitVec.ofNat 64 (dfield l 16 8)) ∧
    (Starts s n d 2 → s.getF (Reg.sqQuantum n) ≠ 0 → ∀ host, ∃ t, exec (.copy n host) s = .next t ∧ Begun s t n d) ∧
    (Starts s n d 3 → s.getF (Reg.sqQuantum n) ≠ 0 → ∃ t, exec (.fill n) s = .next t ∧ Begun s t n d) ∧
    (Starts s n d 2 → xferSrcHost l = false → s.getF (Reg.sqQuantum n) ≠ 0 → apart (dfield l 8 8) → ∀ host, ∃ t es,
      exec (.copy n host) s = .next t ∧ Begun s t n d ∧ es ≠ [] ∧ t.engine = s.engine ++ es ∧
      ∀ e ∈ es, e.unit = u ∧ e.req.opc = 1 ∧ ∃ off, e.purpose = .copyLoad d.num off) ∧
    (Starts s n d 3 → xferSpoke l = false → xferDstHost l = false → s.getF (Reg.sqQuantum n) ≠ 0 → apart (xferDst l) → ∃ t es,
      exec (.fill n) s = .next t ∧ Begun s t n d ∧ es ≠ [] ∧ t.engine = s.engine ++ es ∧
      ∀ e ∈ es, e.unit = u ∧ e.req.opc = 2 ∧ ∃ off, e.purpose = .copyStore d.num off) ∧
    (Starts s n d 4 → (s.isHere (gaNode (BitVec.ofNat 64 (dfield l 16 8))) && laReserved (gaLa (BitVec.ofNat 64 (dfield l 16 8)))) = false →
      sends (.remote n) (.remote d.num) (dfield l 8 2) (dfield l 24 8)) ∧
    (Starts s n d 5 → (s.plaitArmed (dfield l 8 2) = true → ∃ t, exec (.plaitDesc n) s = .next t ∧ Completed s t n d.num 2 0) ∧
      (s.plaitArmed (dfield l 8 2) = false → s.awayHome (dfield l 8 2) (dfield l 10 1) = none →
        s.plaitFits (dfield l 10 1) (plaitBytes (dfield l 11 1) (dfield l 12 2) (dfield l 14 2)) = true →
        ∃ t, exec (.plaitDesc n) s = .next t ∧ Begun s t n d ∧ t.plait (dfield l 8 2) = some (armedPlait s n d) ∧
          t.route (dfield l 8 2) = some (dfield l 10 1))) ∧
    (Starts s n d 6 →
      (descMode l = 0 → sends (.signalAdd n) (.signal d.num) 0x18 (dfield l 16 6)) ∧
      (descMode l = 1 → sends (.signalSet n) (.signal d.num) 0x19 (dfield l 16 6)) ∧
      (descMode l = 2 → s.rimHere s.ringHub (dfield l 8 1 % 64) = true → ∃ t, exec (.rimFlagSetDesc n) s = .next t ∧ Begun s t n d ∧
        ∃ o ∈ (t.hub s.ringHub).sets, o.unit = u ∧ o.ch = dfield l 8 1 % 64 ∧ o.value = BitVec.ofNat 32 (dfield l 16 4)) ∧
      (descMode l = 2 → s.rimHere s.ringHub (dfield l 8 1 % 64) = false → ∃ t, exec (.rimFlagSetDesc n) s = .next t ∧
        Completed s t n d.num 0x12 0)) ∧
    (Starts s n d 7 →
      (descMode l = 0 → s.isHere (dfield l 10 2) = true → sends (.waitCounterDesc n) (.wait d.num) 0x1A (dfield l 16 6)) ∧
      (descMode l = 0 → s.isHere (dfield l 10 2) = false → ∃ t, exec (.waitCounterDesc n) s = .next t ∧ Completed s t n d.num 0x12 0) ∧
      ((s.isHere (dfield l 10 2) = false ∨ s.rimHere s.ringHub (dfield l 8 1 % 64) = false) →
        (descMode l = 1 → ∃ t, exec (.waitRimBarrierDesc n) s = .next t ∧ Completed s t n d.num 0x12 0) ∧
        (descMode l = 2 → ∃ t, exec (.waitRimFlagDesc n) s = .next t ∧ Completed s t n d.num 0x12 0)) ∧
      (s.isHere (dfield l 10 2) = true → s.rimHere s.ringHub (dfield l 8 1 % 64) = true →
        let c := dfield l 8 1 % 64
        (descMode l = 1 → ∃ t q, exec (.waitRimBarrierDesc n) s = .next t ∧ Begun s t n d ∧
          (t.chan s.ringHub c).inbox = (s.chan s.ringHub c).inbox ++ [(u, q, s.on (Reg.rimGen s.ringHub c))]) ∧
        (descMode l = 2 → dfield l 16 4 ≤ s.getF (Reg.rimFlag s.ringHub c) → ¬ Quiet l → ∃ t, exec (.waitRimFlagDesc n) s = .next t ∧
          Completed s t n d.num 0 1) ∧
        (descMode l = 2 → s.getF (Reg.rimFlag s.ringHub c) < dfield l 16 4 → ∃ t q, exec (.waitRimFlagDesc n) s = .next t ∧ Begun s t n d ∧
          (t.chan s.ringHub c).flagWait = (s.chan s.ringHub c).flagWait ++ [(u, q, dfield l 16 4)]))) ∧
    (Starts s n d 10 → ¬ Quiet l → dfield l 8 1 % 4 = 0 → (∀ x ∈ (s.sq n).started, x.finished = true) → ∃ t, exec (.fence n) s = .next t ∧
      Completed s t n d.num 0 0) ∧
    (∀ (num : W32) (x : Started), s.alive = true → s.started n num.toNat = some x → x.finished = false →
      let p := x.progress + x.quantum
      ((descOpcode x.line = 2 ∨ descOpcode x.line = 3) → x.quantum = 0 → x.stopping = false → x.closedIn < s.clk.frame →
        s.clk.now = s.clk.tick → ∀ host, ∃ t y, exec (.copyQuantumBegin n num host) s = .next t ∧ t.started n num.toNat = some y ∧
          y.progress = x.progress ∧
          y.quantum = Min.min (s.getF (Reg.sqQuantum n) * 2 ^ 20) (xferLen x.line - x.progress)) ∧
      (x.quantum ≠ 0 → s.copying n x.num = false →
        (x.fail = none → p = xferLen x.line → ¬ Quiet x.line → ∃ t, exec (.copyQuantumClose n num) s = .next t ∧ Completed s t n x.num 0 p) ∧
        (x.fail = none → p ≠ xferLen x.line → x.stopping = true → ∃ t, exec (.copyQuantumClose n num) s = .next t ∧
          Completed s t n x.num 1 p) ∧
        (x.fail = none → p ≠ xferLen x.line → x.stopping = false → ∃ t y, exec (.copyQuantumClose n num) s = .next t ∧
          t.started n num.toNat = some y ∧ y.progress = p ∧ y.quantum = 0 ∧ y.finished = false) ∧
        (∀ off st a, x.fail = some (off, st, a) → st ≠ 0 → ∃ t, exec (.copyQuantumClose n num) s = .next t ∧
          Completed s t n x.num st off)) ∧
      (descOpcode x.line = 7 → dfield x.line 24 4 ≠ 0 → x.startFrame + dfield x.line 24 4 ≤ s.clk.frame →
        ∃ t, exec (.waitDescTimeout n num) s = .next t ∧ Completed s t n x.num 0x32 0))

/-- R341, R343-R346, R350, R393, R394, R397, R452-R454: a SNAPSHOT that names a time less than 20,000 st ahead is refused, another takes the free
bank whose turn it is; the bank latches at its time, and its gather frees it and completes the descriptor; an ATTEST is refused without a
key or room, and else completes with its report at a later tick; a reply completes the descriptor it serves. -/
def Obligations.SnapshotsAndReports : Prop :=
  (∀ (n : RingN) (d : Desc) (b : Nat) (s : State), Starts s n d 8 → s.freeBank = some b →
    (dfield d.line 8 8 < s.clk.now + 20000 → ∃ t, exec (.snapshot n) s = .next t ∧ Completed s t n d.num 2 0 ∧ t.snaps = s.snaps) ∧
    (s.clk.now + 20000 ≤ dfield d.line 8 8 → ∃ t x, exec (.snapshot n) s = .next t ∧ Begun s t n d ∧ t.snap b = some x ∧ x.num = d.num ∧
      x.at_ = dfield d.line 8 8 ∧ x.select = dfield d.line 28 4 ∧ x.latched = false)) ∧
  (∀ (b : Fin 2) (x : SnapBank) (s : State), s.alive = true → s.snap b = some x →
    (x.latched = false → s.clk.running = true → x.at_ < s.nextTick → ∃ t y, exec (.snapshotLatch b) s = .next t ∧ t.snap b = some y ∧
      y.latched = true ∧ y.at_ = x.at_ ∧ y.num = x.num ∧ y.frame = s.clk.frame ∧ t.clk.now = Max.max s.clk.now x.at_ ∧
      t.on (Reg.bankPending b) = true ∧ t.mem = s.mem) ∧
    (∀ y, x.latched = true → s.hostPort.isSome = true → s.started 0 x.num = some y → y.finished = false →
      let g := s.gather x
      let room := dfield y.line 24 4
      ∃ t, exec (.snapshotGatherDone b) s = .next t ∧ t.snap b = none ∧ t.on (Reg.bankPending b) = false ∧
        (g.2 = true → g.1.length ≤ room → ¬ Quiet y.line → Completed s t 0 x.num 0 g.1.length) ∧
        ((g.2 = false ∨ room < g.1.length) → Completed s t 0 x.num 1 (Min.min room g.1.length)))) ∧
  (∀ (n : RingN) (d : Desc) (s : State), Starts s n d 9 →
    (∀ st, s.attestFault d.line = some st → ∃ t, exec (.attest n) s = .next t ∧ Completed s t n d.num st 0) ∧
    (s.attestFault d.line = none → ∃ t, exec (.attest n) s = .next t ∧ Begun s t n d)) ∧
  (∀ (n : RingN) (num : W32) (d : Started) (s : State), s.alive = true → s.started n num.toNat = some d → descOpcode d.line = 9 →
    d.finished = false → s.clk.now = s.clk.tick → d.startFrame < s.clk.frame → s.on Reg.journalActive = false →
    s.hostPort.isSome = true →
    (∀ st, s.attestFault d.line = some st → ∃ t, exec (.attestCapture n num) s = .next t ∧ Completed s t n d.num st 0) ∧
    (s.attestFault d.line = none → s.saltReady = true → ∃ t, exec (.attestCapture n num) s = .next t ∧ Counted s t (Reg.secCnt 0) 1 ∧
      (¬ Quiet d.line → Completed s t n d.num 0 (reportLength s.digestRows.length)))) ∧
  (∀ (r : Reply) (e : EngineReq) (d : Started) (num : Nat) (s : State), s.alive = true → r ∈ s.net.replies →
    s.isHere r.srcNode.toNat = true → s.engine.find? (fun e => e.unit == r.srcUnit.toNat && e.seq == r.seq.toNat) = some e →
    r.inc = e.req.inc → (e.purpose = .remote num ∨ e.purpose = .signal num ∨ e.purpose = .wait num) →
    s.started (e.unit - 0x1300) num = some d → d.finished = false →
    ∃ t, exec (.engineReply r) s = .next t ∧ t.net.replies = s.net.replies.erase r ∧ e ∉ t.engine ∧
      (r.status ≠ 0 → Completed s t (e.unit - 0x1300) num r.status.toNat 0) ∧
      (r.status = 0 → ¬ Quiet d.line → Completed s t (e.unit - 0x1300) num 0 1))

/-! ## Withy ports (R360-R385) -/

/-- R362-R375: an enabled fibre trains, and comes up on its lowest healthy colours, or fails where a direction has none; a sequenced codeword
in order is accepted, its control field says which it is and its flits count, and one that is uncorrectable, out of order or holds a flit
with a failing CRC is answered with a NAK; acknowledged codewords leave the replay buffer, which is replayed when the round trip and 1 µs have
passed without an acknowledgement; a colour with eight colour errors within 1 ms or a failed pilot check is suspect, and its position moves to
the lowest healthy spare or the direction drops to 8 positions; a fibre that loses alignment trains, and is down when it stays so; a flit
leaves on a usable fibre, in transit with one hop more and at most three, and is discarded and counted where no fibre is usable. -/
def Obligations.WithyLinks : Prop :=
  ∀ (n : IoN) (f : FibreN) (s : State), s.alive = true →
    let st := s.getF (Reg.fibState n f)
    let x := s.fib n f
    let state := fun (t : State) => t.getF (Reg.fibState n f)
    (s.answers (Reg.wty n) = true →
      (s.on (Reg.fibEnable n f) = false → st ≠ 5 → s.getF Reg.wtyNode ≠ 0xFFFF → ∃ t, exec (.withyFibreEnable n f true) s = .next t ∧
        state t = 1 ∧ t.on (Reg.fibEnable n f) = true ∧ (t.fib n f).up = false ∧ (t.fib n f).trainSince = s.clk.now) ∧
      (s.on (Reg.fibEnable n f) = true → st ≠ 5 → ∃ t, exec (.withyFibreEnable n f false) s = .next t ∧ state t = 0 ∧
        t.on (Reg.fibEnable n f) = false ∧ (t.fib n f).up = false) ∧
      (s.on (Reg.fibEnable n f) = true → s.getF Reg.wtyNode ≠ 0xFFFF → ∃ t, exec (.withyRetrain n f) s = .next t ∧ state t = 1 ∧
        Counted s t (Reg.wtyCnt n 6) 1)) ∧
    (∀ (pn : BitVec 16) (pd : IoN) (pf : FibreN) (cap : BitVec 4) (h th : BitVec 18) (rtt : Nat), (st = 1 ∨ st = 4) →
      s.on (Reg.fibEnable n f) = true → s.getF Reg.wtyNode ≠ 0xFFFF → pn.toNat ≠ s.getF Reg.wtyNode → s.withyOnGrid n = true →
      let rx := positionsOf h.toNat
      let tx := positionsOf th.toNat
      (rx ≠ [] → tx ≠ [] → ∃ t, exec (.withyUp n f pn pd pf cap h th rtt) s = .next t ∧ (t.fib n f).up = true ∧ (t.fib n f).rx = rx ∧
        (t.fib n f).tx = tx ∧ state t = (if Min.min tx.length rx.length = 16 then 2 else 3) ∧
        t.getF (Reg.fibActive n f) = Min.min tx.length rx.length ∧ t.getF (Reg.fibPeerNode n f) = pn.toNat) ∧
      ((rx = [] ∨ tx = []) → ∃ t, exec (.withyUp n f pn pd pf cap h th rtt) s = .next t ∧ state t = 5)) ∧
    (x.up = true →
      (∀ (bad : Bool) (corrected : List (Fin 544)) (control : BitVec 20) (data : List (BitVec 10)) (margin : BitVec 18),
        let word := wordRead bad corrected control data
        let got := (wordFlits x.rest word.symbols).1.map withyOf
        let refused := ∃ t, exec (.withyCodewordReceive n f bad corrected control data margin) s = .next t ∧ (t.fib n f).expect = x.expect ∧
          (x.nakAt = none → (t.fib n f).nakAt = some s.clk.now) ∧ (word.failed = true → Counted s t (Reg.wtyCnt n 4) 1) ∧
          t.withy.asm = s.withy.asm ∧ t.withy.transit = s.withy.transit
        (word.failed = true → refused) ∧
        (word.failed = false → wordSequenced word.symbols = true → wordSeq word.symbols ≠ x.expect → refused) ∧
        (word.failed = false → wordSequenced word.symbols = true → none ∈ got → refused) ∧
        (∀ flits : List WithyFlit, word.failed = false → wordSequenced word.symbols = true → wordSeq word.symbols = x.expect →
          got = flits.map some → ∃ t, exec (.withyCodewordReceive n f bad corrected control data margin) s = .next t ∧
            (t.fib n f).expect = (x.expect + 1) % 2 ^ 18 ∧ Counted s t (Reg.wtyCnt n 1) (flits.filter fun y => y.kind != 0).length)) ∧
      (∀ (ack : BitVec 18) (nak : Option (BitVec 18)) (credits : List Nat) (suspect : BitVec 18),
        ∃ t, exec (.withyLinkControl n f ack nak credits suspect) s = .next t ∧ (t.fib n f).replay = (x.acked ack.toNat s.clk.now).replay ∧
          ∀ j, j < 18 → suspect.getLsbD j = true → (t.fib n f).txHealthy.testBit j = false) ∧
      (x.replay ≠ [] → x.ackAt + x.rtt + 1000 ≤ s.clk.now → ∃ t, exec (.withyReplayTimeout n f) s = .next t ∧ (t.fib n f).replay = x.replay ∧
        Counted s t (Reg.wtyCnt n 2) x.replay.length) ∧
      (∀ (j : Fin 18) (pilot : Bool), (s.getF (Reg.fibHealthy n f)).testBit j = true → (pilot = true ∨ 8 ≤ s.colourErrors n f j) →
        ∃ t, exec (.withyColourSuspect n f j pilot) s = .next t ∧ (t.getF (Reg.fibHealthy n f)).testBit j = false ∧
          ∀ k, k < 18 → k ≠ j.val → (t.getF (Reg.fibHealthy n f)).testBit k = (s.getF (Reg.fibHealthy n f)).testBit k) ∧
      (∀ (p : Fin 16) (lost : Fin 18), x.rx[p.val]? = some lost.val → (s.getF (Reg.fibHealthy n f)).testBit lost = false →
        let healthy := coloursOf (s.getF (Reg.fibHealthy n f))
        (∀ spare, healthy.find? (fun j => !decide (j ∈ x.rx)) = some spare → ∃ t, exec (.withyColourSpared n f p lost) s = .next t ∧
          (t.fib n f).rx = replaceColour x.rx lost spare ∧ state t = st ∧ Counted s t (Reg.wtyCnt n 6) 1) ∧
        (healthy.find? (fun j => !decide (j ∈ x.rx)) = none → x.rx.length = 16 → 8 ≤ healthy.length →
          ∃ t, exec (.withyColourSpared n f p lost) s = .next t ∧ (t.fib n f).rx = healthy.take 8 ∧ state t = 3 ∧
            t.getF (Reg.fibActive n f) = 8)) ∧
      (∃ t, exec (.withyAlignmentLost n f) s = .next t ∧ (t.fib n f).up = false ∧ state t = 1 ∧ Counted s t (Reg.wtyCnt n 6) 1)) ∧
    (∀ cause, cause ≠ 2 → cause ≤ 3 → x.up = false → (st = 1 ∨ st = 4) → x.down = false →
      x.trainSince + (if cause = 1 then 5000000 else 1000000) ≤ s.clk.now → ∃ t, exec (.withyDown n f cause) s = .next t ∧
        (t.fib n f).down = true ∧ state t = 4) ∧
    (∀ y : WithyFlit, y.destNode.toNat ≠ s.getF Reg.wtyNode → withyCont y = false →
      let ready := fun (ks : List Nat) => ks ≠ [] ∧ ∀ k ∈ ks, s.fibreTakes k y.tc.toNat = true ∧ s.getF (Reg.fibState (k / 16) (k % 16)) = 2
      let leaves := fun (i : Instr) (ks : List Nat) (hops : BitVec 2) (more : State → Prop) => ∃ t k z, exec i s = .next t ∧ k ∈ ks ∧
        t.net.withy = s.net.withy ++ [(k, z)] ∧ z.destNode = y.destNode ∧ z.hops = hops ∧ more t
      let out := s.usableFibres (s.getF Reg.wtyActive) y.destNode.toNat
      let on := (s.usableFibres y.epoch.toNat y.destNode.toNat).filter fun k => k / 16 == n.val
      ((y.reply = true ∨ (s.ioTurn y.srcUnit.toNat - 28) / 2 = n.val) →
        (ready out → leaves (.withyOutboundFlit n y) out 0 fun _ => True) ∧
        (out = [] → ∃ t, exec (.withyOutboundFlit n y) s = .next t ∧ t.net.withy = s.net.withy ∧ Counted s t (Reg.wtyCnt n 8) 1)) ∧
      let held := s.withy.transit.erase (n.val, y)
      (y.hops = 3 → ∃ t, exec (.withyTransitFlit n y) s = .next t ∧ t.net.withy = s.net.withy ∧ Counted s t (Reg.wtyCnt n 9) 1 ∧
        t.withy.transit = held) ∧
      (y.hops ≠ 3 → ready on → leaves (.withyTransitFlit n y) on (y.hops + 1) fun t => Counted s t (Reg.wtyCnt n 7) 1 ∧
        t.withy.transit = held) ∧
      (y.hops ≠ 3 → on = [] → ∃ t, exec (.withyTransitFlit n y) s = .next t ∧ t.net.withy = s.net.withy ∧ Counted s t (Reg.wtyCnt n 8) 1 ∧
        t.withy.transit = held))

/-- R261, R376-R381, R383: a request of another node, as its flits spell it, enters the package under the proxy's tag or is refused where it
names a reserved range, and waits while flits are missing; its reply is recorded, but for a LOAD's, and goes back with the node's own tag; an
assembly that is incomplete 64 µs after its first flit is discarded; a reply for this node goes on once its flits are here; four frames after
a flip each die discards what it holds of the old version, and counts it; route entries are read and written, but not those of an active or
draining version; an exchange 65,536 st after the last moves the offset toward the measured one, which aligns the node at the sixteenth that
agrees; a parent out of reach for 1 ms is lost and the offset held, and after 400 ms more the alignment is lost; a plait's home answers the
nodes that join, its completion reaches the forwarder, and a rim channel's root counts arrivals of the present generation, releases every
node with the last, and its release completes the I/O set. -/
def Obligations.WithyRequestsAndTime : Prop :=
  (∀ (n : IoN) (m : Req) (s : State), s.alive = true → s.isHere m.srcNode.toNat = false →
    (s.assembledReq n m = none → exec (.withyInboundRequest n m) s = .next s) ∧
    (∀ r, s.assembledReq n m = some r → r.rack = none →
      let r' := { r with deadline := ((r.deadline : Int) - s.wtyOffset).toNat }
      Admitted s (0x1200 + n.val) r' → s.proxiedFor n r = none →
      (proxyRefuses r = false → ∃ t e p, exec (.withyInboundRequest n m) s = .next t ∧
        t.engine = s.engine ++ [e] ∧ e.unit = 0x1210 + n.val ∧ e.req.remote = true ∧ e.req.opc = r.opc ∧ e.req.ga = r.ga ∧
        t.withy.proxied = s.withy.proxied ++ [p] ∧ p.node = r.srcNode.toNat ∧ p.seq = r.seq.toNat ∧ p.localSeq = e.seq) ∧
      (proxyRefuses r = true → ∃ t a, exec (.withyInboundRequest n m) s = .next t ∧ t.engine = s.engine ∧
        t.withy.outbound = s.withy.outbound ++ [(r.replyPort.val, a)] ∧ a.seq = r.seq ∧ a.status = 0x12))) ∧
  (∀ (n : IoN) (r : Reply) (p : Proxied) (e : EngineReq) (s : State), s.alive = true →
    s.withy.proxied.find? (fun p => p.die == n.val && p.localSeq == r.seq.toNat) = some p →
    s.engine.find? (fun e => e.unit == proxyUnit n && e.seq == r.seq.toNat) = some e → r.srcUnit.toNat = proxyUnit n →
    r.srcNode.toNat = p.node → ∃ t a, exec (.withyProxyReply n r) s = .next t ∧ t.net.replies = s.net.replies.erase r ∧
      t.withy.outbound = s.withy.outbound ++ [(p.port, a)] ∧ a.srcUnit = BitVec.ofNat 16 p.unit ∧ a.seq = BitVec.ofNat 24 p.seq ∧
      a.status = r.status ∧ a.value = r.value ∧ a.data = r.data ∧
      (p.opc ≠ 1 → ∃ l ∈ (t.ledger (0x1200 + n.val)).entries, l.node = p.node ∧ l.unit = p.unit ∧ l.seq = p.seq ∧ l.status = r.status.toNat)) ∧
  (∀ (n : IoN) (port : PortN) (r : Reply) (s : State), s.alive = true → s.isHere r.srcNode.toNat = true →
    s.getF (Reg.hubState port) ≠ 3 → (s.assembledReply n r = none → exec (.withyInboundReply n port r) s = .next s) ∧
      ∀ q, s.assembledReply n r = some q → ∃ t, exec (.withyInboundReply n port r) s = .next t ∧ t.net.replies = s.net.replies ++ [q]) ∧
  (∀ (n : IoN) (node unit : BitVec 16) (inc : Byte) (seq : BitVec 24) (s : State), s.alive = true →
    let late := fun (a : Assembly) => a.die = n.val ∧ a.node = node.toNat ∧ a.unit = unit.toNat ∧ a.inc = inc.toNat ∧ a.seq = seq.toNat ∧
      a.first + 64000 ≤ s.clk.now ∧ a.message = none
    (∃ a ∈ s.withy.asm, late a) → ∃ t, exec (.withyAssemblyTimeout n node unit inc seq) s = .next t ∧ t.net = s.net ∧
      ∀ a, a ∈ t.withy.asm ↔ a ∈ s.withy.asm ∧ ¬ late a) ∧
  (∀ s : State, s.alive = true →
    (s.on Reg.wtyDraining = true → s.withy.flipFrame + 4 ≤ s.clk.frame →
      let old := decide (s.getF Reg.wtyActive = 0)
      ∃ t, exec (.routeDrained (s.heldFlits 0 old) (s.heldFlits 1 old)) s = .next t ∧ t.on Reg.wtyDraining = false ∧ Counted s t (Reg.wtyCnt 0 10) (s.heldFlits 0 old) ∧
        Counted s t (Reg.wtyCnt 1 10) (s.heldFlits 1 old) ∧ ∀ x ∈ t.withy.transit, x.1 < 2 → x.2.epoch ≠ old) ∧
    (∀ v : W32, s.answers s.wtyBlock = true →
      (∃ t, exec (.wtyRtIdxWrite v) s = .next t ∧
        let e := s.routeEntry (v.toNat / 2 ^ 16 % 2) (v.toNat % 2 ^ 16)
        t.getR Reg.wtyRtLo.addr = e.1 ∧ t.getR Reg.wtyRtHi.addr = e.2 ∧ t.withy = s.withy) ∧
      (s.getF Reg.wtyRtVersion ≠ s.getF Reg.wtyActive → s.on Reg.wtyDraining = false → ∃ t, exec (.wtyRtHiWrite v) s = .next t ∧
        ∀ ver node, ver < 2 → node < 65536 → t.routeEntry ver node = (if ver = s.getF Reg.wtyRtVersion ∧ node = s.getF Reg.wtyRtNode then
          (s.getR Reg.wtyRtLo.addr, v &&& 0x8001FFFF#32) else s.routeEntry ver node)) ∧
      ((s.getF Reg.wtyRtVersion = s.getF Reg.wtyActive ∨ s.on Reg.wtyDraining = true) → ∃ t, exec (.wtyRtHiWrite v) s = .next t ∧
        t.withy = s.withy ∧ t.on (Reg.wtyRtIgnored 0) = true ∧ t.on (Reg.wtyRtIgnored 1) = true)) ∧
    (s.on Reg.wtyTimeEnable = true →
      let root := s.getF Reg.wtyParent = s.getF Reg.wtyNode
      (∀ (sent pin pout : Int) (hops : Nat), s.getF Reg.wtyNode ≠ 0xFFFF → s.withy.exchangedAt + 65536 ≤ s.clk.now →
        (root → ∃ t, exec (.timeExchange sent ⟨pin, pout⟩ hops) s = .next t ∧ t.wtyOffset = 0 ∧ t.getF Reg.wtyErrorBound = 0 ∧
          t.on Reg.wtyParentLost = false ∧ t.withy.exchangedAt = s.clk.now) ∧
        (¬ root → s.fibresTo (s.getF Reg.wtyParent) ≠ [] →
          let measured := measuredOffset sent pin pout s.clk.now
          let new := slewed s.wtyOffset measured (s.clk.now - s.withy.exchangedAt)
          let agrees := measured - new ≤ 2 ∧ new - measured ≤ 2
          ∃ t, exec (.timeExchange sent ⟨pin, pout⟩ hops) s = .next t ∧ t.wtyOffset = (BitVec.ofInt 64 new).toInt ∧
            t.getF Reg.wtyErrorBound = Min.min 255 (2 * hops) ∧ t.on Reg.wtyParentLost = false ∧ t.withy.exchangedAt = s.clk.now ∧
            (agrees → t.withy.agreed = s.withy.agreed + 1) ∧ (¬ agrees → t.withy.agreed = 0) ∧
            (agrees → 15 ≤ s.withy.agreed → t.on Reg.wtyAligned = true))) ∧
      (∀ c, ¬ root → s.on Reg.wtyParentLost = false → s.withy.cutAt = some c → c + 1000000 ≤ s.clk.now →
        s.fibresTo (s.getF Reg.wtyParent) = [] → ∃ t, exec .timeParentLost s = .next t ∧ t.on Reg.wtyParentLost = true ∧
          t.withy.agreed = 0 ∧ t.withy.lostAt = s.clk.now ∧ t.wtyOffset = s.wtyOffset)) ∧
    (s.on Reg.wtyParentLost = true → s.on Reg.wtyAligned = true → s.withy.lostAt + 400000000 ≤ s.clk.now →
      ∃ t, exec .nodeAlignLost s = .next t ∧ t.on Reg.wtyAligned = false)) ∧
  (∀ (g : PlaitN) (node : BitVec 16) (s : State), s.alive = true → s.isHere node.toNat = false →
    (s.plait g = none → ∃ t, exec (.plaitJoin g node) s = .next t ∧ t.net.msgs = s.net.msgs ++ [(node.toNat, .plaitStatus g 0x12 0)]) ∧
    (∀ x, s.plait g = some x → x.phase ≠ 4 → ∃ t, exec (.plaitJoin g node) s = .next t ∧
      t.plait g = some { x with nodes := addTo x.nodes node.toNat } ∧ t.net = s.net) ∧
    (∀ x, s.plait g = some x → x.phase = 4 → x.fault = 0 → ∃ t, exec (.plaitJoin g node) s = .next t ∧
      t.net.msgs = s.net.msgs ++ [(node.toNat, .plaitStatus g x.status x.count)])) ∧
  (∀ (g : PlaitN) (st : Byte) (k : Nat) (f : Forwarder) (s : State), s.alive = true → s.forwarder g = some f →
    ∃ t, exec (.plaitHomeStatus g st k) s = .next t ∧ t.forwarder g = none ∧
      (st ≠ 0x12 → ∃ e, t.engine = s.engine ++ [e] ∧ e.req.opc = 0x18 ∧ e.req.ga = f.counter ∧ e.req.operand = 1) ∧
      (st = 0x12 → t.engine = s.engine) ∧
      ∀ d, s.started f.ring f.num = some d → d.finished = false → st ≠ 0 → Completed s t f.ring f.num st.toNat k) ∧
  (∀ (ch : ChanN) (s : State), s.alive = true → s.on (Reg.rimNodesValid ch) = true → (s.rimNet ch).sent = true →
    (∀ (n : IoN) (tag : NodeTag), s.isHere (s.getF (Reg.rimRoot ch)) = true → s.isHere tag.node.toNat = false →
      Admitted s (0x1200 + n.val) (s.nodeReq ch tag) →
      let all := addTo (s.rimNet ch).nodes tag.node.toNat
      let gen := s.on (Reg.rimGen 28 ch)
      (all.length < s.getF (Reg.rimNodes ch) → ∃ t, exec (.rimNodeArrival ch ⟨n, gen, tag⟩) s = .next t ∧ (t.rimNet ch).nodes = all ∧
        t.net.msgs = s.net.msgs) ∧
      (s.getF (Reg.rimNodes ch) ≤ all.length → ∃ t, exec (.rimNodeArrival ch ⟨n, gen, tag⟩) s = .next t ∧ (t.rimNet ch).released = true ∧
        (t.rimNet ch).nodes = [] ∧ ∀ k ∈ all, s.isHere k = false → (k, NodeMsg.rimRelease ch gen) ∈ t.net.msgs) ∧
      (∃ t, exec (.rimNodeArrival ch ⟨n, !gen, tag⟩) s = .next t ∧ t.rimNet ch = s.rimNet ch ∧ t.net.msgs = s.net.msgs)) ∧
    (s.isHere (s.getF (Reg.rimRoot ch)) = false → ∃ t, exec (.rimRootRelease ch) s = .next t ∧ (t.rimNet ch).released = true ∧
      ∀ p ∈ [28, 29, 30, 31], (t.chan p ch).sent = true))

/-! ## Health and control (R388-R416, R465, R466) -/

/-- R399, R400, R410-R412, R466: an isolated die's tiles stop, and the requests held for it are answered TARGET_RESTARTED 16,000 st later; it
rejoins with a new incarnation and empty scratchpads, and is operational once its store die is; the third isolation within 1 s leaves it
failed; a lost feed is shown and counted, a restored one is shown, a failed regulator takes its set of eight out of service, and a die above
its trip temperature drives the trip pin. -/
def Obligations.DiesAreIsolatedAndRejoin : Prop :=
  (∀ (d : DieN) (s : State), s.alive = true →
    let recent := (s.cdie d).isolations.filter fun x => decide (s.clk.now < x + 1000000000)
    let isolated := fun (t : State) => t.getF (Reg.dieState d) = (if 2 ≤ recent.length then 4 else 2) ∧
      (t.cdie d).fencedAt = some s.clk.now ∧ Counted s t (Reg.hlthCnt 0) 1 ∧ ∀ u, u / 512 = d.val → t.tile u = Tile.zero
    (s.getF (Reg.dieState d) = 1 → (∀ c : Cause, ∃ t, exec (.dieIsolated d c) s = .next t ∧ isolated t) ∧
      (∃ t, exec (.hlthDieReset (Fin.ofNat 30 d)) s = .next t ∧ isolated t ∧ t.on (Reg.dieResetBit d) = true) ∧
      (∃ t, exec (.dieThermalShutdown (Fin.ofNat 30 d)) s = .next t ∧ t.getF (Reg.dieState d) = (if 2 ≤ recent.length then 4 else 2) ∧
        (t.cdie d).shutdown = true ∧ d.val ∈ t.pins.hot)) ∧
    (∀ since, (s.cdie d).fencedAt = some since → (s.cdie d).fenceDone = false → since + 16000 ≤ s.clk.now →
      ∃ t, exec (.isolationFenceTimeout d) s = .next t ∧ (t.cdie d).fenceDone = true ∧ t.mem = s.mem ∧
        ∀ r ∈ s.net.reqs, s.forDie d r = true → ∃ a ∈ t.net.replies, a.srcUnit = r.srcUnit ∧ a.seq = r.seq ∧ a.status = 0x30) ∧
    (s.getF (Reg.dieState d) = 2 → (s.on Reg.autoRejoin = true ∨ s.on (Reg.dieResetBit d) = true) → (s.cdie d).fenceDone = true →
      ((s.cdie d).shutdown = false ∨ d.val ∉ s.pins.hot) → ∀ failed, ∃ t, exec (.dieRejoin d failed) s = .next t ∧
        t.getF (Reg.dieState d) = 3 ∧ t.getF (Reg.dieInc d) = (s.getF (Reg.dieInc d) + 1) % 256 ∧ t.on (Reg.dieResetBit d) = false ∧
        ∀ a, spadBase (d.val * 512) ≤ a → a < spadBase (d.val * 512) + 288 * 0x100000 → t.rdByte a = 0) ∧
    (s.getF (Reg.dieState d) = 3 → s.getF (Reg.sdState d) = 1 → ∃ t, exec (.dieRejoined d) s = .next t ∧ t.getF (Reg.dieState d) = 1 ∧
      (t.cdie d).fencedAt = none ∧ t.on (Reg.clockLost d) = false ∧ Counted s t (Reg.hlthCnt 1) 1 ∧ t.mem = s.mem)) ∧
  (∀ (b : Bool) (s : State), s.alive = true →
    let pin := fun (t : State) (x : Bool) => if x then t.pins.feedB else t.pins.feedA
    (s.on (Reg.feedOk b.toNat) = true → ∃ t, exec (.feedLost b) s = .next t ∧ t.on (Reg.feedOk b.toNat) = false ∧ pin t b = false ∧
      pin t (!b) = pin s (!b) ∧ Counted s t (Reg.hlthCnt 7) 1 ∧ (t.getF Reg.degraded).testBit 8 = true) ∧
    (s.on (Reg.feedOk b.toNat) = false → ∃ t, exec (.feedRestored b) s = .next t ∧ t.on (Reg.feedOk b.toNat) = true ∧ pin t b = true ∧
      pin t (!b) = pin s (!b)) ∧
    (∀ j : Fin 8, s.on (Reg.pwrRegFailed (8 * b.toNat + j)) = false → ∃ t, exec (.regulatorFailed b j) s = .next t ∧
      t.on (Reg.pwrRegFailed (8 * b.toNat + j)) = true ∧ t.on (Reg.feedSetOk b.toNat) = false ∧ t.pins = s.pins ∧
      ∀ i, i < 8 → t.on (Reg.pwrRegInService (8 * b.toNat + i)) = false)) ∧
  (∀ (i : DieIdx) (above : Bool) (s : State), s.alive = true → ∃ t, exec (.thermTrip i above) s = .next t ∧
    (above = true → i.val ∈ t.pins.hot) ∧ (above = false → i.val ∉ t.pins.hot) ∧
    (∀ k, k ≠ i.val → (k ∈ t.pins.hot ↔ k ∈ s.pins.hot)) ∧
    t.on Reg.hlthThermTrip = if s.controlGap = true then s.on Reg.hlthThermTrip else !t.pins.hot.isEmpty)

/-- R27, R401-R409: a capture acknowledged whole is the standby's copy; heartbeats show the paths on which they arrive, the optical one only
with light, and a missed one counts; one path without heartbeats is shown, and sixteen missed in a row on both make a takeover due with
evidence, or the standby not current with both dies alive; a resignation makes a takeover due, and a standby that fails is lost; a takeover
passes control to the other die with its copy, or without one stops the rings; a restarted die joins as the standby with a new incarnation
and a full copy, and is ready after 100 ms and 1,024 frames; a hand-back stops descriptor starts before a tick and moves control after it,
and the old die is the standby, or restarts where a reset asked for it. -/
def Obligations.ControlPassesBetweenTheDies : Prop :=
  ∀ s : State, s.alive = true →
    let a := s.controller
    let b := s.standbyDie
    let ready := fun (t : State) => t.getF Reg.hlthStandby
    let watched := ∀ u ∈ s.clk.stopped, u ≠ 0x1200 ∧ u ≠ 0x1201
    (∀ (c : Copy) (n : Nat), s.ctl.sending = some c → ∃ t, exec (.shadowCopyAcked n) s = .next t ∧ t.ctl.sending = none ∧
      t.ctl.copy = some c ∧ Counted s t (Reg.hlthCnt 5) n ∧ (65536 < n → Counted s t (Reg.hlthCnt 6) 1)) ∧
    (∀ o e : Bool, ready s ≠ 0 → ∃ t, exec (.heartbeat o e) s = .next t ∧ t.on Reg.shadowOptical = (o && s.shadowLit) ∧
      t.on Reg.shadowElectrical = e ∧ ((o = false ∨ s.shadowLit = false) → e = false → Counted s t (Reg.hlthCnt 4) 1 ∧
        t.ctl.missed = s.ctl.missed + 1) ∧ ((o && s.shadowLit) = true ∨ e = true → t.ctl.missed = 0)) ∧
    (watched → (∃ t, exec (.heartbeatsMissed .opticalOnly) s = .next t ∧ t.on Reg.shadowOptical = false ∧ t.ctl = s.ctl) ∧
      (∃ t, exec (.heartbeatsMissed .electricalOnly) s = .next t ∧ t.on Reg.shadowElectrical = false ∧ t.ctl = s.ctl)) ∧
    (watched → 16 ≤ s.ctl.missed → s.activeDead = true → (s.getF (Reg.dieState (28 + b)) = 1 ∨ s.getF (Reg.dieState (28 + b)) = 6) →
      ∃ t, exec (.heartbeatsMissed .bothWithEvidence) s = .next t ∧ t.ctl.takeover.isSome = true ∧ t.regs = s.regs) ∧
    (watched → 16 ≤ s.ctl.missed → s.activeDead = false → (ready s = 1 ∨ ready s = 2) → ∃ t, exec (.heartbeatsMissed .bothAlive) s = .next t ∧ ready t = 3 ∧
      t.controller = a) ∧
    (s.getF (Reg.dieState (28 + b)) = 6 → (∃ t, exec .controlResign s = .next t ∧ t.ctl.takeover = some (if ready s = 2 then 1 else 5)) ∧
      ∃ t, exec .standbyLost s = .next t ∧ t.getF (Reg.dieState (28 + b)) = 2 ∧ ready t = 0 ∧ t.ctl.copy = none ∧ t.controller = a) ∧
    (∀ cause gap, s.ctl.takeover = some cause → ∃ t, exec (.controlTakeover gap) s = .next t ∧ t.controller = b ∧
      t.getF (Reg.dieState (28 + b)) = 1 ∧ ready t = 0 ∧ t.ctl.takeover = none ∧ t.getF Reg.lastKind = 0 ∧
      t.getF Reg.lastGap = Min.min 4095 gap ∧ Counted s t (Reg.hlthCnt 2) 1 ∧
      (∀ c, ready s = 2 → s.ctl.copy = some c → t.hawk.staged = c.staged ∧ t.getF Reg.takeoverCause = cause % 8) ∧
      ((ready s ≠ 2 ∨ s.ctl.copy = none) → t.getF Reg.takeoverCause = 5 ∧ ∀ n, n < 256 → t.getF (Reg.sqState n) = 0)) ∧
    (ready s = 0 → (∀ x ∈ [5, 6], s.getF (Reg.dieState (28 + b)) ≠ x) → 4 ≤ s.getF Reg.glbPhase → s.getF Reg.glbPhase ≠ 15 →
      s.on (Reg.identHeldOut (28 + b)) = false → ∃ t, exec .standbyJoin s = .next t ∧ t.getF (Reg.dieState (28 + b)) = 6 ∧ ready t = 1 ∧
        t.ctl.copy.isSome = true ∧ t.ctl.joinAt = s.clk.now ∧
        t.getF (Reg.dieInc (28 + b)) = (s.getF (Reg.dieInc (28 + b)) + 1) % 256) ∧
    (ready s = 1 → s.ctl.joinAt + 100000000 ≤ s.clk.now → s.ctl.joinFrame + 1024 ≤ s.clk.frame → ∃ t, exec .standbyReady s = .next t ∧
      ready t = 2 ∧ t.ctl = s.ctl) ∧
    (∀ v : W32, ∃ t, exec (.preferredWrite v) s = .next t ∧ t.getR Reg.preferred.addr = v &&& 3#32 ∧
      ∀ x, x ≠ Reg.preferred.addr → t.getR x = s.getR x) ∧
    (s.handDue = true → s.ctl.startsStopped = false → s.clk.running = true → ∃ t, exec .handbackFetchStop s = .next t ∧
      t.ctl.startsStopped = true ∧ t.ctl.handTick = s.nextTick ∧ t.clk.now = Max.max s.clk.now (s.nextTick - 4096) ∧ t.regs = s.regs) ∧
    (∀ gap, s.handDue = true → s.ctl.startsStopped = true → s.ctl.handTick ≤ s.clk.tick → ∃ t, exec (.controlHandback gap) s = .next t ∧
      t.controller = b ∧ t.getF (Reg.dieState (28 + b)) = 1 ∧ t.ctl.startsStopped = false ∧ t.getF Reg.lastKind = 1 ∧
      Counted s t (Reg.hlthCnt 3) 1 ∧ (s.ctl.restart = false → t.getF (Reg.dieState (28 + a)) = 6 ∧ ready t = ready s) ∧
      (s.ctl.restart = true → t.getF (Reg.dieState (28 + a)) = 0 ∧ ready t = 0)) ∧
    (s.getF (Reg.dieState (28 + a)) ≠ 5 → ∃ t, exec (.hlthDieReset (Fin.ofNat 30 (28 + a))) s = .next t ∧ t.ctl.restart = true ∧
      t.on (Reg.dieResetBit (28 + a)) = true ∧ t.controller = a) ∧
    (s.getF (Reg.dieState (28 + b)) ≠ 5 → ∃ t, exec (.hlthDieReset (Fin.ofNat 30 (28 + b))) s = .next t ∧
      t.getF (Reg.dieState (28 + b)) = 0 ∧ ready t = 0 ∧ t.controller = a)

/-! ## The hawk and the security commands (R420-R430, R439-R451) -/

/-- R420, R421, R424-R426, R429: GO starts a check of the frame that TROWEL_AT names; a check that every rule passes arms the staged set, one
that fails reports the lowest code and keeps what is staged; CANCEL drops the armed set up to 60,000 st before its tick; DISCARD
empties the bank unless a check runs; a profile stages its frequency and memory step with it. -/
def Obligations.HawkChecksAndArms : Prop :=
  ∀ s : State, s.alive = true →
    let st := s.getF Reg.hawkState
    (s.answers Reg.hawkBase = true →
      (st ≠ 1 → st ≠ 2 → ∃ t c, exec .hawkCheckGo s = .next t ∧ t.getF Reg.hawkState = 1 ∧ t.hawk.check = some c ∧
        c.goTime = s.clk.now ∧ c.frame = s.resolveFrame (s.getF Reg.trowelAt) ∧ t.hawk.staged = s.hawk.staged) ∧
      ((st = 1 ∨ st = 2) → ∃ t, exec .hawkCheckGo s = .next t ∧ t.hawk = s.hawk ∧ t.on Reg.hawkWriteIgnored = true) ∧
      (∀ x, s.hawk.armed = some x →
        (x.tick < s.clk.now + 60000 → ∃ t, exec .hawkCancel s = .next t ∧ t.hawk = s.hawk ∧ t.on Reg.hawkCancelLate = true) ∧
        (s.clk.now + 60000 ≤ x.tick → ∃ t, exec .hawkCancel s = .next t ∧ t.hawk.armed = none ∧ t.getF Reg.hawkState = 0)) ∧
      (st ≠ 1 → ∃ t, exec .hawkDiscard s = .next t ∧ t.hawk.staged = [] ∧ t.hawk.rgnStage = [] ∧ t.hawk.armed = s.hawk.armed) ∧
      (st = 1 → exec .hawkDiscard s = .next s)) ∧
    (∀ c, s.hawk.check = some c →
      ((∀ r ∈ s.hawkRules c, r.2.1 = false) → ∃ t a, exec .hawkCheckDone s = .next t ∧ t.getF Reg.hawkState = 2 ∧
        t.getF Reg.hawkRule = 0 ∧ t.hawk.armed = some a ∧ a.frame = (c.frame % 2 ^ 48).toNat ∧ a.tick = c.tick ∧
        a.words = s.hawk.staged ∧ t.hawk.staged = [] ∧ t.hawk.rgnStage = [] ∧ t.hawk.check = none) ∧
      (∀ r, (s.hawkRules c).find? (fun r => r.2.1) = some r → ∃ t, exec .hawkCheckDone s = .next t ∧ t.getF Reg.hawkState = 3 ∧
        t.getF Reg.hawkRule = r.1 ∧ t.getF Reg.hawkDetail = r.2.2 % 2 ^ 32 ∧ t.hawk.staged = s.hawk.staged ∧ t.hawk.check = none ∧
        t.hawk.armed = s.hawk.armed)) ∧
    (∀ v : W32, (st ≠ 1 → ∃ t, exec (.profileWrite v) s = .next t ∧ t.getSF Reg.glbProfile = v.toNat % 4 ∧
        t.getSF Reg.computeMhz = profileMhz (v.toNat % 4) ∧ t.getSF Reg.memStep = profileStep (v.toNat % 4) ∧ t.regs = s.regs) ∧
      (st = 1 → ∃ t, exec (.profileWrite v) s = .next t ∧ t.hawk = s.hawk ∧ t.on Reg.hawkWriteIgnored = true))

/-- R439-R442, R444, R446-R448, R450, R451: a broken seal loop wipes the store and leaves the part RETURNED, once; a command opens its window
with the seal intact and no other command or transition in progress, is refused with the seal broken or another command in progress, and
executes after a presence hold of 2,000 ms within 30 s: an ADVANCE reaches its target, DEBUG_UNLOCK unlocks, SEALED_CLEAR wipes; a window
expires after 30 s; an interrupted transition ends at its target; a failing random source is shown. -/
def Obligations.SecurityCommands : Prop :=
  ∀ s : State, s.alive = true → (s.ioOut 0 = false ∨ s.ioOut 1 = false) →
    let st := s.getF Reg.secCmdState
    let wiped := fun (t : State) => ∀ d, d < 2 → s.ioOut d = false → (t.sealCopy d).secret = none ∧ (t.sealCopy d).pend = none
    let opens := fun (i : Instr) (code : Nat) => ∃ t, exec i s = .next t ∧ t.getF Reg.secCmdState = 1 ∧ t.getF Reg.secResult = 0 ∧
      t.sec.openAt = s.clk.now ∧ t.sec.code = code ∧ t.sec.copies = s.sec.copies
    let refused := fun (i : Instr) (cause : Nat) => ∃ t, exec i s = .next t ∧ t.getF Reg.secCmdState = 5 ∧ t.getF Reg.secResult = cause ∧
      Counted s t (Reg.secCnt 2) 1 ∧ t.sec = s.sec
    (2 < s.getF Reg.glbPhase →
      (∃ t, exec (.sealTest true) s = .next t ∧ t.on Reg.sealIntact = true ∧ t.sec = s.sec) ∧
      (s.on Reg.sealIntact = false → s.on Reg.sealBrokenSeen = true → ∃ t, exec (.sealTest false) s = .next t ∧ t.sec = s.sec) ∧
      ((s.on Reg.sealIntact = true ∨ s.on Reg.sealBrokenSeen = false) → ∃ t, exec (.sealTest false) s = .next t ∧
        t.on Reg.sealIntact = false ∧ t.on Reg.sealBrokenSeen = true ∧ wiped t ∧ lifecycleOf t.fuseCount = 3 ∧ t.getF Reg.secLifecycle = 3)) ∧
    (s.answers Reg.secBase = true →
      (s.on Reg.sealIntact = true → st ≠ 1 → st ≠ 2 → st ≠ 3 → s.on Reg.journalActive = false →
        (∀ target : BitVec 2, allowedStep (lifecycleOf s.fuseCount) target.toNat = true → s.fuseCount ≠ 15 →
          (target.toNat = 3 ∨ s.on Reg.rngOk = true) → opens (.advance target) 1) ∧
        opens .debugUnlock 2 ∧ opens .sealedClear 3) ∧
      (s.on Reg.sealIntact = false → (∀ target, refused (.advance target) 2) ∧ refused .debugUnlock 2 ∧ refused .sealedClear 2) ∧
      (s.on Reg.sealIntact = true → (st = 1 ∨ st = 2 ∨ st = 3) → (∀ target, refused (.advance target) 3) ∧ refused .debugUnlock 3 ∧
        refused .sealedClear 3)) ∧
    (st = 1 → s.sec.released = true → ∃ t, exec (.presenceChange true) s = .next t ∧ t.getF Reg.secCmdState = 2 ∧
      t.sec.holdAt = s.clk.now ∧ t.pins.presenceAsserted = true) ∧
    ((st = 1 ∨ st = 2) → ∃ t, exec (.presenceChange false) s = .next t ∧ t.getF Reg.secCmdState = 1 ∧ t.sec.released = true ∧
      t.pins.presenceAsserted = false) ∧
    ((st = 1 ∨ st = 2) → s.sec.openAt + 30000000000 ≤ s.clk.now → ∃ t, exec .secCmdExpired s = .next t ∧ t.getF Reg.secCmdState = 6 ∧
      Counted s t (Reg.secCnt 3) 1 ∧ t.sec = s.sec) ∧
    (st = 2 → s.sec.holdAt + 2000000000 ≤ s.clk.now → s.sec.holdAt + 2000000000 ≤ s.sec.openAt + 30000000000 →
      let done := fun (more : State → Prop) => ∃ t, exec (.presenceHoldComplete none) s = .next t ∧ t.getF Reg.secCmdState = 4 ∧
        t.getF Reg.secResult = 0 ∧ Counted s t (Reg.secCnt 1) 1 ∧ more t
      (s.sec.code = 1 → 1 ≤ s.sec.target → s.sec.target ≤ 3 → done fun t => lifecycleOf t.fuseCount = s.sec.target ∧
        s.fuseCount ≤ t.fuseCount ∧ t.on Reg.journalActive = false) ∧
      (s.sec.code = 2 → done fun t => t.on Reg.debugUnlocked = true ∧ t.sec = s.sec) ∧
      (s.sec.code = 3 → done fun t => wiped t ∧ t.fuseCount = s.fuseCount)) ∧
    (∀ target step : Nat, s.store.journal = some (target, step) → 1 ≤ target → target ≤ 3 → ∀ up : Bool,
      (up = false ∨ s.on Reg.glbReady = true) → ∃ t, exec (.transitionResumed up) s = .next t ∧ lifecycleOf t.fuseCount = target ∧
        t.on Reg.journalActive = false) ∧
    (∀ (n : IoN) (test : Nat), s.ioOut n = false → ∃ t, exec (.rngFault n test) s = .next t ∧ t.on Reg.rngOk = false ∧
      Counted s t (Reg.secCnt 4) 1)

/-! ## Steps, frames and invariants -/

/-- A step takes the command at the front of the queue and runs it on the state with the rest of the queue; on an empty queue only
stake time can count on, and never past the next tick (log entry 9). -/
def Obligations.StepRunsTheFrontCommand : Prop :=
  (∀ (c : Instr) (rest : List Instr) (s : State), s.pending = c :: rest → step s = exec c { s with pending := rest }) ∧
  (∀ s : State, s.pending = [] → ∃ n, step s = .next { s with clk := { s.clk with now := n } } ∧ s.clk.now ≤ n ∧ n ≤ s.clk.now + 1 ∧
    (s.clk.running = false → n = s.clk.now) ∧ (s.clk.now < n → n < s.nextTick))

/-- R15, R39, R418, R420, R431: right after reset the package is stilled, no stake time has counted, bring-up is in phase 0, no tile
runs a course and every register reads its reset value. The values of TOWER registers that the spec states are among them. -/
def Obligations.ResetState : Prop :=
  Stilled State.reset ∧ State.reset.pending = [] ∧ State.reset.clk.now = 0 ∧ State.reset.clk.frame = 0 ∧
  State.reset.clk.running = false ∧ (∀ a, State.reset.getR a = regReset a) ∧ (∀ a, State.reset.rdByte a = 0) ∧
  (∀ u, State.reset.tile u = Tile.zero) ∧ State.reset.courses = [] ∧ State.reset.getF Reg.glbPhase = 0 ∧
  State.reset.on Reg.glbReady = false ∧ State.reset.getF Reg.fpK = 64 ∧ State.reset.getF Reg.hlthController = 0 ∧
  Memory.wf State.reset.mem.bytes = true

/-- R388, R410: a package without a feed in range, or whose stake-time master has failed, stays so with every step until a POWER_UP
is commanded. -/
def Obligations.StilledStaysStilled : Prop := ∀ s t : State, Stilled s → step s = .next t → Stilled t

/-- The machine has no fault and no refusal: every command of the table answers a next state from every state. R388, R312, R410: of the
commands, only a power-up, a power-down, an SMBus read and what the stack controllers' own clocks and the failing master do change a
package that serves no request. -/
def Obligations.EveryCommandCompletes : Prop :=
  (∀ (c : Instr) (s : State), ∃ t, exec c s = .next t) ∧
  (∀ (c : Instr) (s : State), s.alive = false →
      (match c with
       | .powerUp _ _ => False | .powerDown => False | .smbusRead _ _ => False | .pwrfailFlushDone _ => False
       | .commitDone _ _ => False | .masterFailed => False | _ => True) →
      exec c s = .next s)

/-- Everything but tile u, its registers and tallies, the failing completions that its course records, memory, the events and what is
in flight. -/
def OutsideTile (s k : State) (u : Nat) : Prop :=
  (∀ v, v ≠ u → k.tile v = s.tile v) ∧ k.pending = s.pending ∧ k.clk = s.clk ∧ k.pins = s.pins ∧ k.hawk = s.hawk ∧
  k.courses.map (fun c => { c with faults := [] }) = s.courses.map (fun c => { c with faults := [] }) ∧ k.pageMeta = s.pageMeta ∧ k.scs = s.scs ∧ k.slices = s.slices ∧ k.storeDies = s.storeDies ∧
  k.cdies = s.cdies ∧ k.regions = s.regions ∧ k.engine = s.engine ∧ k.host = s.host ∧ k.ctl = s.ctl ∧ k.snaps = s.snaps ∧
  k.withy = s.withy ∧ k.light = s.light ∧ k.sec = s.sec ∧
  (∀ a, (a < 0x1000000 ∨ 0x1800000 ≤ a) → a ≠ (Reg.ringCnt 9) → a ≠ (Reg.ringCnt 9) + 4 → a ≠ Reg.evrLost.addr → k.getR a = s.getR a)

/-- R65, R99-R122: what no slot of a bundle changes. A slot changes no tile but its own, no register outside the compute dies but the
count of lost events, and nothing of the rest of the package but what is in flight; an S slot keeps the vector registers,
accumulators, done counters and mover slots, a V slot the scalar registers and predicates, an M slot the scalar registers and
scales, an X slot every datapath register; only ST, VST, VSTS and AST write memory. -/
def Obligations.SlotsKeepTheRest : Prop :=
  ∀ (h : SlotHdr) (w : BitVec 22) (s k : State),
    let u := h.tile.unit
    let a := s.tile u
    let b := k.tile u
    (∀ c ∈ sCommands h w, s.acts h 0 = true → exec c s = .next k → OutsideTile s k u ∧ b.vregs = a.vregs ∧ b.scales = a.scales ∧
      b.accs = a.accs ∧ b.tags = a.tags ∧ b.done = a.done ∧ b.mover = a.mover ∧ b.rows = a.rows ∧ b.look = a.look ∧
      b.bank0 = a.bank0 ∧ b.bank1 = a.bank1 ∧ b.member = a.member ∧ (c ≠ .st h w → k.mem = s.mem)) ∧
    (∀ c ∈ vCommands h w, s.acts h 1 = true → exec c s = .next k → OutsideTile s k u ∧ k.courses = s.courses ∧ k.net = s.net ∧ k.fab = s.fab ∧
      b.preds = a.preds ∧ b.accs = a.accs ∧ b.tags = a.tags ∧ b.done = a.done ∧ b.mover = a.mover ∧ b.rows = a.rows ∧
      b.sigs = a.sigs ∧ b.wait = a.wait ∧ b.look = a.look ∧ b.rnd = a.rnd ∧ b.member = a.member ∧
      (c ≠ .vtos h w → b.sregs = a.sregs) ∧ (c ≠ .vcvt h w → c ≠ .vlds h w → b.scales = a.scales) ∧
      (c ≠ .vcvt h w → b.seed = a.seed) ∧ (c ≠ .vst h w → c ≠ .vsts h w → k.mem = s.mem)) ∧
    (∀ c ∈ mCommands h w, s.acts h 2 = true → exec c s = .next k → OutsideTile s k u ∧ k.courses = s.courses ∧ k.net = s.net ∧ k.fab = s.fab ∧
      b.sregs = a.sregs ∧ b.preds = a.preds ∧ b.scales = a.scales ∧ b.done = a.done ∧ b.mover = a.mover ∧ b.rows = a.rows ∧
      b.sigs = a.sigs ∧ b.wait = a.wait ∧ b.rnd = a.rnd ∧ b.member = a.member ∧
      (c ≠ .ard h w → b.vregs = a.vregs) ∧ (c ≠ .ast h w → k.mem = s.mem)) ∧
    (∀ c ∈ xCommands h w, s.acts h 3 = true → exec c s = .next k → OutsideTile s k u ∧ k.fab = s.fab ∧ k.mem = s.mem ∧
      b.sregs = a.sregs ∧ b.preds = a.preds ∧ b.vregs = a.vregs ∧ b.scales = a.scales ∧ b.accs = a.accs ∧ b.tags = a.tags ∧
      b.rnd = a.rnd ∧ b.aflags = a.aflags ∧ b.seed = a.seed ∧ b.sigs = a.sigs ∧ b.wait = a.wait ∧ b.member = a.member)

/-- R264: a unit that reads a region entry in frame N uses the staged word when PENDING is set and (N − AT_FRAME) mod 2^16 is below
2^15, and the active word otherwise, so that every unit changes
at the same tick. A fold of an entry that is due changes no word that a unit reads from then on. -/
def Obligations.RegionEntriesChangeAtTheirTick : Prop :=
  (∀ (r : Region) (n : Nat), r.word n =
    if r.pending = true ∧ ((n : Int) - (r.atFrame : Int)) % 2 ^ 16 < 2 ^ 15 then r.staged else r.active) ∧
  (∀ (r : Region) (n m : Nat), n % 2 ^ 16 = m % 2 ^ 16 → r.word n = r.word m) ∧
  (∀ (s t : State) (g : GranuleN) (n : Nat), s.alive = true → exec .regionFold s = .next t →
    (∀ e ∈ s.regions, e.1 = g.val → e.2 = s.region g.val) → s.clk.frame ≤ n → n < s.clk.frame + 2 ^ 14 →
    ((s.clk.frame : Int) - (s.region g.val).atFrame) % 2 ^ 16 < 2 ^ 14 →
    (t.region g.val).word n = (s.region g.val).word n)

/-- The commands that can write local memory. -/
def mayStore : Instr → Bool
  | .registerWrite .. | .stakeEcho .. | .dieClockLost .. | .st .. | .vst .. | .vsts .. | .ast .. | .rowMoveDone ..
  | .moverReply .. | .sdReset .. | .sdResetCleared .. | .hubReset .. | .loadReq .. | .storeReq .. | .fadd32Req ..
  | .fadd64Req .. | .faddf32Req .. | .faddbf2Req .. | .swap64Req .. | .cas64Req .. | .min64Req .. | .max64Req ..
  | .and64Req .. | .or64Req .. | .xor64Req .. | .targetCacheFill .. | .pageFetchDone .. | .commitDone .. | .skimVisit ..
  | .pwrfailFlushDone .. | .scReset .. | .scResetDone .. | .scDiscardReset .. | .hostWindowRequest .. | .copy .. | .fill ..
  | .copyQuantumBegin .. | .snapshotGatherDone .. | .attestCapture .. | .completionRecordWrite .. | .eventRecordWrite ..
  | .dieIsolated .. | .dieRejoin .. | .hlthDieReset .. | .engineReply .. | .powerDown .. => true
  | _ => false

/-- R103, R261, R300: local memory is written by the stores of the datapath and of the mover, by requests at their targets, by the
engines' requests, by what the stack controllers fetch, commit and flush, and by the resets of dies and hubs; every other command leaves
every byte of it, the marks and the media as they were. -/
def Obligations.OnlyStoringCommandsWriteMemory : Prop :=
  ∀ (c : Instr) (s t : State), mayStore c = false → exec c s = .next t → t.mem = s.mem

/-- The commands of clocks, control, health, supply, hawk and security that act on no unit of the datapath. -/
def controlSide : Instr → Bool
  | .powerUp .. | .stakeMasterStart .. | .proceed .. | .restoreGateTimeout .. | .masterSwitched .. | .refLost ..
  | .refRestored .. | .slewDone .. | .droopStretch .. | .railRampStart .. | .railRampSettled .. | .memstopSecondWave ..
  | .meshRerouted .. | .gridMeasurement .. | .refvFault .. | .refvRestored .. | .save .. | .darkRequest ..
  | .rgnStageAppend .. | .rgnStageClear .. | .withyAssemblyTimeout .. | .routeDrained .. | .wtyRtIdxWrite ..
  | .wtyRtHiWrite .. | .timeExchange .. | .timeParentLost .. | .nodeAlignLost .. | .heartbeat .. | .heartbeatsMissed ..
  | .controlResign .. | .standbyJoin .. | .standbyReady .. | .preferredWrite .. | .feedLost .. | .feedRestored ..
  | .regulatorFailed .. | .hawkCheckGo .. | .hawkDiscard .. | .profileWrite .. | .sealTest .. | .advance ..
  | .debugUnlock .. | .sealedClear .. | .presenceChange .. | .presenceHoldComplete .. | .secCmdExpired ..
  | .transitionResumed .. | .rngFault .. | .thermTrip .. | .handbackFetchStop .. => true
  | _ => false

/-- R53-R56, R405, R410-R412, R421, R439-R451: the commands of the clocks, the supply, the hawk's staging, the control of the two I/O
dies and the security functions leave memory, tiles, courses, regions, stacks, store dies, hubs, messages in flight and the
rings' contents as they were. -/
def Obligations.ControlCommandsKeepTheDatapath : Prop :=
  ∀ (c : Instr) (s t : State), controlSide c = true → exec c s = .next t →
    t.mem = s.mem ∧ t.tiles = s.tiles ∧ t.courses = s.courses ∧ t.regions = s.regions ∧ t.scs = s.scs ∧ t.slices = s.slices ∧
    t.storeDies = s.storeDies ∧ t.cdies = s.cdies ∧ t.fab = s.fab ∧ t.net = s.net ∧ t.engine = s.engine ∧
    (c ≠ .standbyJoin → t.host = s.host) ∧ t.host.sq = s.host.sq ∧ t.host.cq = s.host.cq ∧ t.pageMeta = s.pageMeta ∧ t.snaps = s.snaps ∧ t.pending = s.pending
end

