-- ==== Sys2Proof/Laws/Tbl.lean ====
section
/-!
SUPPORT. The laws of tables: a read after a write, and the canonical form.
-/
namespace Sys2Proof.Machine

theorem Tbl.look_unlisted {α : Type} (d : Nat → α) (t : Tbl α) (k : Nat) (h : ∀ e ∈ t, e.1 ≠ k) : Tbl.look d t k = d k := by
  induction t with
  | nil => rfl
  | cons e t ih =>
    rw [Tbl.look, if_neg (h e (.head _)), ih fun x hx => h x (.tail _ hx)]

theorem Tbl.look_drop {α : Type} (d : Nat → α) (t : Tbl α) (k j : Nat) :
    Tbl.look d (Tbl.drop t k) j = if j = k then d j else Tbl.look d t j := by
  induction t with
  | nil => simp [Tbl.drop, Tbl.look]
  | cons e r ih =>
    obtain ⟨i, w⟩ := e
    simp only [Tbl.drop] at ih
    by_cases hik : i = k
    · subst hik
      simp only [Tbl.drop, List.filter_cons, bne_self_eq_false, Bool.false_eq_true, if_false, ih, Tbl.look]
      by_cases h : j = i
      · simp [h]
      · simp [h, Ne.symm h]
    · have : (i != k) = true := by simp [hik]
      simp only [Tbl.drop, List.filter_cons, this, if_true, Tbl.look, ih]
      by_cases h : i = j
      · subst h; simp [hik]
      · simp [h]

theorem Tbl.look_ins {α : Type} (d : Nat → α) (t : Tbl α) (k j : Nat) (v : α) (h : ∀ e ∈ t, e.1 ≠ k) :
    Tbl.look d (Tbl.ins k v t) j = if j = k then v else Tbl.look d t j := by
  induction t with
  | nil =>
    by_cases hj : j = k
    · simp [Tbl.ins, Tbl.look, hj]
    · simp [Tbl.ins, Tbl.look, hj, Ne.symm hj]
  | cons e r ih =>
    obtain ⟨i, w⟩ := e
    have hik : i ≠ k := h (i, w) (by simp)
    have ih' := ih (fun e he => h e (by simp [he]))
    by_cases hlt : i < k
    · simp only [Tbl.ins, hlt, if_true, Tbl.look, ih']
      by_cases hij : i = j
      · subst hij; simp [hik]
      · simp [hij]
    · simp only [Tbl.ins, hlt, if_false, Tbl.look]
      by_cases hj : j = k
      · simp [hj]
      · simp [hj, Ne.symm hj]

theorem Tbl.mem_drop {α : Type} (t : Tbl α) (k : Nat) : ∀ e ∈ Tbl.drop t k, e.1 ≠ k := by
  intro e he
  simp [Tbl.drop] at he
  exact he.2

/-- A read after a write, at every key of every table. -/
@[simp] theorem Tbl.look_put {α : Type} [DecidableEq α] (d : Nat → α) (t : Tbl α) (k j : Nat) (v : α) :
    Tbl.look d (Tbl.put d t k v) j = if j = k then v else Tbl.look d t j := by
  unfold Tbl.put
  split
  · rename_i hv
    rw [Tbl.look_drop]
    by_cases h : j = k
    · subst h; simp [hv]
    · simp [h]
  · rw [Tbl.look_ins _ _ _ _ _ (Tbl.mem_drop t k), Tbl.look_drop]
    by_cases h : j = k <;> simp [h]

theorem Tbl.sorted_drop {α : Type} (t : Tbl α) (k : Nat) (h : Tbl.sorted t = true) :
    Tbl.sorted (Tbl.drop t k) = true := by
  induction t with
  | nil => rfl
  | cons e r ih =>
    obtain ⟨i, w⟩ := e
    simp only [Tbl.sorted, Bool.and_eq_true, List.all_eq_true, decide_eq_true_eq] at h
    simp only [Tbl.drop, List.filter_cons]
    split
    · simp only [Tbl.sorted, Bool.and_eq_true, List.all_eq_true, decide_eq_true_eq]
      exact ⟨fun e he => h.1 e (List.mem_filter.mp he).1, ih h.2⟩
    · exact ih h.2

theorem Tbl.mem_ins {α : Type} (t : Tbl α) (k : Nat) (v : α) : ∀ e ∈ Tbl.ins k v t, e = (k, v) ∨ e ∈ t := by
  induction t with
  | nil => simp [Tbl.ins]
  | cons f r ih =>
    obtain ⟨i, w⟩ := f
    intro e he
    unfold Tbl.ins at he
    split at he
    · rcases List.mem_cons.mp he with rfl | he
      · simp
      · rcases ih e he with h | h <;> simp [h]
    · rcases List.mem_cons.mp he with rfl | he
      · simp
      · exact .inr he

theorem Tbl.sorted_ins {α : Type} (t : Tbl α) (k : Nat) (v : α) (h : Tbl.sorted t = true) (hk : ∀ e ∈ t, e.1 ≠ k) :
    Tbl.sorted (Tbl.ins k v t) = true := by
  induction t with
  | nil => simp [Tbl.ins, Tbl.sorted]
  | cons f r ih =>
    obtain ⟨i, w⟩ := f
    simp only [Tbl.sorted, Bool.and_eq_true, List.all_eq_true, decide_eq_true_eq] at h
    have hik : i ≠ k := hk (i, w) (by simp)
    unfold Tbl.ins
    split
    · rename_i hlt
      simp only [Tbl.sorted, Bool.and_eq_true, List.all_eq_true, decide_eq_true_eq]
      refine ⟨fun e he => ?_, ih h.2 (fun e he => hk e (by simp [he]))⟩
      rcases Tbl.mem_ins r k v e he with rfl | he
      · exact hlt
      · exact h.1 e he
    · simp only [Tbl.sorted, Bool.and_eq_true, List.all_eq_true, decide_eq_true_eq]
      refine ⟨fun e he => ?_, h⟩
      rcases List.mem_cons.mp he with rfl | he
      · show k < i
        omega
      · have := h.1 e he
        omega

/-- A write keeps the canonical form. -/
theorem Tbl.wf_put {α : Type} [DecidableEq α] (d : Nat → α) (t : Tbl α) (k : Nat) (v : α) (h : Tbl.wf d t = true) :
    Tbl.wf d (Tbl.put d t k v) = true := by
  simp only [Tbl.wf, Bool.and_eq_true, List.all_eq_true, decide_eq_true_eq] at h ⊢
  have hd : ∀ e ∈ Tbl.drop t k, e ∈ t := fun e he => (List.mem_filter.mp he).1
  unfold Tbl.put
  split
  · exact ⟨Tbl.sorted_drop t k h.1, fun e he => h.2 e (hd e he)⟩
  · rename_i hv
    refine ⟨Tbl.sorted_ins _ _ _ (Tbl.sorted_drop t k h.1) (Tbl.mem_drop t k), fun e he => ?_⟩
    rcases Tbl.mem_ins _ _ _ e he with rfl | he
    · exact hv
    · exact h.2 e (hd e he)

end Sys2Proof.Machine
end

