-- ==== Sys2Proof/Laws/State.lean ====
section
/-!
SUPPORT. The fields of the state under each named update: every update leaves all but one of them as they were.
-/
namespace Sys2Proof.Machine

@[simp] theorem State.setR_pending (s : State) (a : Nat) (v : W32) : (s.setR a v).pending = s.pending := (rfl)
@[simp] theorem State.setR_freeCount (s : State) (a : Nat) (v : W32) : (s.setR a v).freeCount = s.freeCount := (rfl)
@[simp] theorem State.setR_hostLatch (s : State) (a : Nat) (v : W32) : (s.setR a v).hostLatch = s.hostLatch := (rfl)
@[simp] theorem State.setR_smbLatch (s : State) (a : Nat) (v : W32) : (s.setR a v).smbLatch = s.smbLatch := (rfl)
@[simp] theorem State.setR_readData (s : State) (a : Nat) (v : W32) : (s.setR a v).readData = s.readData := (rfl)
@[simp] theorem State.setR_smbData (s : State) (a : Nat) (v : W32) : (s.setR a v).smbData = s.smbData := (rfl)
@[simp] theorem State.setR_clk (s : State) (a : Nat) (v : W32) : (s.setR a v).clk = s.clk := (rfl)
@[simp] theorem State.setR_pins (s : State) (a : Nat) (v : W32) : (s.setR a v).pins = s.pins := (rfl)
@[simp] theorem State.setR_hawk (s : State) (a : Nat) (v : W32) : (s.setR a v).hawk = s.hawk := (rfl)
@[simp] theorem State.setR_ev (s : State) (a : Nat) (v : W32) : (s.setR a v).ev = s.ev := (rfl)
@[simp] theorem State.setR_tiles (s : State) (a : Nat) (v : W32) : (s.setR a v).tiles = s.tiles := (rfl)
@[simp] theorem State.setR_courses (s : State) (a : Nat) (v : W32) : (s.setR a v).courses = s.courses := (rfl)
@[simp] theorem State.setR_mem (s : State) (a : Nat) (v : W32) : (s.setR a v).mem = s.mem := (rfl)
@[simp] theorem State.setR_pageMeta (s : State) (a : Nat) (v : W32) : (s.setR a v).pageMeta = s.pageMeta := (rfl)
@[simp] theorem State.setR_scs (s : State) (a : Nat) (v : W32) : (s.setR a v).scs = s.scs := (rfl)
@[simp] theorem State.setR_slices (s : State) (a : Nat) (v : W32) : (s.setR a v).slices = s.slices := (rfl)
@[simp] theorem State.setR_storeDies (s : State) (a : Nat) (v : W32) : (s.setR a v).storeDies = s.storeDies := (rfl)
@[simp] theorem State.setR_cdies (s : State) (a : Nat) (v : W32) : (s.setR a v).cdies = s.cdies := (rfl)
@[simp] theorem State.setR_regions (s : State) (a : Nat) (v : W32) : (s.setR a v).regions = s.regions := (rfl)
@[simp] theorem State.setR_fab (s : State) (a : Nat) (v : W32) : (s.setR a v).fab = s.fab := (rfl)
@[simp] theorem State.setR_net (s : State) (a : Nat) (v : W32) : (s.setR a v).net = s.net := (rfl)
@[simp] theorem State.setR_engine (s : State) (a : Nat) (v : W32) : (s.setR a v).engine = s.engine := (rfl)
@[simp] theorem State.setR_host (s : State) (a : Nat) (v : W32) : (s.setR a v).host = s.host := (rfl)
@[simp] theorem State.setR_ctl (s : State) (a : Nat) (v : W32) : (s.setR a v).ctl = s.ctl := (rfl)
@[simp] theorem State.setR_snaps (s : State) (a : Nat) (v : W32) : (s.setR a v).snaps = s.snaps := (rfl)
@[simp] theorem State.setR_withy (s : State) (a : Nat) (v : W32) : (s.setR a v).withy = s.withy := (rfl)
@[simp] theorem State.setR_light (s : State) (a : Nat) (v : W32) : (s.setR a v).light = s.light := (rfl)
@[simp] theorem State.setR_sec (s : State) (a : Nat) (v : W32) : (s.setR a v).sec = s.sec := (rfl)

@[simp] theorem State.setF_pending (s : State) (f : Fld) (v : Nat) : (s.setF f v).pending = s.pending := (rfl)
@[simp] theorem State.setF_freeCount (s : State) (f : Fld) (v : Nat) : (s.setF f v).freeCount = s.freeCount := (rfl)
@[simp] theorem State.setF_hostLatch (s : State) (f : Fld) (v : Nat) : (s.setF f v).hostLatch = s.hostLatch := (rfl)
@[simp] theorem State.setF_smbLatch (s : State) (f : Fld) (v : Nat) : (s.setF f v).smbLatch = s.smbLatch := (rfl)
@[simp] theorem State.setF_readData (s : State) (f : Fld) (v : Nat) : (s.setF f v).readData = s.readData := (rfl)
@[simp] theorem State.setF_smbData (s : State) (f : Fld) (v : Nat) : (s.setF f v).smbData = s.smbData := (rfl)
@[simp] theorem State.setF_clk (s : State) (f : Fld) (v : Nat) : (s.setF f v).clk = s.clk := (rfl)
@[simp] theorem State.setF_pins (s : State) (f : Fld) (v : Nat) : (s.setF f v).pins = s.pins := (rfl)
@[simp] theorem State.setF_hawk (s : State) (f : Fld) (v : Nat) : (s.setF f v).hawk = s.hawk := (rfl)
@[simp] theorem State.setF_ev (s : State) (f : Fld) (v : Nat) : (s.setF f v).ev = s.ev := (rfl)
@[simp] theorem State.setF_tiles (s : State) (f : Fld) (v : Nat) : (s.setF f v).tiles = s.tiles := (rfl)
@[simp] theorem State.setF_courses (s : State) (f : Fld) (v : Nat) : (s.setF f v).courses = s.courses := (rfl)
@[simp] theorem State.setF_mem (s : State) (f : Fld) (v : Nat) : (s.setF f v).mem = s.mem := (rfl)
@[simp] theorem State.setF_pageMeta (s : State) (f : Fld) (v : Nat) : (s.setF f v).pageMeta = s.pageMeta := (rfl)
@[simp] theorem State.setF_scs (s : State) (f : Fld) (v : Nat) : (s.setF f v).scs = s.scs := (rfl)
@[simp] theorem State.setF_slices (s : State) (f : Fld) (v : Nat) : (s.setF f v).slices = s.slices := (rfl)
@[simp] theorem State.setF_storeDies (s : State) (f : Fld) (v : Nat) : (s.setF f v).storeDies = s.storeDies := (rfl)
@[simp] theorem State.setF_cdies (s : State) (f : Fld) (v : Nat) : (s.setF f v).cdies = s.cdies := (rfl)
@[simp] theorem State.setF_regions (s : State) (f : Fld) (v : Nat) : (s.setF f v).regions = s.regions := (rfl)
@[simp] theorem State.setF_fab (s : State) (f : Fld) (v : Nat) : (s.setF f v).fab = s.fab := (rfl)
@[simp] theorem State.setF_net (s : State) (f : Fld) (v : Nat) : (s.setF f v).net = s.net := (rfl)
@[simp] theorem State.setF_engine (s : State) (f : Fld) (v : Nat) : (s.setF f v).engine = s.engine := (rfl)
@[simp] theorem State.setF_host (s : State) (f : Fld) (v : Nat) : (s.setF f v).host = s.host := (rfl)
@[simp] theorem State.setF_ctl (s : State) (f : Fld) (v : Nat) : (s.setF f v).ctl = s.ctl := (rfl)
@[simp] theorem State.setF_snaps (s : State) (f : Fld) (v : Nat) : (s.setF f v).snaps = s.snaps := (rfl)
@[simp] theorem State.setF_withy (s : State) (f : Fld) (v : Nat) : (s.setF f v).withy = s.withy := (rfl)
@[simp] theorem State.setF_light (s : State) (f : Fld) (v : Nat) : (s.setF f v).light = s.light := (rfl)
@[simp] theorem State.setF_sec (s : State) (f : Fld) (v : Nat) : (s.setF f v).sec = s.sec := (rfl)

@[simp] theorem State.setB_pending (s : State) (f : Fld) (b : Bool) : (s.setB f b).pending = s.pending := (rfl)
@[simp] theorem State.setB_freeCount (s : State) (f : Fld) (b : Bool) : (s.setB f b).freeCount = s.freeCount := (rfl)
@[simp] theorem State.setB_hostLatch (s : State) (f : Fld) (b : Bool) : (s.setB f b).hostLatch = s.hostLatch := (rfl)
@[simp] theorem State.setB_smbLatch (s : State) (f : Fld) (b : Bool) : (s.setB f b).smbLatch = s.smbLatch := (rfl)
@[simp] theorem State.setB_readData (s : State) (f : Fld) (b : Bool) : (s.setB f b).readData = s.readData := (rfl)
@[simp] theorem State.setB_smbData (s : State) (f : Fld) (b : Bool) : (s.setB f b).smbData = s.smbData := (rfl)
@[simp] theorem State.setB_clk (s : State) (f : Fld) (b : Bool) : (s.setB f b).clk = s.clk := (rfl)
@[simp] theorem State.setB_pins (s : State) (f : Fld) (b : Bool) : (s.setB f b).pins = s.pins := (rfl)
@[simp] theorem State.setB_hawk (s : State) (f : Fld) (b : Bool) : (s.setB f b).hawk = s.hawk := (rfl)
@[simp] theorem State.setB_ev (s : State) (f : Fld) (b : Bool) : (s.setB f b).ev = s.ev := (rfl)
@[simp] theorem State.setB_tiles (s : State) (f : Fld) (b : Bool) : (s.setB f b).tiles = s.tiles := (rfl)
@[simp] theorem State.setB_courses (s : State) (f : Fld) (b : Bool) : (s.setB f b).courses = s.courses := (rfl)
@[simp] theorem State.setB_mem (s : State) (f : Fld) (b : Bool) : (s.setB f b).mem = s.mem := (rfl)
@[simp] theorem State.setB_pageMeta (s : State) (f : Fld) (b : Bool) : (s.setB f b).pageMeta = s.pageMeta := (rfl)
@[simp] theorem State.setB_scs (s : State) (f : Fld) (b : Bool) : (s.setB f b).scs = s.scs := (rfl)
@[simp] theorem State.setB_slices (s : State) (f : Fld) (b : Bool) : (s.setB f b).slices = s.slices := (rfl)
@[simp] theorem State.setB_storeDies (s : State) (f : Fld) (b : Bool) : (s.setB f b).storeDies = s.storeDies := (rfl)
@[simp] theorem State.setB_cdies (s : State) (f : Fld) (b : Bool) : (s.setB f b).cdies = s.cdies := (rfl)
@[simp] theorem State.setB_regions (s : State) (f : Fld) (b : Bool) : (s.setB f b).regions = s.regions := (rfl)
@[simp] theorem State.setB_fab (s : State) (f : Fld) (b : Bool) : (s.setB f b).fab = s.fab := (rfl)
@[simp] theorem State.setB_net (s : State) (f : Fld) (b : Bool) : (s.setB f b).net = s.net := (rfl)
@[simp] theorem State.setB_engine (s : State) (f : Fld) (b : Bool) : (s.setB f b).engine = s.engine := (rfl)
@[simp] theorem State.setB_host (s : State) (f : Fld) (b : Bool) : (s.setB f b).host = s.host := (rfl)
@[simp] theorem State.setB_ctl (s : State) (f : Fld) (b : Bool) : (s.setB f b).ctl = s.ctl := (rfl)
@[simp] theorem State.setB_snaps (s : State) (f : Fld) (b : Bool) : (s.setB f b).snaps = s.snaps := (rfl)
@[simp] theorem State.setB_withy (s : State) (f : Fld) (b : Bool) : (s.setB f b).withy = s.withy := (rfl)
@[simp] theorem State.setB_light (s : State) (f : Fld) (b : Bool) : (s.setB f b).light = s.light := (rfl)
@[simp] theorem State.setB_sec (s : State) (f : Fld) (b : Bool) : (s.setB f b).sec = s.sec := (rfl)

@[simp] theorem State.setCnt_pending (s : State) (a v : Nat) (o : Bool) : (s.setCnt a v o).pending = s.pending := (rfl)
@[simp] theorem State.setCnt_freeCount (s : State) (a v : Nat) (o : Bool) : (s.setCnt a v o).freeCount = s.freeCount := (rfl)
@[simp] theorem State.setCnt_hostLatch (s : State) (a v : Nat) (o : Bool) : (s.setCnt a v o).hostLatch = s.hostLatch := (rfl)
@[simp] theorem State.setCnt_smbLatch (s : State) (a v : Nat) (o : Bool) : (s.setCnt a v o).smbLatch = s.smbLatch := (rfl)
@[simp] theorem State.setCnt_readData (s : State) (a v : Nat) (o : Bool) : (s.setCnt a v o).readData = s.readData := (rfl)
@[simp] theorem State.setCnt_smbData (s : State) (a v : Nat) (o : Bool) : (s.setCnt a v o).smbData = s.smbData := (rfl)
@[simp] theorem State.setCnt_clk (s : State) (a v : Nat) (o : Bool) : (s.setCnt a v o).clk = s.clk := (rfl)
@[simp] theorem State.setCnt_pins (s : State) (a v : Nat) (o : Bool) : (s.setCnt a v o).pins = s.pins := (rfl)
@[simp] theorem State.setCnt_hawk (s : State) (a v : Nat) (o : Bool) : (s.setCnt a v o).hawk = s.hawk := (rfl)
@[simp] theorem State.setCnt_ev (s : State) (a v : Nat) (o : Bool) : (s.setCnt a v o).ev = s.ev := (rfl)
@[simp] theorem State.setCnt_tiles (s : State) (a v : Nat) (o : Bool) : (s.setCnt a v o).tiles = s.tiles := (rfl)
@[simp] theorem State.setCnt_courses (s : State) (a v : Nat) (o : Bool) : (s.setCnt a v o).courses = s.courses := (rfl)
@[simp] theorem State.setCnt_mem (s : State) (a v : Nat) (o : Bool) : (s.setCnt a v o).mem = s.mem := (rfl)
@[simp] theorem State.setCnt_pageMeta (s : State) (a v : Nat) (o : Bool) : (s.setCnt a v o).pageMeta = s.pageMeta := (rfl)
@[simp] theorem State.setCnt_scs (s : State) (a v : Nat) (o : Bool) : (s.setCnt a v o).scs = s.scs := (rfl)
@[simp] theorem State.setCnt_slices (s : State) (a v : Nat) (o : Bool) : (s.setCnt a v o).slices = s.slices := (rfl)
@[simp] theorem State.setCnt_storeDies (s : State) (a v : Nat) (o : Bool) : (s.setCnt a v o).storeDies = s.storeDies := (rfl)
@[simp] theorem State.setCnt_cdies (s : State) (a v : Nat) (o : Bool) : (s.setCnt a v o).cdies = s.cdies := (rfl)
@[simp] theorem State.setCnt_regions (s : State) (a v : Nat) (o : Bool) : (s.setCnt a v o).regions = s.regions := (rfl)
@[simp] theorem State.setCnt_fab (s : State) (a v : Nat) (o : Bool) : (s.setCnt a v o).fab = s.fab := (rfl)
@[simp] theorem State.setCnt_net (s : State) (a v : Nat) (o : Bool) : (s.setCnt a v o).net = s.net := (rfl)
@[simp] theorem State.setCnt_engine (s : State) (a v : Nat) (o : Bool) : (s.setCnt a v o).engine = s.engine := (rfl)
@[simp] theorem State.setCnt_host (s : State) (a v : Nat) (o : Bool) : (s.setCnt a v o).host = s.host := (rfl)
@[simp] theorem State.setCnt_ctl (s : State) (a v : Nat) (o : Bool) : (s.setCnt a v o).ctl = s.ctl := (rfl)
@[simp] theorem State.setCnt_snaps (s : State) (a v : Nat) (o : Bool) : (s.setCnt a v o).snaps = s.snaps := (rfl)
@[simp] theorem State.setCnt_withy (s : State) (a v : Nat) (o : Bool) : (s.setCnt a v o).withy = s.withy := (rfl)
@[simp] theorem State.setCnt_light (s : State) (a v : Nat) (o : Bool) : (s.setCnt a v o).light = s.light := (rfl)
@[simp] theorem State.setCnt_sec (s : State) (a v : Nat) (o : Bool) : (s.setCnt a v o).sec = s.sec := (rfl)

@[simp] theorem State.addCnt_pending (s : State) (a n : Nat) : (s.addCnt a n).pending = s.pending := by
  unfold State.addCnt; simp
@[simp] theorem State.addCnt_freeCount (s : State) (a n : Nat) : (s.addCnt a n).freeCount = s.freeCount := by
  unfold State.addCnt; simp
@[simp] theorem State.addCnt_hostLatch (s : State) (a n : Nat) : (s.addCnt a n).hostLatch = s.hostLatch := by
  unfold State.addCnt; simp
@[simp] theorem State.addCnt_smbLatch (s : State) (a n : Nat) : (s.addCnt a n).smbLatch = s.smbLatch := by
  unfold State.addCnt; simp
@[simp] theorem State.addCnt_readData (s : State) (a n : Nat) : (s.addCnt a n).readData = s.readData := by
  unfold State.addCnt; simp
@[simp] theorem State.addCnt_smbData (s : State) (a n : Nat) : (s.addCnt a n).smbData = s.smbData := by
  unfold State.addCnt; simp
@[simp] theorem State.addCnt_clk (s : State) (a n : Nat) : (s.addCnt a n).clk = s.clk := by
  unfold State.addCnt; simp
@[simp] theorem State.addCnt_pins (s : State) (a n : Nat) : (s.addCnt a n).pins = s.pins := by
  unfold State.addCnt; simp
@[simp] theorem State.addCnt_hawk (s : State) (a n : Nat) : (s.addCnt a n).hawk = s.hawk := by
  unfold State.addCnt; simp
@[simp] theorem State.addCnt_ev (s : State) (a n : Nat) : (s.addCnt a n).ev = s.ev := by
  unfold State.addCnt; simp
@[simp] theorem State.addCnt_tiles (s : State) (a n : Nat) : (s.addCnt a n).tiles = s.tiles := by
  unfold State.addCnt; simp
@[simp] theorem State.addCnt_courses (s : State) (a n : Nat) : (s.addCnt a n).courses = s.courses := by
  unfold State.addCnt; simp
@[simp] theorem State.addCnt_mem (s : State) (a n : Nat) : (s.addCnt a n).mem = s.mem := by
  unfold State.addCnt; simp
@[simp] theorem State.addCnt_pageMeta (s : State) (a n : Nat) : (s.addCnt a n).pageMeta = s.pageMeta := by
  unfold State.addCnt; simp
@[simp] theorem State.addCnt_scs (s : State) (a n : Nat) : (s.addCnt a n).scs = s.scs := by
  unfold State.addCnt; simp
@[simp] theorem State.addCnt_slices (s : State) (a n : Nat) : (s.addCnt a n).slices = s.slices := by
  unfold State.addCnt; simp
@[simp] theorem State.addCnt_storeDies (s : State) (a n : Nat) : (s.addCnt a n).storeDies = s.storeDies := by
  unfold State.addCnt; simp
@[simp] theorem State.addCnt_cdies (s : State) (a n : Nat) : (s.addCnt a n).cdies = s.cdies := by
  unfold State.addCnt; simp
@[simp] theorem State.addCnt_regions (s : State) (a n : Nat) : (s.addCnt a n).regions = s.regions := by
  unfold State.addCnt; simp
@[simp] theorem State.addCnt_fab (s : State) (a n : Nat) : (s.addCnt a n).fab = s.fab := by
  unfold State.addCnt; simp
@[simp] theorem State.addCnt_net (s : State) (a n : Nat) : (s.addCnt a n).net = s.net := by
  unfold State.addCnt; simp
@[simp] theorem State.addCnt_engine (s : State) (a n : Nat) : (s.addCnt a n).engine = s.engine := by
  unfold State.addCnt; simp
@[simp] theorem State.addCnt_host (s : State) (a n : Nat) : (s.addCnt a n).host = s.host := by
  unfold State.addCnt; simp
@[simp] theorem State.addCnt_ctl (s : State) (a n : Nat) : (s.addCnt a n).ctl = s.ctl := by
  unfold State.addCnt; simp
@[simp] theorem State.addCnt_snaps (s : State) (a n : Nat) : (s.addCnt a n).snaps = s.snaps := by
  unfold State.addCnt; simp
@[simp] theorem State.addCnt_withy (s : State) (a n : Nat) : (s.addCnt a n).withy = s.withy := by
  unfold State.addCnt; simp
@[simp] theorem State.addCnt_light (s : State) (a n : Nat) : (s.addCnt a n).light = s.light := by
  unfold State.addCnt; simp
@[simp] theorem State.addCnt_sec (s : State) (a n : Nat) : (s.addCnt a n).sec = s.sec := by
  unfold State.addCnt; simp

@[simp] theorem State.tookFree_pending (s : State) : s.tookFree.pending = s.pending := (rfl)
@[simp] theorem State.tookFree_regs (s : State) : s.tookFree.regs = s.regs := (rfl)
@[simp] theorem State.tookFree_hostLatch (s : State) : s.tookFree.hostLatch = s.hostLatch := (rfl)
@[simp] theorem State.tookFree_smbLatch (s : State) : s.tookFree.smbLatch = s.smbLatch := (rfl)
@[simp] theorem State.tookFree_readData (s : State) : s.tookFree.readData = s.readData := (rfl)
@[simp] theorem State.tookFree_smbData (s : State) : s.tookFree.smbData = s.smbData := (rfl)
@[simp] theorem State.tookFree_clk (s : State) : s.tookFree.clk = s.clk := (rfl)
@[simp] theorem State.tookFree_pins (s : State) : s.tookFree.pins = s.pins := (rfl)
@[simp] theorem State.tookFree_hawk (s : State) : s.tookFree.hawk = s.hawk := (rfl)
@[simp] theorem State.tookFree_ev (s : State) : s.tookFree.ev = s.ev := (rfl)
@[simp] theorem State.tookFree_tiles (s : State) : s.tookFree.tiles = s.tiles := (rfl)
@[simp] theorem State.tookFree_courses (s : State) : s.tookFree.courses = s.courses := (rfl)
@[simp] theorem State.tookFree_mem (s : State) : s.tookFree.mem = s.mem := (rfl)
@[simp] theorem State.tookFree_pageMeta (s : State) : s.tookFree.pageMeta = s.pageMeta := (rfl)
@[simp] theorem State.tookFree_scs (s : State) : s.tookFree.scs = s.scs := (rfl)
@[simp] theorem State.tookFree_slices (s : State) : s.tookFree.slices = s.slices := (rfl)
@[simp] theorem State.tookFree_storeDies (s : State) : s.tookFree.storeDies = s.storeDies := (rfl)
@[simp] theorem State.tookFree_cdies (s : State) : s.tookFree.cdies = s.cdies := (rfl)
@[simp] theorem State.tookFree_regions (s : State) : s.tookFree.regions = s.regions := (rfl)
@[simp] theorem State.tookFree_fab (s : State) : s.tookFree.fab = s.fab := (rfl)
@[simp] theorem State.tookFree_net (s : State) : s.tookFree.net = s.net := (rfl)
@[simp] theorem State.tookFree_engine (s : State) : s.tookFree.engine = s.engine := (rfl)
@[simp] theorem State.tookFree_host (s : State) : s.tookFree.host = s.host := (rfl)
@[simp] theorem State.tookFree_ctl (s : State) : s.tookFree.ctl = s.ctl := (rfl)
@[simp] theorem State.tookFree_snaps (s : State) : s.tookFree.snaps = s.snaps := (rfl)
@[simp] theorem State.tookFree_withy (s : State) : s.tookFree.withy = s.withy := (rfl)
@[simp] theorem State.tookFree_light (s : State) : s.tookFree.light = s.light := (rfl)
@[simp] theorem State.tookFree_sec (s : State) : s.tookFree.sec = s.sec := (rfl)

@[simp] theorem State.wrByte_pending (s : State) (a : Nat) (b : Byte) : (s.wrByte a b).pending = s.pending := (rfl)
@[simp] theorem State.wrByte_freeCount (s : State) (a : Nat) (b : Byte) : (s.wrByte a b).freeCount = s.freeCount := (rfl)
@[simp] theorem State.wrByte_regs (s : State) (a : Nat) (b : Byte) : (s.wrByte a b).regs = s.regs := (rfl)
@[simp] theorem State.wrByte_hostLatch (s : State) (a : Nat) (b : Byte) : (s.wrByte a b).hostLatch = s.hostLatch := (rfl)
@[simp] theorem State.wrByte_smbLatch (s : State) (a : Nat) (b : Byte) : (s.wrByte a b).smbLatch = s.smbLatch := (rfl)
@[simp] theorem State.wrByte_readData (s : State) (a : Nat) (b : Byte) : (s.wrByte a b).readData = s.readData := (rfl)
@[simp] theorem State.wrByte_smbData (s : State) (a : Nat) (b : Byte) : (s.wrByte a b).smbData = s.smbData := (rfl)
@[simp] theorem State.wrByte_clk (s : State) (a : Nat) (b : Byte) : (s.wrByte a b).clk = s.clk := (rfl)
@[simp] theorem State.wrByte_pins (s : State) (a : Nat) (b : Byte) : (s.wrByte a b).pins = s.pins := (rfl)
@[simp] theorem State.wrByte_hawk (s : State) (a : Nat) (b : Byte) : (s.wrByte a b).hawk = s.hawk := (rfl)
@[simp] theorem State.wrByte_ev (s : State) (a : Nat) (b : Byte) : (s.wrByte a b).ev = s.ev := (rfl)
@[simp] theorem State.wrByte_tiles (s : State) (a : Nat) (b : Byte) : (s.wrByte a b).tiles = s.tiles := (rfl)
@[simp] theorem State.wrByte_courses (s : State) (a : Nat) (b : Byte) : (s.wrByte a b).courses = s.courses := (rfl)
@[simp] theorem State.wrByte_pageMeta (s : State) (a : Nat) (b : Byte) : (s.wrByte a b).pageMeta = s.pageMeta := (rfl)
@[simp] theorem State.wrByte_scs (s : State) (a : Nat) (b : Byte) : (s.wrByte a b).scs = s.scs := (rfl)
@[simp] theorem State.wrByte_slices (s : State) (a : Nat) (b : Byte) : (s.wrByte a b).slices = s.slices := (rfl)
@[simp] theorem State.wrByte_storeDies (s : State) (a : Nat) (b : Byte) : (s.wrByte a b).storeDies = s.storeDies := (rfl)
@[simp] theorem State.wrByte_cdies (s : State) (a : Nat) (b : Byte) : (s.wrByte a b).cdies = s.cdies := (rfl)
@[simp] theorem State.wrByte_regions (s : State) (a : Nat) (b : Byte) : (s.wrByte a b).regions = s.regions := (rfl)
@[simp] theorem State.wrByte_fab (s : State) (a : Nat) (b : Byte) : (s.wrByte a b).fab = s.fab := (rfl)
@[simp] theorem State.wrByte_net (s : State) (a : Nat) (b : Byte) : (s.wrByte a b).net = s.net := (rfl)
@[simp] theorem State.wrByte_engine (s : State) (a : Nat) (b : Byte) : (s.wrByte a b).engine = s.engine := (rfl)
@[simp] theorem State.wrByte_host (s : State) (a : Nat) (b : Byte) : (s.wrByte a b).host = s.host := (rfl)
@[simp] theorem State.wrByte_ctl (s : State) (a : Nat) (b : Byte) : (s.wrByte a b).ctl = s.ctl := (rfl)
@[simp] theorem State.wrByte_snaps (s : State) (a : Nat) (b : Byte) : (s.wrByte a b).snaps = s.snaps := (rfl)
@[simp] theorem State.wrByte_withy (s : State) (a : Nat) (b : Byte) : (s.wrByte a b).withy = s.withy := (rfl)
@[simp] theorem State.wrByte_light (s : State) (a : Nat) (b : Byte) : (s.wrByte a b).light = s.light := (rfl)
@[simp] theorem State.wrByte_sec (s : State) (a : Nat) (b : Byte) : (s.wrByte a b).sec = s.sec := (rfl)

@[simp] theorem State.setTile_pending (s : State) (u : Nat) (t : Tile) : (s.setTile u t).pending = s.pending := (rfl)
@[simp] theorem State.setTile_freeCount (s : State) (u : Nat) (t : Tile) : (s.setTile u t).freeCount = s.freeCount := (rfl)
@[simp] theorem State.setTile_regs (s : State) (u : Nat) (t : Tile) : (s.setTile u t).regs = s.regs := (rfl)
@[simp] theorem State.setTile_hostLatch (s : State) (u : Nat) (t : Tile) : (s.setTile u t).hostLatch = s.hostLatch := (rfl)
@[simp] theorem State.setTile_smbLatch (s : State) (u : Nat) (t : Tile) : (s.setTile u t).smbLatch = s.smbLatch := (rfl)
@[simp] theorem State.setTile_readData (s : State) (u : Nat) (t : Tile) : (s.setTile u t).readData = s.readData := (rfl)
@[simp] theorem State.setTile_smbData (s : State) (u : Nat) (t : Tile) : (s.setTile u t).smbData = s.smbData := (rfl)
@[simp] theorem State.setTile_clk (s : State) (u : Nat) (t : Tile) : (s.setTile u t).clk = s.clk := (rfl)
@[simp] theorem State.setTile_pins (s : State) (u : Nat) (t : Tile) : (s.setTile u t).pins = s.pins := (rfl)
@[simp] theorem State.setTile_hawk (s : State) (u : Nat) (t : Tile) : (s.setTile u t).hawk = s.hawk := (rfl)
@[simp] theorem State.setTile_ev (s : State) (u : Nat) (t : Tile) : (s.setTile u t).ev = s.ev := (rfl)
@[simp] theorem State.setTile_courses (s : State) (u : Nat) (t : Tile) : (s.setTile u t).courses = s.courses := (rfl)
@[simp] theorem State.setTile_mem (s : State) (u : Nat) (t : Tile) : (s.setTile u t).mem = s.mem := (rfl)
@[simp] theorem State.setTile_pageMeta (s : State) (u : Nat) (t : Tile) : (s.setTile u t).pageMeta = s.pageMeta := (rfl)
@[simp] theorem State.setTile_scs (s : State) (u : Nat) (t : Tile) : (s.setTile u t).scs = s.scs := (rfl)
@[simp] theorem State.setTile_slices (s : State) (u : Nat) (t : Tile) : (s.setTile u t).slices = s.slices := (rfl)
@[simp] theorem State.setTile_storeDies (s : State) (u : Nat) (t : Tile) : (s.setTile u t).storeDies = s.storeDies := (rfl)
@[simp] theorem State.setTile_cdies (s : State) (u : Nat) (t : Tile) : (s.setTile u t).cdies = s.cdies := (rfl)
@[simp] theorem State.setTile_regions (s : State) (u : Nat) (t : Tile) : (s.setTile u t).regions = s.regions := (rfl)
@[simp] theorem State.setTile_fab (s : State) (u : Nat) (t : Tile) : (s.setTile u t).fab = s.fab := (rfl)
@[simp] theorem State.setTile_net (s : State) (u : Nat) (t : Tile) : (s.setTile u t).net = s.net := (rfl)
@[simp] theorem State.setTile_engine (s : State) (u : Nat) (t : Tile) : (s.setTile u t).engine = s.engine := (rfl)
@[simp] theorem State.setTile_host (s : State) (u : Nat) (t : Tile) : (s.setTile u t).host = s.host := (rfl)
@[simp] theorem State.setTile_ctl (s : State) (u : Nat) (t : Tile) : (s.setTile u t).ctl = s.ctl := (rfl)
@[simp] theorem State.setTile_snaps (s : State) (u : Nat) (t : Tile) : (s.setTile u t).snaps = s.snaps := (rfl)
@[simp] theorem State.setTile_withy (s : State) (u : Nat) (t : Tile) : (s.setTile u t).withy = s.withy := (rfl)
@[simp] theorem State.setTile_light (s : State) (u : Nat) (t : Tile) : (s.setTile u t).light = s.light := (rfl)
@[simp] theorem State.setTile_sec (s : State) (u : Nat) (t : Tile) : (s.setTile u t).sec = s.sec := (rfl)

@[simp] theorem State.modTile_pending (s : State) (u : Nat) (f : Tile → Tile) : (s.modTile u f).pending = s.pending := (rfl)
@[simp] theorem State.modTile_freeCount (s : State) (u : Nat) (f : Tile → Tile) : (s.modTile u f).freeCount = s.freeCount := (rfl)
@[simp] theorem State.modTile_regs (s : State) (u : Nat) (f : Tile → Tile) : (s.modTile u f).regs = s.regs := (rfl)
@[simp] theorem State.modTile_hostLatch (s : State) (u : Nat) (f : Tile → Tile) : (s.modTile u f).hostLatch = s.hostLatch := (rfl)
@[simp] theorem State.modTile_smbLatch (s : State) (u : Nat) (f : Tile → Tile) : (s.modTile u f).smbLatch = s.smbLatch := (rfl)
@[simp] theorem State.modTile_readData (s : State) (u : Nat) (f : Tile → Tile) : (s.modTile u f).readData = s.readData := (rfl)
@[simp] theorem State.modTile_smbData (s : State) (u : Nat) (f : Tile → Tile) : (s.modTile u f).smbData = s.smbData := (rfl)
@[simp] theorem State.modTile_clk (s : State) (u : Nat) (f : Tile → Tile) : (s.modTile u f).clk = s.clk := (rfl)
@[simp] theorem State.modTile_pins (s : State) (u : Nat) (f : Tile → Tile) : (s.modTile u f).pins = s.pins := (rfl)
@[simp] theorem State.modTile_hawk (s : State) (u : Nat) (f : Tile → Tile) : (s.modTile u f).hawk = s.hawk := (rfl)
@[simp] theorem State.modTile_ev (s : State) (u : Nat) (f : Tile → Tile) : (s.modTile u f).ev = s.ev := (rfl)
@[simp] theorem State.modTile_courses (s : State) (u : Nat) (f : Tile → Tile) : (s.modTile u f).courses = s.courses := (rfl)
@[simp] theorem State.modTile_mem (s : State) (u : Nat) (f : Tile → Tile) : (s.modTile u f).mem = s.mem := (rfl)
@[simp] theorem State.modTile_pageMeta (s : State) (u : Nat) (f : Tile → Tile) : (s.modTile u f).pageMeta = s.pageMeta := (rfl)
@[simp] theorem State.modTile_scs (s : State) (u : Nat) (f : Tile → Tile) : (s.modTile u f).scs = s.scs := (rfl)
@[simp] theorem State.modTile_slices (s : State) (u : Nat) (f : Tile → Tile) : (s.modTile u f).slices = s.slices := (rfl)
@[simp] theorem State.modTile_storeDies (s : State) (u : Nat) (f : Tile → Tile) : (s.modTile u f).storeDies = s.storeDies := (rfl)
@[simp] theorem State.modTile_cdies (s : State) (u : Nat) (f : Tile → Tile) : (s.modTile u f).cdies = s.cdies := (rfl)
@[simp] theorem State.modTile_regions (s : State) (u : Nat) (f : Tile → Tile) : (s.modTile u f).regions = s.regions := (rfl)
@[simp] theorem State.modTile_fab (s : State) (u : Nat) (f : Tile → Tile) : (s.modTile u f).fab = s.fab := (rfl)
@[simp] theorem State.modTile_net (s : State) (u : Nat) (f : Tile → Tile) : (s.modTile u f).net = s.net := (rfl)
@[simp] theorem State.modTile_engine (s : State) (u : Nat) (f : Tile → Tile) : (s.modTile u f).engine = s.engine := (rfl)
@[simp] theorem State.modTile_host (s : State) (u : Nat) (f : Tile → Tile) : (s.modTile u f).host = s.host := (rfl)
@[simp] theorem State.modTile_ctl (s : State) (u : Nat) (f : Tile → Tile) : (s.modTile u f).ctl = s.ctl := (rfl)
@[simp] theorem State.modTile_snaps (s : State) (u : Nat) (f : Tile → Tile) : (s.modTile u f).snaps = s.snaps := (rfl)
@[simp] theorem State.modTile_withy (s : State) (u : Nat) (f : Tile → Tile) : (s.modTile u f).withy = s.withy := (rfl)
@[simp] theorem State.modTile_light (s : State) (u : Nat) (f : Tile → Tile) : (s.modTile u f).light = s.light := (rfl)
@[simp] theorem State.modTile_sec (s : State) (u : Nat) (f : Tile → Tile) : (s.modTile u f).sec = s.sec := (rfl)

@[simp] theorem State.setHub_pending (s : State) (p : Nat) (h : Hub) : (s.setHub p h).pending = s.pending := (rfl)
@[simp] theorem State.setHub_freeCount (s : State) (p : Nat) (h : Hub) : (s.setHub p h).freeCount = s.freeCount := (rfl)
@[simp] theorem State.setHub_regs (s : State) (p : Nat) (h : Hub) : (s.setHub p h).regs = s.regs := (rfl)
@[simp] theorem State.setHub_hostLatch (s : State) (p : Nat) (h : Hub) : (s.setHub p h).hostLatch = s.hostLatch := (rfl)
@[simp] theorem State.setHub_smbLatch (s : State) (p : Nat) (h : Hub) : (s.setHub p h).smbLatch = s.smbLatch := (rfl)
@[simp] theorem State.setHub_readData (s : State) (p : Nat) (h : Hub) : (s.setHub p h).readData = s.readData := (rfl)
@[simp] theorem State.setHub_smbData (s : State) (p : Nat) (h : Hub) : (s.setHub p h).smbData = s.smbData := (rfl)
@[simp] theorem State.setHub_clk (s : State) (p : Nat) (h : Hub) : (s.setHub p h).clk = s.clk := (rfl)
@[simp] theorem State.setHub_pins (s : State) (p : Nat) (h : Hub) : (s.setHub p h).pins = s.pins := (rfl)
@[simp] theorem State.setHub_hawk (s : State) (p : Nat) (h : Hub) : (s.setHub p h).hawk = s.hawk := (rfl)
@[simp] theorem State.setHub_ev (s : State) (p : Nat) (h : Hub) : (s.setHub p h).ev = s.ev := (rfl)
@[simp] theorem State.setHub_tiles (s : State) (p : Nat) (h : Hub) : (s.setHub p h).tiles = s.tiles := (rfl)
@[simp] theorem State.setHub_courses (s : State) (p : Nat) (h : Hub) : (s.setHub p h).courses = s.courses := (rfl)
@[simp] theorem State.setHub_mem (s : State) (p : Nat) (h : Hub) : (s.setHub p h).mem = s.mem := (rfl)
@[simp] theorem State.setHub_pageMeta (s : State) (p : Nat) (h : Hub) : (s.setHub p h).pageMeta = s.pageMeta := (rfl)
@[simp] theorem State.setHub_scs (s : State) (p : Nat) (h : Hub) : (s.setHub p h).scs = s.scs := (rfl)
@[simp] theorem State.setHub_slices (s : State) (p : Nat) (h : Hub) : (s.setHub p h).slices = s.slices := (rfl)
@[simp] theorem State.setHub_storeDies (s : State) (p : Nat) (h : Hub) : (s.setHub p h).storeDies = s.storeDies := (rfl)
@[simp] theorem State.setHub_cdies (s : State) (p : Nat) (h : Hub) : (s.setHub p h).cdies = s.cdies := (rfl)
@[simp] theorem State.setHub_regions (s : State) (p : Nat) (h : Hub) : (s.setHub p h).regions = s.regions := (rfl)
@[simp] theorem State.setHub_net (s : State) (p : Nat) (h : Hub) : (s.setHub p h).net = s.net := (rfl)
@[simp] theorem State.setHub_engine (s : State) (p : Nat) (h : Hub) : (s.setHub p h).engine = s.engine := (rfl)
@[simp] theorem State.setHub_host (s : State) (p : Nat) (h : Hub) : (s.setHub p h).host = s.host := (rfl)
@[simp] theorem State.setHub_ctl (s : State) (p : Nat) (h : Hub) : (s.setHub p h).ctl = s.ctl := (rfl)
@[simp] theorem State.setHub_snaps (s : State) (p : Nat) (h : Hub) : (s.setHub p h).snaps = s.snaps := (rfl)
@[simp] theorem State.setHub_withy (s : State) (p : Nat) (h : Hub) : (s.setHub p h).withy = s.withy := (rfl)
@[simp] theorem State.setHub_light (s : State) (p : Nat) (h : Hub) : (s.setHub p h).light = s.light := (rfl)
@[simp] theorem State.setHub_sec (s : State) (p : Nat) (h : Hub) : (s.setHub p h).sec = s.sec := (rfl)

@[simp] theorem State.modHub_pending (s : State) (p : Nat) (f : Hub → Hub) : (s.modHub p f).pending = s.pending := (rfl)
@[simp] theorem State.modHub_freeCount (s : State) (p : Nat) (f : Hub → Hub) : (s.modHub p f).freeCount = s.freeCount := (rfl)
@[simp] theorem State.modHub_regs (s : State) (p : Nat) (f : Hub → Hub) : (s.modHub p f).regs = s.regs := (rfl)
@[simp] theorem State.modHub_hostLatch (s : State) (p : Nat) (f : Hub → Hub) : (s.modHub p f).hostLatch = s.hostLatch := (rfl)
@[simp] theorem State.modHub_smbLatch (s : State) (p : Nat) (f : Hub → Hub) : (s.modHub p f).smbLatch = s.smbLatch := (rfl)
@[simp] theorem State.modHub_readData (s : State) (p : Nat) (f : Hub → Hub) : (s.modHub p f).readData = s.readData := (rfl)
@[simp] theorem State.modHub_smbData (s : State) (p : Nat) (f : Hub → Hub) : (s.modHub p f).smbData = s.smbData := (rfl)
@[simp] theorem State.modHub_clk (s : State) (p : Nat) (f : Hub → Hub) : (s.modHub p f).clk = s.clk := (rfl)
@[simp] theorem State.modHub_pins (s : State) (p : Nat) (f : Hub → Hub) : (s.modHub p f).pins = s.pins := (rfl)
@[simp] theorem State.modHub_hawk (s : State) (p : Nat) (f : Hub → Hub) : (s.modHub p f).hawk = s.hawk := (rfl)
@[simp] theorem State.modHub_ev (s : State) (p : Nat) (f : Hub → Hub) : (s.modHub p f).ev = s.ev := (rfl)
@[simp] theorem State.modHub_tiles (s : State) (p : Nat) (f : Hub → Hub) : (s.modHub p f).tiles = s.tiles := (rfl)
@[simp] theorem State.modHub_courses (s : State) (p : Nat) (f : Hub → Hub) : (s.modHub p f).courses = s.courses := (rfl)
@[simp] theorem State.modHub_mem (s : State) (p : Nat) (f : Hub → Hub) : (s.modHub p f).mem = s.mem := (rfl)
@[simp] theorem State.modHub_pageMeta (s : State) (p : Nat) (f : Hub → Hub) : (s.modHub p f).pageMeta = s.pageMeta := (rfl)
@[simp] theorem State.modHub_scs (s : State) (p : Nat) (f : Hub → Hub) : (s.modHub p f).scs = s.scs := (rfl)
@[simp] theorem State.modHub_slices (s : State) (p : Nat) (f : Hub → Hub) : (s.modHub p f).slices = s.slices := (rfl)
@[simp] theorem State.modHub_storeDies (s : State) (p : Nat) (f : Hub → Hub) : (s.modHub p f).storeDies = s.storeDies := (rfl)
@[simp] theorem State.modHub_cdies (s : State) (p : Nat) (f : Hub → Hub) : (s.modHub p f).cdies = s.cdies := (rfl)
@[simp] theorem State.modHub_regions (s : State) (p : Nat) (f : Hub → Hub) : (s.modHub p f).regions = s.regions := (rfl)
@[simp] theorem State.modHub_net (s : State) (p : Nat) (f : Hub → Hub) : (s.modHub p f).net = s.net := (rfl)
@[simp] theorem State.modHub_engine (s : State) (p : Nat) (f : Hub → Hub) : (s.modHub p f).engine = s.engine := (rfl)
@[simp] theorem State.modHub_host (s : State) (p : Nat) (f : Hub → Hub) : (s.modHub p f).host = s.host := (rfl)
@[simp] theorem State.modHub_ctl (s : State) (p : Nat) (f : Hub → Hub) : (s.modHub p f).ctl = s.ctl := (rfl)
@[simp] theorem State.modHub_snaps (s : State) (p : Nat) (f : Hub → Hub) : (s.modHub p f).snaps = s.snaps := (rfl)
@[simp] theorem State.modHub_withy (s : State) (p : Nat) (f : Hub → Hub) : (s.modHub p f).withy = s.withy := (rfl)
@[simp] theorem State.modHub_light (s : State) (p : Nat) (f : Hub → Hub) : (s.modHub p f).light = s.light := (rfl)
@[simp] theorem State.modHub_sec (s : State) (p : Nat) (f : Hub → Hub) : (s.modHub p f).sec = s.sec := (rfl)

@[simp] theorem State.setRegion_pending (s : State) (g : Nat) (r : Region) : (s.setRegion g r).pending = s.pending := (rfl)
@[simp] theorem State.setRegion_freeCount (s : State) (g : Nat) (r : Region) : (s.setRegion g r).freeCount = s.freeCount := (rfl)
@[simp] theorem State.setRegion_regs (s : State) (g : Nat) (r : Region) : (s.setRegion g r).regs = s.regs := (rfl)
@[simp] theorem State.setRegion_hostLatch (s : State) (g : Nat) (r : Region) : (s.setRegion g r).hostLatch = s.hostLatch := (rfl)
@[simp] theorem State.setRegion_smbLatch (s : State) (g : Nat) (r : Region) : (s.setRegion g r).smbLatch = s.smbLatch := (rfl)
@[simp] theorem State.setRegion_readData (s : State) (g : Nat) (r : Region) : (s.setRegion g r).readData = s.readData := (rfl)
@[simp] theorem State.setRegion_smbData (s : State) (g : Nat) (r : Region) : (s.setRegion g r).smbData = s.smbData := (rfl)
@[simp] theorem State.setRegion_clk (s : State) (g : Nat) (r : Region) : (s.setRegion g r).clk = s.clk := (rfl)
@[simp] theorem State.setRegion_pins (s : State) (g : Nat) (r : Region) : (s.setRegion g r).pins = s.pins := (rfl)
@[simp] theorem State.setRegion_hawk (s : State) (g : Nat) (r : Region) : (s.setRegion g r).hawk = s.hawk := (rfl)
@[simp] theorem State.setRegion_ev (s : State) (g : Nat) (r : Region) : (s.setRegion g r).ev = s.ev := (rfl)
@[simp] theorem State.setRegion_tiles (s : State) (g : Nat) (r : Region) : (s.setRegion g r).tiles = s.tiles := (rfl)
@[simp] theorem State.setRegion_courses (s : State) (g : Nat) (r : Region) : (s.setRegion g r).courses = s.courses := (rfl)
@[simp] theorem State.setRegion_mem (s : State) (g : Nat) (r : Region) : (s.setRegion g r).mem = s.mem := (rfl)
@[simp] theorem State.setRegion_pageMeta (s : State) (g : Nat) (r : Region) : (s.setRegion g r).pageMeta = s.pageMeta := (rfl)
@[simp] theorem State.setRegion_scs (s : State) (g : Nat) (r : Region) : (s.setRegion g r).scs = s.scs := (rfl)
@[simp] theorem State.setRegion_slices (s : State) (g : Nat) (r : Region) : (s.setRegion g r).slices = s.slices := (rfl)
@[simp] theorem State.setRegion_storeDies (s : State) (g : Nat) (r : Region) : (s.setRegion g r).storeDies = s.storeDies := (rfl)
@[simp] theorem State.setRegion_cdies (s : State) (g : Nat) (r : Region) : (s.setRegion g r).cdies = s.cdies := (rfl)
@[simp] theorem State.setRegion_fab (s : State) (g : Nat) (r : Region) : (s.setRegion g r).fab = s.fab := (rfl)
@[simp] theorem State.setRegion_net (s : State) (g : Nat) (r : Region) : (s.setRegion g r).net = s.net := (rfl)
@[simp] theorem State.setRegion_engine (s : State) (g : Nat) (r : Region) : (s.setRegion g r).engine = s.engine := (rfl)
@[simp] theorem State.setRegion_host (s : State) (g : Nat) (r : Region) : (s.setRegion g r).host = s.host := (rfl)
@[simp] theorem State.setRegion_ctl (s : State) (g : Nat) (r : Region) : (s.setRegion g r).ctl = s.ctl := (rfl)
@[simp] theorem State.setRegion_snaps (s : State) (g : Nat) (r : Region) : (s.setRegion g r).snaps = s.snaps := (rfl)
@[simp] theorem State.setRegion_withy (s : State) (g : Nat) (r : Region) : (s.setRegion g r).withy = s.withy := (rfl)
@[simp] theorem State.setRegion_light (s : State) (g : Nat) (r : Region) : (s.setRegion g r).light = s.light := (rfl)
@[simp] theorem State.setRegion_sec (s : State) (g : Nat) (r : Region) : (s.setRegion g r).sec = s.sec := (rfl)

@[simp] theorem State.send_pending (s : State) (r : Req) : (s.send r).pending = s.pending := (rfl)
@[simp] theorem State.send_freeCount (s : State) (r : Req) : (s.send r).freeCount = s.freeCount := (rfl)
@[simp] theorem State.send_regs (s : State) (r : Req) : (s.send r).regs = s.regs := (rfl)
@[simp] theorem State.send_hostLatch (s : State) (r : Req) : (s.send r).hostLatch = s.hostLatch := (rfl)
@[simp] theorem State.send_smbLatch (s : State) (r : Req) : (s.send r).smbLatch = s.smbLatch := (rfl)
@[simp] theorem State.send_readData (s : State) (r : Req) : (s.send r).readData = s.readData := (rfl)
@[simp] theorem State.send_smbData (s : State) (r : Req) : (s.send r).smbData = s.smbData := (rfl)
@[simp] theorem State.send_clk (s : State) (r : Req) : (s.send r).clk = s.clk := (rfl)
@[simp] theorem State.send_pins (s : State) (r : Req) : (s.send r).pins = s.pins := (rfl)
@[simp] theorem State.send_hawk (s : State) (r : Req) : (s.send r).hawk = s.hawk := (rfl)
@[simp] theorem State.send_ev (s : State) (r : Req) : (s.send r).ev = s.ev := (rfl)
@[simp] theorem State.send_tiles (s : State) (r : Req) : (s.send r).tiles = s.tiles := (rfl)
@[simp] theorem State.send_courses (s : State) (r : Req) : (s.send r).courses = s.courses := (rfl)
@[simp] theorem State.send_mem (s : State) (r : Req) : (s.send r).mem = s.mem := (rfl)
@[simp] theorem State.send_pageMeta (s : State) (r : Req) : (s.send r).pageMeta = s.pageMeta := (rfl)
@[simp] theorem State.send_scs (s : State) (r : Req) : (s.send r).scs = s.scs := (rfl)
@[simp] theorem State.send_slices (s : State) (r : Req) : (s.send r).slices = s.slices := (rfl)
@[simp] theorem State.send_storeDies (s : State) (r : Req) : (s.send r).storeDies = s.storeDies := (rfl)
@[simp] theorem State.send_cdies (s : State) (r : Req) : (s.send r).cdies = s.cdies := (rfl)
@[simp] theorem State.send_regions (s : State) (r : Req) : (s.send r).regions = s.regions := (rfl)
@[simp] theorem State.send_fab (s : State) (r : Req) : (s.send r).fab = s.fab := (rfl)
@[simp] theorem State.send_engine (s : State) (r : Req) : (s.send r).engine = s.engine := (rfl)
@[simp] theorem State.send_host (s : State) (r : Req) : (s.send r).host = s.host := (rfl)
@[simp] theorem State.send_ctl (s : State) (r : Req) : (s.send r).ctl = s.ctl := (rfl)
@[simp] theorem State.send_snaps (s : State) (r : Req) : (s.send r).snaps = s.snaps := (rfl)
@[simp] theorem State.send_withy (s : State) (r : Req) : (s.send r).withy = s.withy := (rfl)
@[simp] theorem State.send_light (s : State) (r : Req) : (s.send r).light = s.light := (rfl)
@[simp] theorem State.send_sec (s : State) (r : Req) : (s.send r).sec = s.sec := (rfl)

@[simp] theorem State.reply_pending (s : State) (r : Reply) : (s.reply r).pending = s.pending := (rfl)
@[simp] theorem State.reply_freeCount (s : State) (r : Reply) : (s.reply r).freeCount = s.freeCount := (rfl)
@[simp] theorem State.reply_regs (s : State) (r : Reply) : (s.reply r).regs = s.regs := (rfl)
@[simp] theorem State.reply_hostLatch (s : State) (r : Reply) : (s.reply r).hostLatch = s.hostLatch := (rfl)
@[simp] theorem State.reply_smbLatch (s : State) (r : Reply) : (s.reply r).smbLatch = s.smbLatch := (rfl)
@[simp] theorem State.reply_readData (s : State) (r : Reply) : (s.reply r).readData = s.readData := (rfl)
@[simp] theorem State.reply_smbData (s : State) (r : Reply) : (s.reply r).smbData = s.smbData := (rfl)
@[simp] theorem State.reply_clk (s : State) (r : Reply) : (s.reply r).clk = s.clk := (rfl)
@[simp] theorem State.reply_pins (s : State) (r : Reply) : (s.reply r).pins = s.pins := (rfl)
@[simp] theorem State.reply_hawk (s : State) (r : Reply) : (s.reply r).hawk = s.hawk := (rfl)
@[simp] theorem State.reply_ev (s : State) (r : Reply) : (s.reply r).ev = s.ev := (rfl)
@[simp] theorem State.reply_tiles (s : State) (r : Reply) : (s.reply r).tiles = s.tiles := (rfl)
@[simp] theorem State.reply_courses (s : State) (r : Reply) : (s.reply r).courses = s.courses := (rfl)
@[simp] theorem State.reply_mem (s : State) (r : Reply) : (s.reply r).mem = s.mem := (rfl)
@[simp] theorem State.reply_pageMeta (s : State) (r : Reply) : (s.reply r).pageMeta = s.pageMeta := (rfl)
@[simp] theorem State.reply_scs (s : State) (r : Reply) : (s.reply r).scs = s.scs := (rfl)
@[simp] theorem State.reply_slices (s : State) (r : Reply) : (s.reply r).slices = s.slices := (rfl)
@[simp] theorem State.reply_storeDies (s : State) (r : Reply) : (s.reply r).storeDies = s.storeDies := (rfl)
@[simp] theorem State.reply_cdies (s : State) (r : Reply) : (s.reply r).cdies = s.cdies := (rfl)
@[simp] theorem State.reply_regions (s : State) (r : Reply) : (s.reply r).regions = s.regions := (rfl)
@[simp] theorem State.reply_fab (s : State) (r : Reply) : (s.reply r).fab = s.fab := (rfl)
@[simp] theorem State.reply_engine (s : State) (r : Reply) : (s.reply r).engine = s.engine := (rfl)
@[simp] theorem State.reply_host (s : State) (r : Reply) : (s.reply r).host = s.host := (rfl)
@[simp] theorem State.reply_ctl (s : State) (r : Reply) : (s.reply r).ctl = s.ctl := (rfl)
@[simp] theorem State.reply_snaps (s : State) (r : Reply) : (s.reply r).snaps = s.snaps := (rfl)
@[simp] theorem State.reply_withy (s : State) (r : Reply) : (s.reply r).withy = s.withy := (rfl)
@[simp] theorem State.reply_light (s : State) (r : Reply) : (s.reply r).light = s.light := (rfl)
@[simp] theorem State.reply_sec (s : State) (r : Reply) : (s.reply r).sec = s.sec := (rfl)

@[simp] theorem State.stage_pending (s : State) (a : Nat) (v : W32) : (s.stage a v).pending = s.pending := (rfl)
@[simp] theorem State.stage_freeCount (s : State) (a : Nat) (v : W32) : (s.stage a v).freeCount = s.freeCount := (rfl)
@[simp] theorem State.stage_regs (s : State) (a : Nat) (v : W32) : (s.stage a v).regs = s.regs := (rfl)
@[simp] theorem State.stage_hostLatch (s : State) (a : Nat) (v : W32) : (s.stage a v).hostLatch = s.hostLatch := (rfl)
@[simp] theorem State.stage_smbLatch (s : State) (a : Nat) (v : W32) : (s.stage a v).smbLatch = s.smbLatch := (rfl)
@[simp] theorem State.stage_readData (s : State) (a : Nat) (v : W32) : (s.stage a v).readData = s.readData := (rfl)
@[simp] theorem State.stage_smbData (s : State) (a : Nat) (v : W32) : (s.stage a v).smbData = s.smbData := (rfl)
@[simp] theorem State.stage_clk (s : State) (a : Nat) (v : W32) : (s.stage a v).clk = s.clk := (rfl)
@[simp] theorem State.stage_pins (s : State) (a : Nat) (v : W32) : (s.stage a v).pins = s.pins := (rfl)
@[simp] theorem State.stage_ev (s : State) (a : Nat) (v : W32) : (s.stage a v).ev = s.ev := (rfl)
@[simp] theorem State.stage_tiles (s : State) (a : Nat) (v : W32) : (s.stage a v).tiles = s.tiles := (rfl)
@[simp] theorem State.stage_courses (s : State) (a : Nat) (v : W32) : (s.stage a v).courses = s.courses := (rfl)
@[simp] theorem State.stage_mem (s : State) (a : Nat) (v : W32) : (s.stage a v).mem = s.mem := (rfl)
@[simp] theorem State.stage_pageMeta (s : State) (a : Nat) (v : W32) : (s.stage a v).pageMeta = s.pageMeta := (rfl)
@[simp] theorem State.stage_scs (s : State) (a : Nat) (v : W32) : (s.stage a v).scs = s.scs := (rfl)
@[simp] theorem State.stage_slices (s : State) (a : Nat) (v : W32) : (s.stage a v).slices = s.slices := (rfl)
@[simp] theorem State.stage_storeDies (s : State) (a : Nat) (v : W32) : (s.stage a v).storeDies = s.storeDies := (rfl)
@[simp] theorem State.stage_cdies (s : State) (a : Nat) (v : W32) : (s.stage a v).cdies = s.cdies := (rfl)
@[simp] theorem State.stage_regions (s : State) (a : Nat) (v : W32) : (s.stage a v).regions = s.regions := (rfl)
@[simp] theorem State.stage_fab (s : State) (a : Nat) (v : W32) : (s.stage a v).fab = s.fab := (rfl)
@[simp] theorem State.stage_net (s : State) (a : Nat) (v : W32) : (s.stage a v).net = s.net := (rfl)
@[simp] theorem State.stage_engine (s : State) (a : Nat) (v : W32) : (s.stage a v).engine = s.engine := (rfl)
@[simp] theorem State.stage_host (s : State) (a : Nat) (v : W32) : (s.stage a v).host = s.host := (rfl)
@[simp] theorem State.stage_ctl (s : State) (a : Nat) (v : W32) : (s.stage a v).ctl = s.ctl := (rfl)
@[simp] theorem State.stage_snaps (s : State) (a : Nat) (v : W32) : (s.stage a v).snaps = s.snaps := (rfl)
@[simp] theorem State.stage_withy (s : State) (a : Nat) (v : W32) : (s.stage a v).withy = s.withy := (rfl)
@[simp] theorem State.stage_light (s : State) (a : Nat) (v : W32) : (s.stage a v).light = s.light := (rfl)
@[simp] theorem State.stage_sec (s : State) (a : Nat) (v : W32) : (s.stage a v).sec = s.sec := (rfl)

@[simp] theorem State.reach_pending (s : State) (t : Nat) : (s.reach t).pending = s.pending := (rfl)
@[simp] theorem State.reach_freeCount (s : State) (t : Nat) : (s.reach t).freeCount = s.freeCount := (rfl)
@[simp] theorem State.reach_regs (s : State) (t : Nat) : (s.reach t).regs = s.regs := (rfl)
@[simp] theorem State.reach_hostLatch (s : State) (t : Nat) : (s.reach t).hostLatch = s.hostLatch := (rfl)
@[simp] theorem State.reach_smbLatch (s : State) (t : Nat) : (s.reach t).smbLatch = s.smbLatch := (rfl)
@[simp] theorem State.reach_readData (s : State) (t : Nat) : (s.reach t).readData = s.readData := (rfl)
@[simp] theorem State.reach_smbData (s : State) (t : Nat) : (s.reach t).smbData = s.smbData := (rfl)
@[simp] theorem State.reach_pins (s : State) (t : Nat) : (s.reach t).pins = s.pins := (rfl)
@[simp] theorem State.reach_hawk (s : State) (t : Nat) : (s.reach t).hawk = s.hawk := (rfl)
@[simp] theorem State.reach_ev (s : State) (t : Nat) : (s.reach t).ev = s.ev := (rfl)
@[simp] theorem State.reach_tiles (s : State) (t : Nat) : (s.reach t).tiles = s.tiles := (rfl)
@[simp] theorem State.reach_courses (s : State) (t : Nat) : (s.reach t).courses = s.courses := (rfl)
@[simp] theorem State.reach_mem (s : State) (t : Nat) : (s.reach t).mem = s.mem := (rfl)
@[simp] theorem State.reach_pageMeta (s : State) (t : Nat) : (s.reach t).pageMeta = s.pageMeta := (rfl)
@[simp] theorem State.reach_scs (s : State) (t : Nat) : (s.reach t).scs = s.scs := (rfl)
@[simp] theorem State.reach_slices (s : State) (t : Nat) : (s.reach t).slices = s.slices := (rfl)
@[simp] theorem State.reach_storeDies (s : State) (t : Nat) : (s.reach t).storeDies = s.storeDies := (rfl)
@[simp] theorem State.reach_cdies (s : State) (t : Nat) : (s.reach t).cdies = s.cdies := (rfl)
@[simp] theorem State.reach_regions (s : State) (t : Nat) : (s.reach t).regions = s.regions := (rfl)
@[simp] theorem State.reach_fab (s : State) (t : Nat) : (s.reach t).fab = s.fab := (rfl)
@[simp] theorem State.reach_net (s : State) (t : Nat) : (s.reach t).net = s.net := (rfl)
@[simp] theorem State.reach_engine (s : State) (t : Nat) : (s.reach t).engine = s.engine := (rfl)
@[simp] theorem State.reach_host (s : State) (t : Nat) : (s.reach t).host = s.host := (rfl)
@[simp] theorem State.reach_ctl (s : State) (t : Nat) : (s.reach t).ctl = s.ctl := (rfl)
@[simp] theorem State.reach_snaps (s : State) (t : Nat) : (s.reach t).snaps = s.snaps := (rfl)
@[simp] theorem State.reach_withy (s : State) (t : Nat) : (s.reach t).withy = s.withy := (rfl)
@[simp] theorem State.reach_light (s : State) (t : Nat) : (s.reach t).light = s.light := (rfl)
@[simp] theorem State.reach_sec (s : State) (t : Nat) : (s.reach t).sec = s.sec := (rfl)

end Sys2Proof.Machine
end

