-- ==== Sys2Proof/Laws/Registers.lean ====
section
/-!
SUPPORT. What a register reads after a write of a register or of a field, and what raising an event and counting leave as they were.
-/
namespace Sys2Proof.Machine

/-- A register read after a register write. -/
@[simp] theorem State.getR_setR (s : State) (a b : Nat) (v : W32) :
    (s.setR a v).getR b = if b = a then v else s.getR b := by
  simp [State.setR, State.getR]

/-- Bit i of a field is bit lo + i of its word. -/
theorem Fld.testBit_of (f : Fld) (w : W32) (i : Nat) :
    (f.of w).testBit i = (decide (i < f.width) && w.getLsbD (f.lo + i)) := by
  simp [Fld.of, ← Nat.shiftRight_eq_div_pow, Nat.testBit_mod_two_pow, Nat.testBit_shiftRight, BitVec.getLsbD]

/-- Bit i of a field's mask. -/
theorem Fld.getLsbD_mask (f : Fld) (i : Nat) :
    f.mask.getLsbD i = (decide (i < 32) && (decide (f.lo ≤ i) && decide (i < f.lo + f.width))) := by
  simp only [Fld.mask, BitVec.getLsbD_ofNat, ← Nat.shiftLeft_eq, Nat.testBit_shiftLeft, Nat.testBit_two_pow_sub_one]
  by_cases h : f.lo ≤ i
  · have e : (i - f.lo < f.width) = (i < f.lo + f.width) := by apply propext; omega
    simp [h, e]
  · simp [h]

/-- Bit i of a word whose field f has become v. -/
theorem Fld.getLsbD_into (f : Fld) (w : W32) (v i : Nat) (hi : i < 32) :
    (f.into w v).getLsbD i =
      if f.lo ≤ i ∧ i < f.lo + f.width then v.testBit (i - f.lo) else w.getLsbD i := by
  simp only [Fld.into, BitVec.getLsbD_or, BitVec.getLsbD_and, BitVec.getLsbD_not, Fld.getLsbD_mask, BitVec.getLsbD_ofNat,
    ← Nat.shiftLeft_eq, Nat.testBit_shiftLeft, Nat.testBit_mod_two_pow, hi]
  by_cases h1 : f.lo ≤ i <;> by_cases h2 : i < f.lo + f.width <;> simp [h1, h2] <;> omega

/-- A field read after the same field has become v. -/
theorem Fld.of_into (f : Fld) (w : W32) (v : Nat) (h : f.lo + f.width ≤ 32) : f.of (f.into w v) = v % 2 ^ f.width := by
  apply Nat.eq_of_testBit_eq
  intro i
  rw [Fld.testBit_of, Nat.testBit_mod_two_pow]
  by_cases hi : i < f.width
  · rw [Fld.getLsbD_into _ _ _ _ (by omega), if_pos ⟨by omega, by omega⟩]
    simp [hi]
  · simp [hi]

/-- A field read after a field beside it has become v. -/
theorem Fld.of_into_apart (f g : Fld) (w : W32) (v : Nat) (h : f.lo + f.width ≤ g.lo ∨ g.lo + g.width ≤ f.lo)
    (hg : g.lo + g.width ≤ 32) : g.of (f.into w v) = g.of w := by
  apply Nat.eq_of_testBit_eq
  intro i
  rw [Fld.testBit_of, Fld.testBit_of]
  by_cases hi : i < g.width
  · rw [Fld.getLsbD_into _ _ _ _ (by omega), if_neg (by omega)]
  · simp [hi]

/-- A field is below its bound. -/
theorem State.getF_lt (s : State) (f : Fld) : s.getF f < 2 ^ f.width := Nat.mod_lt _ (Nat.two_pow_pos _)

theorem State.getR_setF (s : State) (f : Fld) (v a : Nat) :
    (s.setF f v).getR a = if a = f.addr then f.into (s.getR f.addr) v else s.getR a := State.getR_setR s f.addr a _

/-- The field that was written. -/
theorem State.getF_setF (s : State) (f : Fld) (v : Nat) (h : f.lo + f.width ≤ 32) : (s.setF f v).getF f = v % 2 ^ f.width := by
  simp [State.getF, State.getR_setF, Fld.of_into f _ v h]

/-- A field of another register. -/
theorem State.getF_setF_other (s : State) (f g : Fld) (v : Nat) (h : g.addr ≠ f.addr) : (s.setF f v).getF g = s.getF g := by
  simp [State.getF, State.getR_setF, h]

/-- A field of the same register, beside the one that was written. -/
theorem State.getF_setF_apart (s : State) (f g : Fld) (v : Nat) (h : f.lo + f.width ≤ g.lo ∨ g.lo + g.width ≤ f.lo)
    (hg : g.lo + g.width ≤ 32) : (s.setF f v).getF g = s.getF g := by
  by_cases ha : g.addr = f.addr
  · simp [State.getF, State.getR_setF, ha, Fld.of_into_apart f g _ v h hg]
  · exact State.getF_setF_other s f g v ha

/-- A field of a register that was written whole. -/
theorem State.getF_setR (s : State) (a : Nat) (v : W32) (g : Fld) :
    (s.setR a v).getF g = if g.addr = a then g.of v else s.getF g := by
  unfold State.getF
  rw [State.getR_setR]
  split <;> rfl

/-- The one-bit field that was written. -/
theorem State.on_setB (s : State) (f : Fld) (b : Bool) (h : f.lo + 1 ≤ 32) (hw : f.width = 1) : (s.setB f b).on f = b := by
  cases b <;> simp [State.on, State.setB, State.getF_setF s f _ (by omega), hw]

/-- The 48-bit counter that was stored. -/
theorem State.cnt_setCnt (s : State) (a v : Nat) (o : Bool) (h : v < 2 ^ 48) : (s.setCnt a v o).cnt a = v := by
  have hx : ∀ y : W32, (BitVec.ofNat 32 (v / 2 ^ 32 % 2 ^ 16) ||| (if o then 0x80000000#32 else y &&& 0x80000000#32)).toNat % 2 ^ 16 =
      v / 2 ^ 32 % 2 ^ 16 := by
    intro y
    rw [BitVec.toNat_or, Nat.or_mod_two_pow, BitVec.toNat_ofNat]
    have hz : (if o then 0x80000000#32 else y &&& 0x80000000#32).toNat % 2 ^ 16 = 0 := by
      cases o
      · simp only [Bool.false_eq_true, if_false, BitVec.toNat_and]
        rw [Nat.and_mod_two_pow]; simp
      · simp
    rw [hz, Nat.or_zero]; omega
  simp only [State.setCnt, State.cnt, State.getR_setR]
  have h4 : a ≠ a + 4 := by omega
  simp only [h4, if_false, if_true, hx]
  rw [BitVec.toNat_ofNat]; omega

/-- A counter apart from the one that was stored. -/
theorem State.cnt_setCnt_other (s : State) (a b v : Nat) (o : Bool) (h : a + 8 ≤ b ∨ b + 8 ≤ a) :
    (s.setCnt a v o).cnt b = s.cnt b := by
  simp only [State.setCnt, State.cnt, State.getR_setR]
  rw [if_neg (by omega), if_neg (by omega), if_neg (by omega), if_neg (by omega)]

/-- A counter after it has counted (R96). -/
theorem State.cnt_addCnt (s : State) (a n : Nat) : (s.addCnt a n).cnt a = min (2 ^ 48 - 1) (s.cnt a + n) := by
  unfold State.addCnt cntMax
  rw [State.cnt_setCnt]
  omega

/-- A register that is no part of the counter. -/
theorem State.getR_addCnt_other (s : State) (a n b : Nat) (h : b ≠ a) (h' : b ≠ a + 4) : (s.addCnt a n).getR b = s.getR b := by
  unfold State.addCnt State.setCnt
  rw [State.getR_setR, if_neg h', State.getR_setR, if_neg h]

/-! ## Events and statistics counters -/

@[simp] theorem State.raise_pending (s : State) (c u : Nat) (d : List Nat) : (s.raise c u d).pending = s.pending := by
  unfold State.raise; dsimp only; split <;> simp
@[simp] theorem State.raise_freeCount (s : State) (c u : Nat) (d : List Nat) : (s.raise c u d).freeCount = s.freeCount := by
  unfold State.raise; dsimp only; split <;> simp
@[simp] theorem State.raise_hostLatch (s : State) (c u : Nat) (d : List Nat) : (s.raise c u d).hostLatch = s.hostLatch := by
  unfold State.raise; dsimp only; split <;> simp
@[simp] theorem State.raise_smbLatch (s : State) (c u : Nat) (d : List Nat) : (s.raise c u d).smbLatch = s.smbLatch := by
  unfold State.raise; dsimp only; split <;> simp
@[simp] theorem State.raise_readData (s : State) (c u : Nat) (d : List Nat) : (s.raise c u d).readData = s.readData := by
  unfold State.raise; dsimp only; split <;> simp
@[simp] theorem State.raise_smbData (s : State) (c u : Nat) (d : List Nat) : (s.raise c u d).smbData = s.smbData := by
  unfold State.raise; dsimp only; split <;> simp
@[simp] theorem State.raise_clk (s : State) (c u : Nat) (d : List Nat) : (s.raise c u d).clk = s.clk := by
  unfold State.raise; dsimp only; split <;> simp
@[simp] theorem State.raise_pins (s : State) (c u : Nat) (d : List Nat) : (s.raise c u d).pins = s.pins := by
  unfold State.raise; dsimp only; split <;> simp
@[simp] theorem State.raise_hawk (s : State) (c u : Nat) (d : List Nat) : (s.raise c u d).hawk = s.hawk := by
  unfold State.raise; dsimp only; split <;> simp
@[simp] theorem State.raise_tiles (s : State) (c u : Nat) (d : List Nat) : (s.raise c u d).tiles = s.tiles := by
  unfold State.raise; dsimp only; split <;> simp
@[simp] theorem State.raise_courses (s : State) (c u : Nat) (d : List Nat) : (s.raise c u d).courses = s.courses := by
  unfold State.raise; dsimp only; split <;> simp
@[simp] theorem State.raise_mem (s : State) (c u : Nat) (d : List Nat) : (s.raise c u d).mem = s.mem := by
  unfold State.raise; dsimp only; split <;> simp
@[simp] theorem State.raise_pageMeta (s : State) (c u : Nat) (d : List Nat) : (s.raise c u d).pageMeta = s.pageMeta := by
  unfold State.raise; dsimp only; split <;> simp
@[simp] theorem State.raise_scs (s : State) (c u : Nat) (d : List Nat) : (s.raise c u d).scs = s.scs := by
  unfold State.raise; dsimp only; split <;> simp
@[simp] theorem State.raise_slices (s : State) (c u : Nat) (d : List Nat) : (s.raise c u d).slices = s.slices := by
  unfold State.raise; dsimp only; split <;> simp
@[simp] theorem State.raise_storeDies (s : State) (c u : Nat) (d : List Nat) : (s.raise c u d).storeDies = s.storeDies := by
  unfold State.raise; dsimp only; split <;> simp
@[simp] theorem State.raise_cdies (s : State) (c u : Nat) (d : List Nat) : (s.raise c u d).cdies = s.cdies := by
  unfold State.raise; dsimp only; split <;> simp
@[simp] theorem State.raise_regions (s : State) (c u : Nat) (d : List Nat) : (s.raise c u d).regions = s.regions := by
  unfold State.raise; dsimp only; split <;> simp
@[simp] theorem State.raise_fab (s : State) (c u : Nat) (d : List Nat) : (s.raise c u d).fab = s.fab := by
  unfold State.raise; dsimp only; split <;> simp
@[simp] theorem State.raise_net (s : State) (c u : Nat) (d : List Nat) : (s.raise c u d).net = s.net := by
  unfold State.raise; dsimp only; split <;> simp
@[simp] theorem State.raise_engine (s : State) (c u : Nat) (d : List Nat) : (s.raise c u d).engine = s.engine := by
  unfold State.raise; dsimp only; split <;> simp
@[simp] theorem State.raise_host (s : State) (c u : Nat) (d : List Nat) : (s.raise c u d).host = s.host := by
  unfold State.raise; dsimp only; split <;> simp
@[simp] theorem State.raise_ctl (s : State) (c u : Nat) (d : List Nat) : (s.raise c u d).ctl = s.ctl := by
  unfold State.raise; dsimp only; split <;> simp
@[simp] theorem State.raise_snaps (s : State) (c u : Nat) (d : List Nat) : (s.raise c u d).snaps = s.snaps := by
  unfold State.raise; dsimp only; split <;> simp
@[simp] theorem State.raise_withy (s : State) (c u : Nat) (d : List Nat) : (s.raise c u d).withy = s.withy := by
  unfold State.raise; dsimp only; split <;> simp
@[simp] theorem State.raise_light (s : State) (c u : Nat) (d : List Nat) : (s.raise c u d).light = s.light := by
  unfold State.raise; dsimp only; split <;> simp
@[simp] theorem State.raise_sec (s : State) (c u : Nat) (d : List Nat) : (s.raise c u d).sec = s.sec := by
  unfold State.raise; dsimp only; split <;> simp
/-- All that a statistics counter does when it counts: it adds, and the count that takes it to its largest value is an event (R392). -/
theorem State.bump_cases (s : State) (a n : Nat) :
    s.bump a n = s.addCnt a n ∨ s.bump a n = (s.addCnt a n).raise 0x7002 ((s.addCnt a n).counterUnit a) [a] := by
  unfold State.bump
  by_cases h : s.cnt a < cntMax ∧ (s.addCnt a n).cnt a = cntMax
  · right; exact if_pos h
  · left; exact if_neg h

@[simp] theorem State.bump_pending (s : State) (a n : Nat) : (s.bump a n).pending = s.pending := by
  rcases State.bump_cases s a n with h | h <;> rw [h] <;> simp
@[simp] theorem State.bump_freeCount (s : State) (a n : Nat) : (s.bump a n).freeCount = s.freeCount := by
  rcases State.bump_cases s a n with h | h <;> rw [h] <;> simp
@[simp] theorem State.bump_hostLatch (s : State) (a n : Nat) : (s.bump a n).hostLatch = s.hostLatch := by
  rcases State.bump_cases s a n with h | h <;> rw [h] <;> simp
@[simp] theorem State.bump_smbLatch (s : State) (a n : Nat) : (s.bump a n).smbLatch = s.smbLatch := by
  rcases State.bump_cases s a n with h | h <;> rw [h] <;> simp
@[simp] theorem State.bump_readData (s : State) (a n : Nat) : (s.bump a n).readData = s.readData := by
  rcases State.bump_cases s a n with h | h <;> rw [h] <;> simp
@[simp] theorem State.bump_smbData (s : State) (a n : Nat) : (s.bump a n).smbData = s.smbData := by
  rcases State.bump_cases s a n with h | h <;> rw [h] <;> simp
@[simp] theorem State.bump_clk (s : State) (a n : Nat) : (s.bump a n).clk = s.clk := by
  rcases State.bump_cases s a n with h | h <;> rw [h] <;> simp
@[simp] theorem State.bump_pins (s : State) (a n : Nat) : (s.bump a n).pins = s.pins := by
  rcases State.bump_cases s a n with h | h <;> rw [h] <;> simp
@[simp] theorem State.bump_hawk (s : State) (a n : Nat) : (s.bump a n).hawk = s.hawk := by
  rcases State.bump_cases s a n with h | h <;> rw [h] <;> simp
@[simp] theorem State.bump_tiles (s : State) (a n : Nat) : (s.bump a n).tiles = s.tiles := by
  rcases State.bump_cases s a n with h | h <;> rw [h] <;> simp
@[simp] theorem State.bump_courses (s : State) (a n : Nat) : (s.bump a n).courses = s.courses := by
  rcases State.bump_cases s a n with h | h <;> rw [h] <;> simp
@[simp] theorem State.bump_mem (s : State) (a n : Nat) : (s.bump a n).mem = s.mem := by
  rcases State.bump_cases s a n with h | h <;> rw [h] <;> simp
@[simp] theorem State.bump_pageMeta (s : State) (a n : Nat) : (s.bump a n).pageMeta = s.pageMeta := by
  rcases State.bump_cases s a n with h | h <;> rw [h] <;> simp
@[simp] theorem State.bump_scs (s : State) (a n : Nat) : (s.bump a n).scs = s.scs := by
  rcases State.bump_cases s a n with h | h <;> rw [h] <;> simp
@[simp] theorem State.bump_slices (s : State) (a n : Nat) : (s.bump a n).slices = s.slices := by
  rcases State.bump_cases s a n with h | h <;> rw [h] <;> simp
@[simp] theorem State.bump_storeDies (s : State) (a n : Nat) : (s.bump a n).storeDies = s.storeDies := by
  rcases State.bump_cases s a n with h | h <;> rw [h] <;> simp
@[simp] theorem State.bump_cdies (s : State) (a n : Nat) : (s.bump a n).cdies = s.cdies := by
  rcases State.bump_cases s a n with h | h <;> rw [h] <;> simp
@[simp] theorem State.bump_regions (s : State) (a n : Nat) : (s.bump a n).regions = s.regions := by
  rcases State.bump_cases s a n with h | h <;> rw [h] <;> simp
@[simp] theorem State.bump_fab (s : State) (a n : Nat) : (s.bump a n).fab = s.fab := by
  rcases State.bump_cases s a n with h | h <;> rw [h] <;> simp
@[simp] theorem State.bump_net (s : State) (a n : Nat) : (s.bump a n).net = s.net := by
  rcases State.bump_cases s a n with h | h <;> rw [h] <;> simp
@[simp] theorem State.bump_engine (s : State) (a n : Nat) : (s.bump a n).engine = s.engine := by
  rcases State.bump_cases s a n with h | h <;> rw [h] <;> simp
@[simp] theorem State.bump_host (s : State) (a n : Nat) : (s.bump a n).host = s.host := by
  rcases State.bump_cases s a n with h | h <;> rw [h] <;> simp
@[simp] theorem State.bump_ctl (s : State) (a n : Nat) : (s.bump a n).ctl = s.ctl := by
  rcases State.bump_cases s a n with h | h <;> rw [h] <;> simp
@[simp] theorem State.bump_snaps (s : State) (a n : Nat) : (s.bump a n).snaps = s.snaps := by
  rcases State.bump_cases s a n with h | h <;> rw [h] <;> simp
@[simp] theorem State.bump_withy (s : State) (a n : Nat) : (s.bump a n).withy = s.withy := by
  rcases State.bump_cases s a n with h | h <;> rw [h] <;> simp
@[simp] theorem State.bump_light (s : State) (a n : Nat) : (s.bump a n).light = s.light := by
  rcases State.bump_cases s a n with h | h <;> rw [h] <;> simp
@[simp] theorem State.bump_sec (s : State) (a n : Nat) : (s.bump a n).sec = s.sec := by
  rcases State.bump_cases s a n with h | h <;> rw [h] <;> simp
@[simp] theorem State.updatePins_pending (s : State) : s.updatePins.pending = s.pending := (rfl)
@[simp] theorem State.updatePins_freeCount (s : State) : s.updatePins.freeCount = s.freeCount := (rfl)
@[simp] theorem State.updatePins_hostLatch (s : State) : s.updatePins.hostLatch = s.hostLatch := (rfl)
@[simp] theorem State.updatePins_smbLatch (s : State) : s.updatePins.smbLatch = s.smbLatch := (rfl)
@[simp] theorem State.updatePins_readData (s : State) : s.updatePins.readData = s.readData := (rfl)
@[simp] theorem State.updatePins_smbData (s : State) : s.updatePins.smbData = s.smbData := (rfl)
@[simp] theorem State.updatePins_clk (s : State) : s.updatePins.clk = s.clk := (rfl)
@[simp] theorem State.updatePins_pins (s : State) : s.updatePins.pins = s.pins := (rfl)
@[simp] theorem State.updatePins_hawk (s : State) : s.updatePins.hawk = s.hawk := (rfl)
@[simp] theorem State.updatePins_tiles (s : State) : s.updatePins.tiles = s.tiles := (rfl)
@[simp] theorem State.updatePins_courses (s : State) : s.updatePins.courses = s.courses := (rfl)
@[simp] theorem State.updatePins_mem (s : State) : s.updatePins.mem = s.mem := (rfl)
@[simp] theorem State.updatePins_pageMeta (s : State) : s.updatePins.pageMeta = s.pageMeta := (rfl)
@[simp] theorem State.updatePins_scs (s : State) : s.updatePins.scs = s.scs := (rfl)
@[simp] theorem State.updatePins_slices (s : State) : s.updatePins.slices = s.slices := (rfl)
@[simp] theorem State.updatePins_storeDies (s : State) : s.updatePins.storeDies = s.storeDies := (rfl)
@[simp] theorem State.updatePins_cdies (s : State) : s.updatePins.cdies = s.cdies := (rfl)
@[simp] theorem State.updatePins_regions (s : State) : s.updatePins.regions = s.regions := (rfl)
@[simp] theorem State.updatePins_fab (s : State) : s.updatePins.fab = s.fab := (rfl)
@[simp] theorem State.updatePins_net (s : State) : s.updatePins.net = s.net := (rfl)
@[simp] theorem State.updatePins_engine (s : State) : s.updatePins.engine = s.engine := (rfl)
@[simp] theorem State.updatePins_host (s : State) : s.updatePins.host = s.host := (rfl)
@[simp] theorem State.updatePins_ctl (s : State) : s.updatePins.ctl = s.ctl := (rfl)
@[simp] theorem State.updatePins_snaps (s : State) : s.updatePins.snaps = s.snaps := (rfl)
@[simp] theorem State.updatePins_withy (s : State) : s.updatePins.withy = s.withy := (rfl)
@[simp] theorem State.updatePins_light (s : State) : s.updatePins.light = s.light := (rfl)
@[simp] theorem State.updatePins_sec (s : State) : s.updatePins.sec = s.sec := (rfl)
@[simp] theorem State.setDegraded_pending (s : State) (i : Nat) (b : Bool) : (s.setDegraded i b).pending = s.pending := by
  unfold State.setDegraded; dsimp only; split <;> simp
@[simp] theorem State.setDegraded_freeCount (s : State) (i : Nat) (b : Bool) : (s.setDegraded i b).freeCount = s.freeCount := by
  unfold State.setDegraded; dsimp only; split <;> simp
@[simp] theorem State.setDegraded_hostLatch (s : State) (i : Nat) (b : Bool) : (s.setDegraded i b).hostLatch = s.hostLatch := by
  unfold State.setDegraded; dsimp only; split <;> simp
@[simp] theorem State.setDegraded_smbLatch (s : State) (i : Nat) (b : Bool) : (s.setDegraded i b).smbLatch = s.smbLatch := by
  unfold State.setDegraded; dsimp only; split <;> simp
@[simp] theorem State.setDegraded_readData (s : State) (i : Nat) (b : Bool) : (s.setDegraded i b).readData = s.readData := by
  unfold State.setDegraded; dsimp only; split <;> simp
@[simp] theorem State.setDegraded_smbData (s : State) (i : Nat) (b : Bool) : (s.setDegraded i b).smbData = s.smbData := by
  unfold State.setDegraded; dsimp only; split <;> simp
@[simp] theorem State.setDegraded_clk (s : State) (i : Nat) (b : Bool) : (s.setDegraded i b).clk = s.clk := by
  unfold State.setDegraded; dsimp only; split <;> simp
@[simp] theorem State.setDegraded_pins (s : State) (i : Nat) (b : Bool) : (s.setDegraded i b).pins = s.pins := by
  unfold State.setDegraded; dsimp only; split <;> simp
@[simp] theorem State.setDegraded_hawk (s : State) (i : Nat) (b : Bool) : (s.setDegraded i b).hawk = s.hawk := by
  unfold State.setDegraded; dsimp only; split <;> simp
@[simp] theorem State.setDegraded_tiles (s : State) (i : Nat) (b : Bool) : (s.setDegraded i b).tiles = s.tiles := by
  unfold State.setDegraded; dsimp only; split <;> simp
@[simp] theorem State.setDegraded_courses (s : State) (i : Nat) (b : Bool) : (s.setDegraded i b).courses = s.courses := by
  unfold State.setDegraded; dsimp only; split <;> simp
@[simp] theorem State.setDegraded_mem (s : State) (i : Nat) (b : Bool) : (s.setDegraded i b).mem = s.mem := by
  unfold State.setDegraded; dsimp only; split <;> simp
@[simp] theorem State.setDegraded_pageMeta (s : State) (i : Nat) (b : Bool) : (s.setDegraded i b).pageMeta = s.pageMeta := by
  unfold State.setDegraded; dsimp only; split <;> simp
@[simp] theorem State.setDegraded_scs (s : State) (i : Nat) (b : Bool) : (s.setDegraded i b).scs = s.scs := by
  unfold State.setDegraded; dsimp only; split <;> simp
@[simp] theorem State.setDegraded_slices (s : State) (i : Nat) (b : Bool) : (s.setDegraded i b).slices = s.slices := by
  unfold State.setDegraded; dsimp only; split <;> simp
@[simp] theorem State.setDegraded_storeDies (s : State) (i : Nat) (b : Bool) : (s.setDegraded i b).storeDies = s.storeDies := by
  unfold State.setDegraded; dsimp only; split <;> simp
@[simp] theorem State.setDegraded_cdies (s : State) (i : Nat) (b : Bool) : (s.setDegraded i b).cdies = s.cdies := by
  unfold State.setDegraded; dsimp only; split <;> simp
@[simp] theorem State.setDegraded_regions (s : State) (i : Nat) (b : Bool) : (s.setDegraded i b).regions = s.regions := by
  unfold State.setDegraded; dsimp only; split <;> simp
@[simp] theorem State.setDegraded_fab (s : State) (i : Nat) (b : Bool) : (s.setDegraded i b).fab = s.fab := by
  unfold State.setDegraded; dsimp only; split <;> simp
@[simp] theorem State.setDegraded_net (s : State) (i : Nat) (b : Bool) : (s.setDegraded i b).net = s.net := by
  unfold State.setDegraded; dsimp only; split <;> simp
@[simp] theorem State.setDegraded_engine (s : State) (i : Nat) (b : Bool) : (s.setDegraded i b).engine = s.engine := by
  unfold State.setDegraded; dsimp only; split <;> simp
@[simp] theorem State.setDegraded_host (s : State) (i : Nat) (b : Bool) : (s.setDegraded i b).host = s.host := by
  unfold State.setDegraded; dsimp only; split <;> simp
@[simp] theorem State.setDegraded_ctl (s : State) (i : Nat) (b : Bool) : (s.setDegraded i b).ctl = s.ctl := by
  unfold State.setDegraded; dsimp only; split <;> simp
@[simp] theorem State.setDegraded_snaps (s : State) (i : Nat) (b : Bool) : (s.setDegraded i b).snaps = s.snaps := by
  unfold State.setDegraded; dsimp only; split <;> simp
@[simp] theorem State.setDegraded_withy (s : State) (i : Nat) (b : Bool) : (s.setDegraded i b).withy = s.withy := by
  unfold State.setDegraded; dsimp only; split <;> simp
@[simp] theorem State.setDegraded_light (s : State) (i : Nat) (b : Bool) : (s.setDegraded i b).light = s.light := by
  unfold State.setDegraded; dsimp only; split <;> simp
@[simp] theorem State.setDegraded_sec (s : State) (i : Nat) (b : Bool) : (s.setDegraded i b).sec = s.sec := by
  unfold State.setDegraded; dsimp only; split <;> simp
@[simp] theorem State.accum_pending (s : State) (c u : Nat) (d : List Nat) (g : Bool → List Nat → List Nat) :
    (s.accum c u d g).pending = s.pending := (rfl)
@[simp] theorem State.accum_freeCount (s : State) (c u : Nat) (d : List Nat) (g : Bool → List Nat → List Nat) :
    (s.accum c u d g).freeCount = s.freeCount := (rfl)
@[simp] theorem State.accum_hostLatch (s : State) (c u : Nat) (d : List Nat) (g : Bool → List Nat → List Nat) :
    (s.accum c u d g).hostLatch = s.hostLatch := (rfl)
@[simp] theorem State.accum_smbLatch (s : State) (c u : Nat) (d : List Nat) (g : Bool → List Nat → List Nat) :
    (s.accum c u d g).smbLatch = s.smbLatch := (rfl)
@[simp] theorem State.accum_readData (s : State) (c u : Nat) (d : List Nat) (g : Bool → List Nat → List Nat) :
    (s.accum c u d g).readData = s.readData := (rfl)
@[simp] theorem State.accum_smbData (s : State) (c u : Nat) (d : List Nat) (g : Bool → List Nat → List Nat) :
    (s.accum c u d g).smbData = s.smbData := (rfl)
@[simp] theorem State.accum_clk (s : State) (c u : Nat) (d : List Nat) (g : Bool → List Nat → List Nat) :
    (s.accum c u d g).clk = s.clk := (rfl)
@[simp] theorem State.accum_pins (s : State) (c u : Nat) (d : List Nat) (g : Bool → List Nat → List Nat) :
    (s.accum c u d g).pins = s.pins := (rfl)
@[simp] theorem State.accum_hawk (s : State) (c u : Nat) (d : List Nat) (g : Bool → List Nat → List Nat) :
    (s.accum c u d g).hawk = s.hawk := (rfl)
@[simp] theorem State.accum_tiles (s : State) (c u : Nat) (d : List Nat) (g : Bool → List Nat → List Nat) :
    (s.accum c u d g).tiles = s.tiles := (rfl)
@[simp] theorem State.accum_courses (s : State) (c u : Nat) (d : List Nat) (g : Bool → List Nat → List Nat) :
    (s.accum c u d g).courses = s.courses := (rfl)
@[simp] theorem State.accum_mem (s : State) (c u : Nat) (d : List Nat) (g : Bool → List Nat → List Nat) :
    (s.accum c u d g).mem = s.mem := (rfl)
@[simp] theorem State.accum_pageMeta (s : State) (c u : Nat) (d : List Nat) (g : Bool → List Nat → List Nat) :
    (s.accum c u d g).pageMeta = s.pageMeta := (rfl)
@[simp] theorem State.accum_scs (s : State) (c u : Nat) (d : List Nat) (g : Bool → List Nat → List Nat) :
    (s.accum c u d g).scs = s.scs := (rfl)
@[simp] theorem State.accum_slices (s : State) (c u : Nat) (d : List Nat) (g : Bool → List Nat → List Nat) :
    (s.accum c u d g).slices = s.slices := (rfl)
@[simp] theorem State.accum_storeDies (s : State) (c u : Nat) (d : List Nat) (g : Bool → List Nat → List Nat) :
    (s.accum c u d g).storeDies = s.storeDies := (rfl)
@[simp] theorem State.accum_cdies (s : State) (c u : Nat) (d : List Nat) (g : Bool → List Nat → List Nat) :
    (s.accum c u d g).cdies = s.cdies := (rfl)
@[simp] theorem State.accum_regions (s : State) (c u : Nat) (d : List Nat) (g : Bool → List Nat → List Nat) :
    (s.accum c u d g).regions = s.regions := (rfl)
@[simp] theorem State.accum_fab (s : State) (c u : Nat) (d : List Nat) (g : Bool → List Nat → List Nat) :
    (s.accum c u d g).fab = s.fab := (rfl)
@[simp] theorem State.accum_net (s : State) (c u : Nat) (d : List Nat) (g : Bool → List Nat → List Nat) :
    (s.accum c u d g).net = s.net := (rfl)
@[simp] theorem State.accum_engine (s : State) (c u : Nat) (d : List Nat) (g : Bool → List Nat → List Nat) :
    (s.accum c u d g).engine = s.engine := (rfl)
@[simp] theorem State.accum_host (s : State) (c u : Nat) (d : List Nat) (g : Bool → List Nat → List Nat) :
    (s.accum c u d g).host = s.host := (rfl)
@[simp] theorem State.accum_ctl (s : State) (c u : Nat) (d : List Nat) (g : Bool → List Nat → List Nat) :
    (s.accum c u d g).ctl = s.ctl := (rfl)
@[simp] theorem State.accum_snaps (s : State) (c u : Nat) (d : List Nat) (g : Bool → List Nat → List Nat) :
    (s.accum c u d g).snaps = s.snaps := (rfl)
@[simp] theorem State.accum_withy (s : State) (c u : Nat) (d : List Nat) (g : Bool → List Nat → List Nat) :
    (s.accum c u d g).withy = s.withy := (rfl)
@[simp] theorem State.accum_light (s : State) (c u : Nat) (d : List Nat) (g : Bool → List Nat → List Nat) :
    (s.accum c u d g).light = s.light := (rfl)
@[simp] theorem State.accum_sec (s : State) (c u : Nat) (d : List Nat) (g : Bool → List Nat → List Nat) :
    (s.accum c u d g).sec = s.sec := (rfl)

theorem State.getR_withEv (s : State) (e : Events) (a : Nat) : ({ s with ev := e } : State).getR a = s.getR a := (rfl)

/-- All that raising an event does to the registers (R353): nothing, or the count of lost events. -/
theorem State.raise_cases (s : State) (c u : Nat) (d : List Nat) :
    ∃ e, s.raise c u d = { s with ev := e } ∨ s.raise c u d = { (s.addCnt (Reg.ringCnt 9) 1).setB Reg.evrLost true with ev := e } := by
  unfold State.raise
  by_cases h : (Tbl.look (fun _ => []) s.ev.staged (s.hubOf u)).length < 256
  · exact ⟨_, .inl (if_pos h)⟩
  · exact ⟨_, .inr (if_neg h)⟩

/-- Raising an event writes no register but the count of lost events and its flag (R353). -/
theorem State.getR_raise (s : State) (c u : Nat) (d : List Nat) (a : Nat) (h : a ≠ Reg.ringCnt 9) (h' : a ≠ Reg.ringCnt 9 + 4)
    (h'' : a ≠ Reg.evrLost.addr) : (s.raise c u d).getR a = s.getR a := by
  obtain ⟨e, h1 | h1⟩ := State.raise_cases s c u d
  · rw [h1, State.getR_withEv]
  · rw [h1, State.getR_withEv]
    unfold State.setB
    rw [State.getR_setF, if_neg h'', State.getR_addCnt_other _ _ _ _ h h']

/-- An event finds its place while its hub has room (R353). -/
theorem State.stagedAt_raise (s : State) (c u : Nat) (d : List Nat) (h : (Tbl.look (fun _ => []) s.ev.staged (s.hubOf u)).length < 256) :
    Tbl.look (fun _ => []) (s.raise c u d).ev.staged (s.hubOf u) =
      Tbl.look (fun _ => []) s.ev.staged (s.hubOf u) ++ [⟨c, u, s.getF Reg.wtyNode, s.clk.now, d⟩] := by
  unfold State.raise
  dsimp only
  rw [if_pos h]
  simp

/-- A statistics counter that counts changes no register but itself and the count of lost events. -/
theorem State.getR_bump (s : State) (b n a : Nat) (hb : a ≠ b) (hb' : a ≠ b + 4) (h : a ≠ Reg.ringCnt 9) (h' : a ≠ Reg.ringCnt 9 + 4)
    (h'' : a ≠ Reg.evrLost.addr) : (s.bump b n).getR a = s.getR a := by
  rcases State.bump_cases s b n with e | e <;> rw [e]
  · rw [State.getR_addCnt_other _ _ _ _ hb hb']
  · rw [State.getR_raise _ _ _ _ _ h h' h'', State.getR_addCnt_other _ _ _ _ hb hb']

/-! ## Tiles -/

@[simp] theorem State.tile_setTile (s : State) (u v : Nat) (t : Tile) : (s.setTile u t).tile v = if v = u then t else s.tile v := by
  simp [State.setTile, State.tile]

@[simp] theorem State.tile_modTile (s : State) (u v : Nat) (f : Tile → Tile) :
    (s.modTile u f).tile v = if v = u then f (s.tile u) else s.tile v := State.tile_setTile s u v _

@[simp] theorem State.hub_setHub (s : State) (p q : Nat) (h : Hub) : (s.setHub p h).hub q = if q = p then h else s.hub q := by
  simp [State.setHub, State.hub]

@[simp] theorem State.hub_modHub (s : State) (p q : Nat) (f : Hub → Hub) :
    (s.modHub p f).hub q = if q = p then f (s.hub p) else s.hub q := State.hub_setHub s p q _

@[simp] theorem State.region_setRegion (s : State) (g j : Nat) (r : Region) :
    (s.setRegion g r).region j = if j = g then r else s.region j := by
  simp [State.setRegion, State.region]

theorem State.tile_of_tiles (s t : State) (h : t.tiles = s.tiles) (u : Nat) : t.tile u = s.tile u := by unfold State.tile; rw [h]
theorem State.getR_of_regs (s t : State) (h : t.regs = s.regs) (a : Nat) : t.getR a = s.getR a := by unfold State.getR; rw [h]
theorem State.getF_of_regs (s t : State) (h : t.regs = s.regs) (f : Fld) : t.getF f = s.getF f := by
  unfold State.getF; rw [State.getR_of_regs s t h]

end Sys2Proof.Machine
end

