-- ==== Sys2Proof/Laws/Image.lean ====
section
/-!
SUPPORT. Digests have 32 bytes, and a calibration image that carries the digest of its own body passes the digest check (R252).
-/
namespace Sys2Proof.Machine

theorem bytesOfNat_length (n x : Nat) : (bytesOfNat n x).length = n := by
  induction n generalizing x with
  | zero => rfl
  | succ n ih => simp [bytesOfNat, ih]

theorem shake256_length (bs : List Byte) : (shake256 bs).length = 32 := bytesOfNat_length _ _

/-- The word of four bytes of a list, the first lowest. -/
def digestWord (d : List Byte) (i : Nat) : W32 :=
  BitVec.ofNat 32 ((d.getD (4 * i) 0).toNat + 2 ^ 8 * (d.getD (4 * i + 1) 0).toNat + 2 ^ 16 * (d.getD (4 * i + 2) 0).toNat +
    2 ^ 24 * (d.getD (4 * i + 3) 0).toNat)

/-- A state whose image carries a digest. -/
def State.withDigest (s : State) (d : List Byte) : State :=
  (List.range 8).foldl (fun s i => s.setR (imageBase + 192 + 4 * i) (digestWord d i)) s

theorem State.withDigest_getR (s : State) (d : List Byte) (a : Nat) (h : a < imageBase + 192 ∨ imageBase + 224 ≤ a) :
    (s.withDigest d).getR a = s.getR a := by
  simp only [State.withDigest, List.range, List.range.loop, List.foldl_cons, List.foldl_nil, State.getR_setR]
  repeat rw [if_neg (by omega)]

theorem State.withDigest_word (s : State) (d : List Byte) (i : Nat) (h : i < 8) :
    (s.withDigest d).getR (imageBase + 192 + 4 * i) = digestWord d i := by
  simp only [State.withDigest, List.range, List.range.loop, List.foldl_cons, List.foldl_nil, State.getR_setR]
  rcases i with _ | _ | _ | _ | _ | _ | _ | _ | i <;> simp
  omega

theorem State.withDigest_bytes (s : State) (d : List Byte) (off n : Nat) (h : off + n ≤ 192 ∨ 224 ≤ off) :
    (s.withDigest d).imageBytes off n = s.imageBytes off n := by
  unfold State.imageBytes
  apply List.map_congr_left
  intro i hi
  rw [List.mem_range] at hi
  rw [State.withDigest_getR s d _ (by omega)]

theorem digestWord_byte (d : List Byte) (i j : Nat) (h : j < 4) : ((digestWord d i) >>> (8 * j)).setWidth 8 = d.getD (4 * i + j) 0 := by
  have e : ∀ x : Byte, x.toNat < 256 := fun x => x.isLt
  have e0 := e (d.getD (4 * i) 0)
  have e1 := e (d.getD (4 * i + 1) 0)
  have e2 := e (d.getD (4 * i + 2) 0)
  have e3 := e (d.getD (4 * i + 3) 0)
  unfold digestWord
  apply BitVec.eq_of_toNat_eq
  rw [BitVec.toNat_setWidth, BitVec.toNat_ushiftRight, BitVec.toNat_ofNat, Nat.shiftRight_eq_div_pow]
  rcases j with _ | _ | _ | _ | j
  · simp only [Nat.mul_zero, Nat.pow_zero, Nat.add_zero]; omega
  · simp only [Nat.zero_add, Nat.mul_one]; omega
  · simp only [Nat.zero_add, Nat.reduceAdd, Nat.reduceMul]; omega
  · simp only [Nat.zero_add, Nat.reduceAdd, Nat.reduceMul]; omega
  · omega

theorem State.withDigest_digest (s : State) (d : List Byte) (h : d.length = 32) : (s.withDigest d).imageBytes 192 32 = d := by
  apply List.ext_getElem
  · simp [State.imageBytes, h]
  · intro k hk hk'
    simp only [State.imageBytes, List.getElem_map, List.getElem_range]
    have e : imageBase + (192 + k) / 4 * 4 = imageBase + 192 + 4 * (k / 4) := by omega
    have m : (192 + k) % 4 = k % 4 := by omega
    rw [e, m, State.withDigest_word s d _ (by omega), digestWord_byte d _ _ (by omega)]
    have q : 4 * (k / 4) + k % 4 = k := by omega
    rw [q]
    simp [List.getD_eq_getElem?_getD, List.getElem?_eq_getElem hk']

theorem State.withDigest_int (s : State) (d : List Byte) (off i : Nat) (h : 224 ≤ off) :
    (s.withDigest d).imageInt off i = s.imageInt off i := by
  unfold State.imageInt
  rw [State.withDigest_bytes _ _ _ _ (by omega)]

theorem State.withDigest_imageInRange (s : State) (d : List Byte) : (s.withDigest d).imageInRange = s.imageInRange := by
  simp only [State.imageInRange, imagePlaces, imageTrims, State.inHardRange, List.all_cons, List.all_nil,
    fun l => State.withDigest_bytes s d (38272 + 4 * l) 1 (by omega), State.withDigest_int s d _ _ (by decide : 224 ≤ 40210),
    State.withDigest_int s d _ _ (by decide : 224 ≤ 39824), State.withDigest_int s d _ _ (by decide : 224 ≤ 40080),
    State.withDigest_int s d _ _ (by decide : 224 ≤ 40146), State.withDigest_int s d _ _ (by decide : 224 ≤ 40786)]
  congr! 1

/-- An image that passes every check but that of its digest passes them all once it carries the digest of its body (R252). -/
theorem State.imageFault_withDigest (s : State)
    (h1 : s.imageBytes 0 12 = [0x50, 0x46, 0x43, 0x49, 1, 0, 0, 0] ++ bytesOfNat 4 40960)
    (h2 : ∀ i < 33, natOfBytes (s.imageBytes (32 + 4 * i) 4) &&& 0xBFFFFFFF = (s.getR (Reg.dieIdent i)).toNat &&& 0xBFFFFFFF)
    (h2' : ∀ i < 33, Reg.dieIdent i < imageBase) (h4 : s.imageInRange = true) :
    (s.withDigest (shake256 (s.imageBytes 256 40704))).imageFault = 0 := by
  unfold State.imageFault
  rw [State.withDigest_bytes _ _ 0 12 (by omega), State.withDigest_bytes _ _ 256 40704 (by omega),
    State.withDigest_digest _ _ (shake256_length _), State.withDigest_imageInRange]
  rw [if_neg (by simp only [h1, not_true_eq_false, ne_eq, not_false_eq_true]), if_neg, if_neg (by simp), if_neg (by simp [h4])]
  simp only [List.any_eq_true, not_exists, not_and]
  intro i hi
  rw [List.mem_range] at hi
  rw [State.withDigest_bytes _ _ _ _ (by omega), State.withDigest_getR _ _ _ (Or.inl (by have := h2' i hi; omega)), h2 i hi]
  simp

theorem State.withDigest_on (s : State) (d : List Byte) (f : Fld) (h : f.addr < imageBase + 192) :
    (s.withDigest d).on f = s.on f := by
  simp only [State.on, State.getF, State.withDigest_getR s d _ (Or.inl h)]

theorem State.withDigest_alive (s : State) (d : List Byte) : (s.withDigest d).alive = s.alive := by
  have h : ∀ (l : List Nat) (s : State), (l.foldl (fun s i => s.setR (imageBase + 192 + 4 * i) (digestWord d i)) s).alive = s.alive := by
    intro l
    induction l with
    | nil => exact fun _ => rfl
    | cons i l ih => exact fun s => (ih _).trans rfl
  exact h _ s

end Sys2Proof.Machine
end

