-- ==== Sys2Proof/Laws/Memory.lean ====
section
/-!
SUPPORT. Local memory: a read after a write, and the canonical form that every operation over it keeps.
-/
namespace Sys2Proof.Machine

/-- A byte read after a byte write. -/
@[simp] theorem State.rdByte_wrByte (s : State) (a x : Nat) (b : Byte) :
    (s.wrByte a b).rdByte x = if x = a then b else s.rdByte x := by
  simp [State.wrByte, State.rdByte]

theorem State.rdByte_of_mem (s t : State) (h : t.mem = s.mem) (x : Nat) : t.rdByte x = s.rdByte x := by
  unfold State.rdByte; rw [h]

/-- A byte outside those written. -/
theorem State.rdByte_wrBytes_other (l : List Byte) : ∀ (s : State) (a x : Nat), (x < a ∨ a + l.length ≤ x) →
    (s.wrBytes a l).rdByte x = s.rdByte x := by
  induction l with
  | nil => intro s a x _; rfl
  | cons b r ih =>
    intro s a x h
    rw [List.length_cons] at h
    show ((s.wrByte a b).wrBytes (a + 1) r).rdByte x = _
    rw [ih _ _ _ (by omega), State.rdByte_wrByte, if_neg (by omega)]

/-- A byte of those written. -/
theorem State.rdByte_wrBytes (l : List Byte) : ∀ (s : State) (a i : Nat) (h : i < l.length),
    (s.wrBytes a l).rdByte (a + i) = l[i] := by
  induction l with
  | nil => intro s a i h; simp at h
  | cons b r ih =>
    intro s a i h
    show ((s.wrByte a b).wrBytes (a + 1) r).rdByte (a + i) = _
    cases i with
    | zero => rw [State.rdByte_wrBytes_other r _ _ _ (by omega), State.rdByte_wrByte]; simp
    | succ j =>
      have := ih (s.wrByte a b) (a + 1) j (by simpa using h)
      rw [show a + (j + 1) = a + 1 + j by omega, this]; rfl

@[simp] theorem length_bytesOfNat (n : Nat) : ∀ x, (bytesOfNat n x).length = n := by
  induction n with
  | zero => intro x; rfl
  | succ n ih => intro x; simp [bytesOfNat, ih]

/-- Byte i of a number. -/
theorem getElem_bytesOfNat (n : Nat) : ∀ (x i : Nat) (h : i < (bytesOfNat n x).length),
    (bytesOfNat n x)[i] = BitVec.ofNat 8 (x / 2 ^ (8 * i)) := by
  induction n with
  | zero => intro x i h; simp at h
  | succ n ih =>
    intro x i h
    cases i with
    | zero => simp [bytesOfNat]
    | succ j =>
      have hj : j < (bytesOfNat n (x / 256)).length := by simpa using h
      show (bytesOfNat n (x / 256))[j] = _
      rw [ih (x / 256) j hj, Nat.div_div_eq_div_mul, Nat.mul_add, Nat.pow_add, Nat.mul_comm (2 ^ (8 * j))]

/-- The bytes of a number after it was written. -/
theorem State.rdByte_wrN (s : State) (a n x i : Nat) (h : i < n) :
    (s.wrN a n x).rdByte (a + i) = BitVec.ofNat 8 (x / 2 ^ (8 * i)) := by
  unfold State.wrN
  rw [State.rdByte_wrBytes _ _ _ _ (by simpa using h), getElem_bytesOfNat]

theorem State.rdByte_wrN_other (s : State) (a n x y : Nat) (h : y < a ∨ a + n ≤ y) : (s.wrN a n x).rdByte y = s.rdByte y := by
  unfold State.wrN
  exact State.rdByte_wrBytes_other _ _ _ _ (by simpa using h)

/-- A byte outside the scratchpad bytes written. -/
theorem State.rdByte_spadWrBytes_other (l : List Byte) : ∀ (s : State) (u a x : Nat),
    (∀ i, i < l.length → x ≠ spadBase u + (a + i) % 2 ^ 20) → (s.spadWrBytes u a l).rdByte x = s.rdByte x := by
  induction l with
  | nil => intro s u a x _; rfl
  | cons b r ih =>
    intro s u a x h
    show ((s.wrByte (spadBase u + a % 2 ^ 20) b).spadWrBytes u (a + 1) r).rdByte x = _
    rw [ih _ _ _ _ (fun i hi => by
      have := h (i + 1) (by simpa using hi)
      rwa [show a + (i + 1) = a + 1 + i by omega] at this), State.rdByte_wrByte, if_neg]
    simpa using h 0 (by simp)

/-! ## The canonical form -/

/-- Sorted entries stay sorted when some are left out. -/
theorem Tbl.sorted_filter {α : Type} (t : Tbl α) (p : Nat × α → Bool) (h : Tbl.sorted t = true) :
    Tbl.sorted (t.filter p) = true := by
  induction t with
  | nil => rfl
  | cons e r ih =>
    obtain ⟨i, w⟩ := e
    simp only [Tbl.sorted, Bool.and_eq_true, List.all_eq_true, decide_eq_true_eq] at h
    simp only [List.filter_cons]
    split
    · simp only [Tbl.sorted, Bool.and_eq_true, List.all_eq_true, decide_eq_true_eq]
      exact ⟨fun e he => h.1 e (List.mem_filter.mp he).1, ih h.2⟩
    · exact ih h.2

/-- Leaving entries out keeps the canonical form. -/
theorem Tbl.wf_filter {α : Type} [DecidableEq α] (d : Nat → α) (t : Tbl α) (p : Nat × α → Bool) (h : Tbl.wf d t = true) :
    Tbl.wf d (t.filter p) = true := by
  simp only [Tbl.wf, Bool.and_eq_true, List.all_eq_true, decide_eq_true_eq] at h ⊢
  exact ⟨Tbl.sorted_filter t p h.1, fun e he => h.2 e (List.mem_filter.mp he).1⟩

theorem memory_wf_reset : Memory.wf State.reset.mem.bytes = true := by decide

theorem State.wf_wrByte (s : State) (a : Nat) (b : Byte) (h : Memory.wf s.mem.bytes = true) :
    Memory.wf (s.wrByte a b).mem.bytes = true := Tbl.wf_put memD s.mem.bytes a b h

theorem State.wf_wrBytes (l : List Byte) : ∀ (s : State) (a : Nat), Memory.wf s.mem.bytes = true →
    Memory.wf (s.wrBytes a l).mem.bytes = true := by
  induction l with
  | nil => intro s a h; exact h
  | cons b r ih => intro s a h; exact ih _ _ (State.wf_wrByte s a b h)

theorem State.wf_wrN (s : State) (a n x : Nat) (h : Memory.wf s.mem.bytes = true) :
    Memory.wf (s.wrN a n x).mem.bytes = true := State.wf_wrBytes _ s a h

theorem State.wf_wrLine (s : State) (a : Nat) (l : Line) (h : Memory.wf s.mem.bytes = true) :
    Memory.wf (s.wrLine a l).mem.bytes = true := State.wf_wrN s _ 64 _ h

theorem State.wf_spadWrBytes (l : List Byte) : ∀ (s : State) (u a : Nat), Memory.wf s.mem.bytes = true →
    Memory.wf (s.spadWrBytes u a l).mem.bytes = true := by
  induction l with
  | nil => intro s u a h; exact h
  | cons b r ih => intro s u a h; exact ih _ _ _ (State.wf_wrByte s _ b h)

theorem State.wf_setValid (s : State) (a : Nat) (b : Bool) (h : Memory.wf s.mem.bytes = true) :
    Memory.wf (s.setValid a b).mem.bytes = true := h

theorem State.wf_setMark (s : State) (a m : Nat) (h : Memory.wf s.mem.bytes = true) :
    Memory.wf (s.setMark a m).mem.bytes = true := h

theorem State.wf_clearSpads (s : State) (d : Nat) (h : Memory.wf s.mem.bytes = true) :
    Memory.wf (s.clearSpads d).mem.bytes = true := Tbl.wf_filter memD _ _ h

theorem State.wf_clearSlices (s : State) (d : Nat) (h : Memory.wf s.mem.bytes = true) :
    Memory.wf (s.clearSlices d).mem.bytes = true := Tbl.wf_filter memD _ _ h

theorem wf_foldl_put (l : List (Byte × Nat)) (la : Nat) : ∀ m : List Host.Cell, Memory.wf m = true →
    Memory.wf (l.foldl (fun m e => Tbl.put memD m (la + e.2) e.1) m) = true := by
  induction l with
  | nil => intro m h; exact h
  | cons e r ih => intro m h; exact ih _ (Tbl.wf_put memD m _ _ h)

/-- A line that is committed leaves what accesses see as it was, and the medium in its canonical form. -/
theorem State.wf_medLine (s : State) (la : Nat) (l : Line) (v : Bool) (m : Nat) (h : Memory.wf s.mem.bytes = true)
    (hm : Memory.wf s.mem.medium = true) :
    Memory.wf (s.medLine la l v m).mem.bytes = true ∧ Memory.wf (s.medLine la l v m).mem.medium = true :=
  ⟨h, wf_foldl_put _ la _ hm⟩

/-- Host memory keeps rising addresses. -/
theorem State.sorted_hostWrite (l : List Byte) : ∀ (s : State) (a : Nat), Tbl.sorted s.host.mem = true →
    Tbl.sorted (s.hostWrite a l).host.mem = true := by
  induction l with
  | nil => intro s a h; exact h
  | cons b r ih =>
    intro s a h
    refine ih _ _ ?_
    exact Tbl.sorted_ins _ _ _ (Tbl.sorted_drop _ _ h) (Tbl.mem_drop _ _)

end Sys2Proof.Machine
end

