-- ==== Sys2Proof/Laws/Slots.lean ====
section
/-!
SUPPORT. What a slot, a guarded command and a step can do, said once.
-/
namespace Sys2Proof.Machine

theorem State.live_of_alive (s : State) (act : State → Out) (h : s.alive = true) : s.live act = act s := by
  simp [State.live, h]

theorem State.live_of_still (s : State) (act : State → Out) (h : s.alive = false) : s.live act = .next s := by
  simp [State.live, h]

/-- A step runs the command at the front. -/
theorem step_cons (s : State) (c : Sys2Proof.Instr) (rest : List Sys2Proof.Instr) (h : s.pending = c :: rest) :
    step s = exec c { s with pending := rest } := by
  unfold step; rw [h]

/-- A step with no command waiting. -/
theorem step_nil (s : State) (h : s.pending = []) : step s = .next s.idle := by
  unfold step; rw [h]

/-- A slot that issues, whose guard is false: nothing but the begin of its bundle. -/
theorem State.slot_guard_false (h : SlotHdr) (pos : Nat) (legal : State → Nat → Bool) (act : State → Nat → State) (s : State)
    (hr : s.reaches h = true) (hg : (s.opened h).guard h = false) : s.slot h pos legal act = s.opened h := by
  unfold State.reaches at hr
  unfold State.slot
  simp only [Bool.and_eq_true, Bool.not_eq_true', Bool.and_eq_false_iff, Bool.or_eq_false_iff] at hr
  obtain ⟨⟨_, ho⟩, hb⟩ := hr
  unfold State.opened at hb hg ⊢
  cases hf : h.fresh
  · simp only [hf, Bool.false_eq_true, if_false, Bool.false_and] at hg ⊢
    simp [ho, hg]
  · simp only [hf, if_true, Bool.true_and] at hb hg ⊢
    simp at hb
    simp [ho, hb.1, hb.2, hg]

/-- A slot that issues, whose guard holds, and that is not legal: it is recorded and not executed (R101). -/
theorem State.slot_illegal (h : SlotHdr) (pos : Nat) (legal : State → Nat → Bool) (act : State → Nat → State) (s : State)
    (hr : s.reaches h = true) (hg : (s.opened h).guard h = true) (hl : legal (s.opened h) h.tile.unit = false) :
    s.slot h pos legal act = (s.opened h).illegal h.tile.unit pos ((s.opened h).tile h.tile.unit).bundle 0 := by
  unfold State.reaches at hr
  unfold State.slot
  simp only [Bool.and_eq_true, Bool.not_eq_true', Bool.and_eq_false_iff, Bool.or_eq_false_iff] at hr
  obtain ⟨⟨_, ho⟩, hb⟩ := hr
  unfold State.opened at hb hg hl ⊢
  cases hf : h.fresh
  · simp only [hf, Bool.false_eq_true, if_false, Bool.false_and] at hg hl ⊢
    simp [ho, hg, hl]
  · simp only [hf, if_true, Bool.true_and] at hb hg hl ⊢
    simp at hb
    simp [ho, hb.1, hb.2, hg, hl]

/-- A slot that acts and is legal has its effect on the state in which it is issued. -/
theorem State.slot_acts (h : SlotHdr) (pos : Nat) (legal : State → Nat → Bool) (act : State → Nat → State) (s : State)
    (ha : s.acts h pos = true) (hl : legal (s.opened h) h.tile.unit = true) :
    s.slot h pos legal act = act (s.issued h) h.tile.unit := by
  unfold State.acts at ha
  simp only [Bool.and_eq_true, Bool.not_eq_true'] at ha
  obtain ⟨⟨hr, hg⟩, he⟩ := ha
  unfold State.reaches at hr
  unfold State.slot
  simp only [Bool.and_eq_true, Bool.not_eq_true', Bool.and_eq_false_iff, Bool.or_eq_false_iff] at hr
  obtain ⟨⟨_, ho⟩, hb⟩ := hr
  unfold State.issued
  unfold State.opened at hb hg hl ⊢
  cases hf : h.fresh
  · simp only [hf, Bool.false_eq_true, if_false, Bool.false_and] at hg hl ⊢
    cases hx : h.ecc <;> simp [hx] at he <;> simp [ho, hg, hl, he]
  · simp only [hf, if_true, Bool.true_and] at hb hg hl ⊢
    simp at hb
    cases hx : h.ecc <;> simp [hx] at he hb <;> simp [ho, hb, hg, hl, he]

end Sys2Proof.Machine
end

