-- ==== Sys2Proof/Laws/Tiles.lean ====
section
/-!
SUPPORT. The fields of the state under the operations of a tile.
-/
namespace Sys2Proof.Machine

@[simp] theorem State.satF_pending (s : State) (f : Fld) (n : Nat) : (s.satF f n).pending = s.pending := by
  unfold State.satF; simp
@[simp] theorem State.satF_freeCount (s : State) (f : Fld) (n : Nat) : (s.satF f n).freeCount = s.freeCount := by
  unfold State.satF; simp
@[simp] theorem State.satF_hostLatch (s : State) (f : Fld) (n : Nat) : (s.satF f n).hostLatch = s.hostLatch := by
  unfold State.satF; simp
@[simp] theorem State.satF_smbLatch (s : State) (f : Fld) (n : Nat) : (s.satF f n).smbLatch = s.smbLatch := by
  unfold State.satF; simp
@[simp] theorem State.satF_readData (s : State) (f : Fld) (n : Nat) : (s.satF f n).readData = s.readData := by
  unfold State.satF; simp
@[simp] theorem State.satF_smbData (s : State) (f : Fld) (n : Nat) : (s.satF f n).smbData = s.smbData := by
  unfold State.satF; simp
@[simp] theorem State.satF_clk (s : State) (f : Fld) (n : Nat) : (s.satF f n).clk = s.clk := by
  unfold State.satF; simp
@[simp] theorem State.satF_pins (s : State) (f : Fld) (n : Nat) : (s.satF f n).pins = s.pins := by
  unfold State.satF; simp
@[simp] theorem State.satF_hawk (s : State) (f : Fld) (n : Nat) : (s.satF f n).hawk = s.hawk := by
  unfold State.satF; simp
@[simp] theorem State.satF_ev (s : State) (f : Fld) (n : Nat) : (s.satF f n).ev = s.ev := by
  unfold State.satF; simp
@[simp] theorem State.satF_tiles (s : State) (f : Fld) (n : Nat) : (s.satF f n).tiles = s.tiles := by
  unfold State.satF; simp
@[simp] theorem State.satF_courses (s : State) (f : Fld) (n : Nat) : (s.satF f n).courses = s.courses := by
  unfold State.satF; simp
@[simp] theorem State.satF_mem (s : State) (f : Fld) (n : Nat) : (s.satF f n).mem = s.mem := by
  unfold State.satF; simp
@[simp] theorem State.satF_pageMeta (s : State) (f : Fld) (n : Nat) : (s.satF f n).pageMeta = s.pageMeta := by
  unfold State.satF; simp
@[simp] theorem State.satF_scs (s : State) (f : Fld) (n : Nat) : (s.satF f n).scs = s.scs := by
  unfold State.satF; simp
@[simp] theorem State.satF_slices (s : State) (f : Fld) (n : Nat) : (s.satF f n).slices = s.slices := by
  unfold State.satF; simp
@[simp] theorem State.satF_storeDies (s : State) (f : Fld) (n : Nat) : (s.satF f n).storeDies = s.storeDies := by
  unfold State.satF; simp
@[simp] theorem State.satF_cdies (s : State) (f : Fld) (n : Nat) : (s.satF f n).cdies = s.cdies := by
  unfold State.satF; simp
@[simp] theorem State.satF_regions (s : State) (f : Fld) (n : Nat) : (s.satF f n).regions = s.regions := by
  unfold State.satF; simp
@[simp] theorem State.satF_fab (s : State) (f : Fld) (n : Nat) : (s.satF f n).fab = s.fab := by
  unfold State.satF; simp
@[simp] theorem State.satF_net (s : State) (f : Fld) (n : Nat) : (s.satF f n).net = s.net := by
  unfold State.satF; simp
@[simp] theorem State.satF_engine (s : State) (f : Fld) (n : Nat) : (s.satF f n).engine = s.engine := by
  unfold State.satF; simp
@[simp] theorem State.satF_host (s : State) (f : Fld) (n : Nat) : (s.satF f n).host = s.host := by
  unfold State.satF; simp
@[simp] theorem State.satF_ctl (s : State) (f : Fld) (n : Nat) : (s.satF f n).ctl = s.ctl := by
  unfold State.satF; simp
@[simp] theorem State.satF_snaps (s : State) (f : Fld) (n : Nat) : (s.satF f n).snaps = s.snaps := by
  unfold State.satF; simp
@[simp] theorem State.satF_withy (s : State) (f : Fld) (n : Nat) : (s.satF f n).withy = s.withy := by
  unfold State.satF; simp
@[simp] theorem State.satF_light (s : State) (f : Fld) (n : Nat) : (s.satF f n).light = s.light := by
  unfold State.satF; simp
@[simp] theorem State.satF_sec (s : State) (f : Fld) (n : Nat) : (s.satF f n).sec = s.sec := by
  unfold State.satF; simp

@[simp] theorem State.wrapF_pending (s : State) (f : Fld) (n : Nat) : (s.wrapF f n).pending = s.pending := by
  unfold State.wrapF; simp
@[simp] theorem State.wrapF_freeCount (s : State) (f : Fld) (n : Nat) : (s.wrapF f n).freeCount = s.freeCount := by
  unfold State.wrapF; simp
@[simp] theorem State.wrapF_hostLatch (s : State) (f : Fld) (n : Nat) : (s.wrapF f n).hostLatch = s.hostLatch := by
  unfold State.wrapF; simp
@[simp] theorem State.wrapF_smbLatch (s : State) (f : Fld) (n : Nat) : (s.wrapF f n).smbLatch = s.smbLatch := by
  unfold State.wrapF; simp
@[simp] theorem State.wrapF_readData (s : State) (f : Fld) (n : Nat) : (s.wrapF f n).readData = s.readData := by
  unfold State.wrapF; simp
@[simp] theorem State.wrapF_smbData (s : State) (f : Fld) (n : Nat) : (s.wrapF f n).smbData = s.smbData := by
  unfold State.wrapF; simp
@[simp] theorem State.wrapF_clk (s : State) (f : Fld) (n : Nat) : (s.wrapF f n).clk = s.clk := by
  unfold State.wrapF; simp
@[simp] theorem State.wrapF_pins (s : State) (f : Fld) (n : Nat) : (s.wrapF f n).pins = s.pins := by
  unfold State.wrapF; simp
@[simp] theorem State.wrapF_hawk (s : State) (f : Fld) (n : Nat) : (s.wrapF f n).hawk = s.hawk := by
  unfold State.wrapF; simp
@[simp] theorem State.wrapF_ev (s : State) (f : Fld) (n : Nat) : (s.wrapF f n).ev = s.ev := by
  unfold State.wrapF; simp
@[simp] theorem State.wrapF_tiles (s : State) (f : Fld) (n : Nat) : (s.wrapF f n).tiles = s.tiles := by
  unfold State.wrapF; simp
@[simp] theorem State.wrapF_courses (s : State) (f : Fld) (n : Nat) : (s.wrapF f n).courses = s.courses := by
  unfold State.wrapF; simp
@[simp] theorem State.wrapF_mem (s : State) (f : Fld) (n : Nat) : (s.wrapF f n).mem = s.mem := by
  unfold State.wrapF; simp
@[simp] theorem State.wrapF_pageMeta (s : State) (f : Fld) (n : Nat) : (s.wrapF f n).pageMeta = s.pageMeta := by
  unfold State.wrapF; simp
@[simp] theorem State.wrapF_scs (s : State) (f : Fld) (n : Nat) : (s.wrapF f n).scs = s.scs := by
  unfold State.wrapF; simp
@[simp] theorem State.wrapF_slices (s : State) (f : Fld) (n : Nat) : (s.wrapF f n).slices = s.slices := by
  unfold State.wrapF; simp
@[simp] theorem State.wrapF_storeDies (s : State) (f : Fld) (n : Nat) : (s.wrapF f n).storeDies = s.storeDies := by
  unfold State.wrapF; simp
@[simp] theorem State.wrapF_cdies (s : State) (f : Fld) (n : Nat) : (s.wrapF f n).cdies = s.cdies := by
  unfold State.wrapF; simp
@[simp] theorem State.wrapF_regions (s : State) (f : Fld) (n : Nat) : (s.wrapF f n).regions = s.regions := by
  unfold State.wrapF; simp
@[simp] theorem State.wrapF_fab (s : State) (f : Fld) (n : Nat) : (s.wrapF f n).fab = s.fab := by
  unfold State.wrapF; simp
@[simp] theorem State.wrapF_net (s : State) (f : Fld) (n : Nat) : (s.wrapF f n).net = s.net := by
  unfold State.wrapF; simp
@[simp] theorem State.wrapF_engine (s : State) (f : Fld) (n : Nat) : (s.wrapF f n).engine = s.engine := by
  unfold State.wrapF; simp
@[simp] theorem State.wrapF_host (s : State) (f : Fld) (n : Nat) : (s.wrapF f n).host = s.host := by
  unfold State.wrapF; simp
@[simp] theorem State.wrapF_ctl (s : State) (f : Fld) (n : Nat) : (s.wrapF f n).ctl = s.ctl := by
  unfold State.wrapF; simp
@[simp] theorem State.wrapF_snaps (s : State) (f : Fld) (n : Nat) : (s.wrapF f n).snaps = s.snaps := by
  unfold State.wrapF; simp
@[simp] theorem State.wrapF_withy (s : State) (f : Fld) (n : Nat) : (s.wrapF f n).withy = s.withy := by
  unfold State.wrapF; simp
@[simp] theorem State.wrapF_light (s : State) (f : Fld) (n : Nat) : (s.wrapF f n).light = s.light := by
  unfold State.wrapF; simp
@[simp] theorem State.wrapF_sec (s : State) (f : Fld) (n : Nat) : (s.wrapF f n).sec = s.sec := by
  unfold State.wrapF; simp

@[simp] theorem State.flag_pending (s : State) (u f : Nat) : (s.flag u f).pending = s.pending := by
  unfold State.flag; simp
@[simp] theorem State.flag_freeCount (s : State) (u f : Nat) : (s.flag u f).freeCount = s.freeCount := by
  unfold State.flag; simp
@[simp] theorem State.flag_regs (s : State) (u f : Nat) : (s.flag u f).regs = s.regs := by
  unfold State.flag; simp
@[simp] theorem State.flag_hostLatch (s : State) (u f : Nat) : (s.flag u f).hostLatch = s.hostLatch := by
  unfold State.flag; simp
@[simp] theorem State.flag_smbLatch (s : State) (u f : Nat) : (s.flag u f).smbLatch = s.smbLatch := by
  unfold State.flag; simp
@[simp] theorem State.flag_readData (s : State) (u f : Nat) : (s.flag u f).readData = s.readData := by
  unfold State.flag; simp
@[simp] theorem State.flag_smbData (s : State) (u f : Nat) : (s.flag u f).smbData = s.smbData := by
  unfold State.flag; simp
@[simp] theorem State.flag_clk (s : State) (u f : Nat) : (s.flag u f).clk = s.clk := by
  unfold State.flag; simp
@[simp] theorem State.flag_pins (s : State) (u f : Nat) : (s.flag u f).pins = s.pins := by
  unfold State.flag; simp
@[simp] theorem State.flag_hawk (s : State) (u f : Nat) : (s.flag u f).hawk = s.hawk := by
  unfold State.flag; simp
@[simp] theorem State.flag_ev (s : State) (u f : Nat) : (s.flag u f).ev = s.ev := by
  unfold State.flag; simp
@[simp] theorem State.flag_courses (s : State) (u f : Nat) : (s.flag u f).courses = s.courses := by
  unfold State.flag; simp
@[simp] theorem State.flag_mem (s : State) (u f : Nat) : (s.flag u f).mem = s.mem := by
  unfold State.flag; simp
@[simp] theorem State.flag_pageMeta (s : State) (u f : Nat) : (s.flag u f).pageMeta = s.pageMeta := by
  unfold State.flag; simp
@[simp] theorem State.flag_scs (s : State) (u f : Nat) : (s.flag u f).scs = s.scs := by
  unfold State.flag; simp
@[simp] theorem State.flag_slices (s : State) (u f : Nat) : (s.flag u f).slices = s.slices := by
  unfold State.flag; simp
@[simp] theorem State.flag_storeDies (s : State) (u f : Nat) : (s.flag u f).storeDies = s.storeDies := by
  unfold State.flag; simp
@[simp] theorem State.flag_cdies (s : State) (u f : Nat) : (s.flag u f).cdies = s.cdies := by
  unfold State.flag; simp
@[simp] theorem State.flag_regions (s : State) (u f : Nat) : (s.flag u f).regions = s.regions := by
  unfold State.flag; simp
@[simp] theorem State.flag_fab (s : State) (u f : Nat) : (s.flag u f).fab = s.fab := by
  unfold State.flag; simp
@[simp] theorem State.flag_net (s : State) (u f : Nat) : (s.flag u f).net = s.net := by
  unfold State.flag; simp
@[simp] theorem State.flag_engine (s : State) (u f : Nat) : (s.flag u f).engine = s.engine := by
  unfold State.flag; simp
@[simp] theorem State.flag_host (s : State) (u f : Nat) : (s.flag u f).host = s.host := by
  unfold State.flag; simp
@[simp] theorem State.flag_ctl (s : State) (u f : Nat) : (s.flag u f).ctl = s.ctl := by
  unfold State.flag; simp
@[simp] theorem State.flag_snaps (s : State) (u f : Nat) : (s.flag u f).snaps = s.snaps := by
  unfold State.flag; simp
@[simp] theorem State.flag_withy (s : State) (u f : Nat) : (s.flag u f).withy = s.withy := by
  unfold State.flag; simp
@[simp] theorem State.flag_light (s : State) (u f : Nat) : (s.flag u f).light = s.light := by
  unfold State.flag; simp
@[simp] theorem State.flag_sec (s : State) (u f : Nat) : (s.flag u f).sec = s.sec := by
  unfold State.flag; simp

@[simp] theorem State.setS_pending (s : State) (u i : Nat) (x : W64) : (s.setS u i x).pending = s.pending := by
  unfold State.setS; simp
@[simp] theorem State.setS_freeCount (s : State) (u i : Nat) (x : W64) : (s.setS u i x).freeCount = s.freeCount := by
  unfold State.setS; simp
@[simp] theorem State.setS_regs (s : State) (u i : Nat) (x : W64) : (s.setS u i x).regs = s.regs := by
  unfold State.setS; simp
@[simp] theorem State.setS_hostLatch (s : State) (u i : Nat) (x : W64) : (s.setS u i x).hostLatch = s.hostLatch := by
  unfold State.setS; simp
@[simp] theorem State.setS_smbLatch (s : State) (u i : Nat) (x : W64) : (s.setS u i x).smbLatch = s.smbLatch := by
  unfold State.setS; simp
@[simp] theorem State.setS_readData (s : State) (u i : Nat) (x : W64) : (s.setS u i x).readData = s.readData := by
  unfold State.setS; simp
@[simp] theorem State.setS_smbData (s : State) (u i : Nat) (x : W64) : (s.setS u i x).smbData = s.smbData := by
  unfold State.setS; simp
@[simp] theorem State.setS_clk (s : State) (u i : Nat) (x : W64) : (s.setS u i x).clk = s.clk := by
  unfold State.setS; simp
@[simp] theorem State.setS_pins (s : State) (u i : Nat) (x : W64) : (s.setS u i x).pins = s.pins := by
  unfold State.setS; simp
@[simp] theorem State.setS_hawk (s : State) (u i : Nat) (x : W64) : (s.setS u i x).hawk = s.hawk := by
  unfold State.setS; simp
@[simp] theorem State.setS_ev (s : State) (u i : Nat) (x : W64) : (s.setS u i x).ev = s.ev := by
  unfold State.setS; simp
@[simp] theorem State.setS_courses (s : State) (u i : Nat) (x : W64) : (s.setS u i x).courses = s.courses := by
  unfold State.setS; simp
@[simp] theorem State.setS_mem (s : State) (u i : Nat) (x : W64) : (s.setS u i x).mem = s.mem := by
  unfold State.setS; simp
@[simp] theorem State.setS_pageMeta (s : State) (u i : Nat) (x : W64) : (s.setS u i x).pageMeta = s.pageMeta := by
  unfold State.setS; simp
@[simp] theorem State.setS_scs (s : State) (u i : Nat) (x : W64) : (s.setS u i x).scs = s.scs := by
  unfold State.setS; simp
@[simp] theorem State.setS_slices (s : State) (u i : Nat) (x : W64) : (s.setS u i x).slices = s.slices := by
  unfold State.setS; simp
@[simp] theorem State.setS_storeDies (s : State) (u i : Nat) (x : W64) : (s.setS u i x).storeDies = s.storeDies := by
  unfold State.setS; simp
@[simp] theorem State.setS_cdies (s : State) (u i : Nat) (x : W64) : (s.setS u i x).cdies = s.cdies := by
  unfold State.setS; simp
@[simp] theorem State.setS_regions (s : State) (u i : Nat) (x : W64) : (s.setS u i x).regions = s.regions := by
  unfold State.setS; simp
@[simp] theorem State.setS_fab (s : State) (u i : Nat) (x : W64) : (s.setS u i x).fab = s.fab := by
  unfold State.setS; simp
@[simp] theorem State.setS_net (s : State) (u i : Nat) (x : W64) : (s.setS u i x).net = s.net := by
  unfold State.setS; simp
@[simp] theorem State.setS_engine (s : State) (u i : Nat) (x : W64) : (s.setS u i x).engine = s.engine := by
  unfold State.setS; simp
@[simp] theorem State.setS_host (s : State) (u i : Nat) (x : W64) : (s.setS u i x).host = s.host := by
  unfold State.setS; simp
@[simp] theorem State.setS_ctl (s : State) (u i : Nat) (x : W64) : (s.setS u i x).ctl = s.ctl := by
  unfold State.setS; simp
@[simp] theorem State.setS_snaps (s : State) (u i : Nat) (x : W64) : (s.setS u i x).snaps = s.snaps := by
  unfold State.setS; simp
@[simp] theorem State.setS_withy (s : State) (u i : Nat) (x : W64) : (s.setS u i x).withy = s.withy := by
  unfold State.setS; simp
@[simp] theorem State.setS_light (s : State) (u i : Nat) (x : W64) : (s.setS u i x).light = s.light := by
  unfold State.setS; simp
@[simp] theorem State.setS_sec (s : State) (u i : Nat) (x : W64) : (s.setS u i x).sec = s.sec := by
  unfold State.setS; simp

@[simp] theorem State.illegal_pending (s : State) (u i b c : Nat) : (s.illegal u i b c).pending = s.pending := (rfl)
@[simp] theorem State.illegal_freeCount (s : State) (u i b c : Nat) : (s.illegal u i b c).freeCount = s.freeCount := (rfl)
@[simp] theorem State.illegal_regs (s : State) (u i b c : Nat) : (s.illegal u i b c).regs = s.regs := (rfl)
@[simp] theorem State.illegal_hostLatch (s : State) (u i b c : Nat) : (s.illegal u i b c).hostLatch = s.hostLatch := (rfl)
@[simp] theorem State.illegal_smbLatch (s : State) (u i b c : Nat) : (s.illegal u i b c).smbLatch = s.smbLatch := (rfl)
@[simp] theorem State.illegal_readData (s : State) (u i b c : Nat) : (s.illegal u i b c).readData = s.readData := (rfl)
@[simp] theorem State.illegal_smbData (s : State) (u i b c : Nat) : (s.illegal u i b c).smbData = s.smbData := (rfl)
@[simp] theorem State.illegal_clk (s : State) (u i b c : Nat) : (s.illegal u i b c).clk = s.clk := (rfl)
@[simp] theorem State.illegal_pins (s : State) (u i b c : Nat) : (s.illegal u i b c).pins = s.pins := (rfl)
@[simp] theorem State.illegal_hawk (s : State) (u i b c : Nat) : (s.illegal u i b c).hawk = s.hawk := (rfl)
@[simp] theorem State.illegal_courses (s : State) (u i b c : Nat) : (s.illegal u i b c).courses = s.courses := (rfl)
@[simp] theorem State.illegal_mem (s : State) (u i b c : Nat) : (s.illegal u i b c).mem = s.mem := (rfl)
@[simp] theorem State.illegal_pageMeta (s : State) (u i b c : Nat) : (s.illegal u i b c).pageMeta = s.pageMeta := (rfl)
@[simp] theorem State.illegal_scs (s : State) (u i b c : Nat) : (s.illegal u i b c).scs = s.scs := (rfl)
@[simp] theorem State.illegal_slices (s : State) (u i b c : Nat) : (s.illegal u i b c).slices = s.slices := (rfl)
@[simp] theorem State.illegal_storeDies (s : State) (u i b c : Nat) : (s.illegal u i b c).storeDies = s.storeDies := (rfl)
@[simp] theorem State.illegal_cdies (s : State) (u i b c : Nat) : (s.illegal u i b c).cdies = s.cdies := (rfl)
@[simp] theorem State.illegal_regions (s : State) (u i b c : Nat) : (s.illegal u i b c).regions = s.regions := (rfl)
@[simp] theorem State.illegal_fab (s : State) (u i b c : Nat) : (s.illegal u i b c).fab = s.fab := (rfl)
@[simp] theorem State.illegal_net (s : State) (u i b c : Nat) : (s.illegal u i b c).net = s.net := (rfl)
@[simp] theorem State.illegal_engine (s : State) (u i b c : Nat) : (s.illegal u i b c).engine = s.engine := (rfl)
@[simp] theorem State.illegal_host (s : State) (u i b c : Nat) : (s.illegal u i b c).host = s.host := (rfl)
@[simp] theorem State.illegal_ctl (s : State) (u i b c : Nat) : (s.illegal u i b c).ctl = s.ctl := (rfl)
@[simp] theorem State.illegal_snaps (s : State) (u i b c : Nat) : (s.illegal u i b c).snaps = s.snaps := (rfl)
@[simp] theorem State.illegal_withy (s : State) (u i b c : Nat) : (s.illegal u i b c).withy = s.withy := (rfl)
@[simp] theorem State.illegal_light (s : State) (u i b c : Nat) : (s.illegal u i b c).light = s.light := (rfl)
@[simp] theorem State.illegal_sec (s : State) (u i b c : Nat) : (s.illegal u i b c).sec = s.sec := (rfl)

end Sys2Proof.Machine
end

