-- ==== Sys2Proof/Laws/TileRecords.lean ====
section
/-!
SUPPORT. The fields of the state when a tile records a failing completion or an access outside its layout.
-/
namespace Sys2Proof.Machine

@[simp] theorem State.checkSeg_pending (s : State) (u : Nat) (g : Segment → Bool) (a n : Nat) : (s.checkSeg u g a n).pending = s.pending := by
  unfold State.checkSeg; split <;> simp
@[simp] theorem State.checkSeg_freeCount (s : State) (u : Nat) (g : Segment → Bool) (a n : Nat) : (s.checkSeg u g a n).freeCount = s.freeCount := by
  unfold State.checkSeg; split <;> simp
@[simp] theorem State.checkSeg_regs (s : State) (u : Nat) (g : Segment → Bool) (a n : Nat) : (s.checkSeg u g a n).regs = s.regs := by
  unfold State.checkSeg; split <;> simp
@[simp] theorem State.checkSeg_hostLatch (s : State) (u : Nat) (g : Segment → Bool) (a n : Nat) : (s.checkSeg u g a n).hostLatch = s.hostLatch := by
  unfold State.checkSeg; split <;> simp
@[simp] theorem State.checkSeg_smbLatch (s : State) (u : Nat) (g : Segment → Bool) (a n : Nat) : (s.checkSeg u g a n).smbLatch = s.smbLatch := by
  unfold State.checkSeg; split <;> simp
@[simp] theorem State.checkSeg_readData (s : State) (u : Nat) (g : Segment → Bool) (a n : Nat) : (s.checkSeg u g a n).readData = s.readData := by
  unfold State.checkSeg; split <;> simp
@[simp] theorem State.checkSeg_smbData (s : State) (u : Nat) (g : Segment → Bool) (a n : Nat) : (s.checkSeg u g a n).smbData = s.smbData := by
  unfold State.checkSeg; split <;> simp
@[simp] theorem State.checkSeg_clk (s : State) (u : Nat) (g : Segment → Bool) (a n : Nat) : (s.checkSeg u g a n).clk = s.clk := by
  unfold State.checkSeg; split <;> simp
@[simp] theorem State.checkSeg_pins (s : State) (u : Nat) (g : Segment → Bool) (a n : Nat) : (s.checkSeg u g a n).pins = s.pins := by
  unfold State.checkSeg; split <;> simp
@[simp] theorem State.checkSeg_hawk (s : State) (u : Nat) (g : Segment → Bool) (a n : Nat) : (s.checkSeg u g a n).hawk = s.hawk := by
  unfold State.checkSeg; split <;> simp
@[simp] theorem State.checkSeg_ev (s : State) (u : Nat) (g : Segment → Bool) (a n : Nat) : (s.checkSeg u g a n).ev = s.ev := by
  unfold State.checkSeg; split <;> simp
@[simp] theorem State.checkSeg_courses (s : State) (u : Nat) (g : Segment → Bool) (a n : Nat) : (s.checkSeg u g a n).courses = s.courses := by
  unfold State.checkSeg; split <;> simp
@[simp] theorem State.checkSeg_mem (s : State) (u : Nat) (g : Segment → Bool) (a n : Nat) : (s.checkSeg u g a n).mem = s.mem := by
  unfold State.checkSeg; split <;> simp
@[simp] theorem State.checkSeg_pageMeta (s : State) (u : Nat) (g : Segment → Bool) (a n : Nat) : (s.checkSeg u g a n).pageMeta = s.pageMeta := by
  unfold State.checkSeg; split <;> simp
@[simp] theorem State.checkSeg_scs (s : State) (u : Nat) (g : Segment → Bool) (a n : Nat) : (s.checkSeg u g a n).scs = s.scs := by
  unfold State.checkSeg; split <;> simp
@[simp] theorem State.checkSeg_slices (s : State) (u : Nat) (g : Segment → Bool) (a n : Nat) : (s.checkSeg u g a n).slices = s.slices := by
  unfold State.checkSeg; split <;> simp
@[simp] theorem State.checkSeg_storeDies (s : State) (u : Nat) (g : Segment → Bool) (a n : Nat) : (s.checkSeg u g a n).storeDies = s.storeDies := by
  unfold State.checkSeg; split <;> simp
@[simp] theorem State.checkSeg_cdies (s : State) (u : Nat) (g : Segment → Bool) (a n : Nat) : (s.checkSeg u g a n).cdies = s.cdies := by
  unfold State.checkSeg; split <;> simp
@[simp] theorem State.checkSeg_regions (s : State) (u : Nat) (g : Segment → Bool) (a n : Nat) : (s.checkSeg u g a n).regions = s.regions := by
  unfold State.checkSeg; split <;> simp
@[simp] theorem State.checkSeg_fab (s : State) (u : Nat) (g : Segment → Bool) (a n : Nat) : (s.checkSeg u g a n).fab = s.fab := by
  unfold State.checkSeg; split <;> simp
@[simp] theorem State.checkSeg_net (s : State) (u : Nat) (g : Segment → Bool) (a n : Nat) : (s.checkSeg u g a n).net = s.net := by
  unfold State.checkSeg; split <;> simp
@[simp] theorem State.checkSeg_engine (s : State) (u : Nat) (g : Segment → Bool) (a n : Nat) : (s.checkSeg u g a n).engine = s.engine := by
  unfold State.checkSeg; split <;> simp
@[simp] theorem State.checkSeg_host (s : State) (u : Nat) (g : Segment → Bool) (a n : Nat) : (s.checkSeg u g a n).host = s.host := by
  unfold State.checkSeg; split <;> simp
@[simp] theorem State.checkSeg_ctl (s : State) (u : Nat) (g : Segment → Bool) (a n : Nat) : (s.checkSeg u g a n).ctl = s.ctl := by
  unfold State.checkSeg; split <;> simp
@[simp] theorem State.checkSeg_snaps (s : State) (u : Nat) (g : Segment → Bool) (a n : Nat) : (s.checkSeg u g a n).snaps = s.snaps := by
  unfold State.checkSeg; split <;> simp
@[simp] theorem State.checkSeg_withy (s : State) (u : Nat) (g : Segment → Bool) (a n : Nat) : (s.checkSeg u g a n).withy = s.withy := by
  unfold State.checkSeg; split <;> simp
@[simp] theorem State.checkSeg_light (s : State) (u : Nat) (g : Segment → Bool) (a n : Nat) : (s.checkSeg u g a n).light = s.light := by
  unfold State.checkSeg; split <;> simp
@[simp] theorem State.checkSeg_sec (s : State) (u : Nat) (g : Segment → Bool) (a n : Nat) : (s.checkSeg u g a n).sec = s.sec := by
  unfold State.checkSeg; split <;> simp

@[simp] theorem State.tileFault_pending (s : State) (u st src a : Nat) : (s.tileFault u st src a).pending = s.pending := by
  unfold State.tileFault; dsimp only; rw [State.satF_pending]; split <;> simp
@[simp] theorem State.tileFault_freeCount (s : State) (u st src a : Nat) : (s.tileFault u st src a).freeCount = s.freeCount := by
  unfold State.tileFault; dsimp only; rw [State.satF_freeCount]; split <;> simp
@[simp] theorem State.tileFault_hostLatch (s : State) (u st src a : Nat) : (s.tileFault u st src a).hostLatch = s.hostLatch := by
  unfold State.tileFault; dsimp only; rw [State.satF_hostLatch]; split <;> simp
@[simp] theorem State.tileFault_smbLatch (s : State) (u st src a : Nat) : (s.tileFault u st src a).smbLatch = s.smbLatch := by
  unfold State.tileFault; dsimp only; rw [State.satF_smbLatch]; split <;> simp
@[simp] theorem State.tileFault_readData (s : State) (u st src a : Nat) : (s.tileFault u st src a).readData = s.readData := by
  unfold State.tileFault; dsimp only; rw [State.satF_readData]; split <;> simp
@[simp] theorem State.tileFault_smbData (s : State) (u st src a : Nat) : (s.tileFault u st src a).smbData = s.smbData := by
  unfold State.tileFault; dsimp only; rw [State.satF_smbData]; split <;> simp
@[simp] theorem State.tileFault_clk (s : State) (u st src a : Nat) : (s.tileFault u st src a).clk = s.clk := by
  unfold State.tileFault; dsimp only; rw [State.satF_clk]; split <;> simp
@[simp] theorem State.tileFault_pins (s : State) (u st src a : Nat) : (s.tileFault u st src a).pins = s.pins := by
  unfold State.tileFault; dsimp only; rw [State.satF_pins]; split <;> simp
@[simp] theorem State.tileFault_hawk (s : State) (u st src a : Nat) : (s.tileFault u st src a).hawk = s.hawk := by
  unfold State.tileFault; dsimp only; rw [State.satF_hawk]; split <;> simp
@[simp] theorem State.tileFault_ev (s : State) (u st src a : Nat) : (s.tileFault u st src a).ev = s.ev := by
  unfold State.tileFault; dsimp only; rw [State.satF_ev]; split <;> simp
@[simp] theorem State.tileFault_tiles (s : State) (u st src a : Nat) : (s.tileFault u st src a).tiles = s.tiles := by
  unfold State.tileFault; dsimp only; rw [State.satF_tiles]; split <;> simp
@[simp] theorem State.tileFault_mem (s : State) (u st src a : Nat) : (s.tileFault u st src a).mem = s.mem := by
  unfold State.tileFault; dsimp only; rw [State.satF_mem]; split <;> simp
@[simp] theorem State.tileFault_pageMeta (s : State) (u st src a : Nat) : (s.tileFault u st src a).pageMeta = s.pageMeta := by
  unfold State.tileFault; dsimp only; rw [State.satF_pageMeta]; split <;> simp
@[simp] theorem State.tileFault_scs (s : State) (u st src a : Nat) : (s.tileFault u st src a).scs = s.scs := by
  unfold State.tileFault; dsimp only; rw [State.satF_scs]; split <;> simp
@[simp] theorem State.tileFault_slices (s : State) (u st src a : Nat) : (s.tileFault u st src a).slices = s.slices := by
  unfold State.tileFault; dsimp only; rw [State.satF_slices]; split <;> simp
@[simp] theorem State.tileFault_storeDies (s : State) (u st src a : Nat) : (s.tileFault u st src a).storeDies = s.storeDies := by
  unfold State.tileFault; dsimp only; rw [State.satF_storeDies]; split <;> simp
@[simp] theorem State.tileFault_cdies (s : State) (u st src a : Nat) : (s.tileFault u st src a).cdies = s.cdies := by
  unfold State.tileFault; dsimp only; rw [State.satF_cdies]; split <;> simp
@[simp] theorem State.tileFault_regions (s : State) (u st src a : Nat) : (s.tileFault u st src a).regions = s.regions := by
  unfold State.tileFault; dsimp only; rw [State.satF_regions]; split <;> simp
@[simp] theorem State.tileFault_fab (s : State) (u st src a : Nat) : (s.tileFault u st src a).fab = s.fab := by
  unfold State.tileFault; dsimp only; rw [State.satF_fab]; split <;> simp
@[simp] theorem State.tileFault_net (s : State) (u st src a : Nat) : (s.tileFault u st src a).net = s.net := by
  unfold State.tileFault; dsimp only; rw [State.satF_net]; split <;> simp
@[simp] theorem State.tileFault_engine (s : State) (u st src a : Nat) : (s.tileFault u st src a).engine = s.engine := by
  unfold State.tileFault; dsimp only; rw [State.satF_engine]; split <;> simp
@[simp] theorem State.tileFault_host (s : State) (u st src a : Nat) : (s.tileFault u st src a).host = s.host := by
  unfold State.tileFault; dsimp only; rw [State.satF_host]; split <;> simp
@[simp] theorem State.tileFault_ctl (s : State) (u st src a : Nat) : (s.tileFault u st src a).ctl = s.ctl := by
  unfold State.tileFault; dsimp only; rw [State.satF_ctl]; split <;> simp
@[simp] theorem State.tileFault_snaps (s : State) (u st src a : Nat) : (s.tileFault u st src a).snaps = s.snaps := by
  unfold State.tileFault; dsimp only; rw [State.satF_snaps]; split <;> simp
@[simp] theorem State.tileFault_withy (s : State) (u st src a : Nat) : (s.tileFault u st src a).withy = s.withy := by
  unfold State.tileFault; dsimp only; rw [State.satF_withy]; split <;> simp
@[simp] theorem State.tileFault_light (s : State) (u st src a : Nat) : (s.tileFault u st src a).light = s.light := by
  unfold State.tileFault; dsimp only; rw [State.satF_light]; split <;> simp
@[simp] theorem State.tileFault_sec (s : State) (u st src a : Nat) : (s.tileFault u st src a).sec = s.sec := by
  unfold State.tileFault; dsimp only; rw [State.satF_sec]; split <;> simp

end Sys2Proof.Machine
end

