-- ==== Sys2Proof/Laws/TileCounts.lean ====
section
/-!
SUPPORT. The fields of the state when a tile counts, and its tiles under what counts and records.
-/
namespace Sys2Proof.Machine

@[simp] theorem State.tileBump_pending (s : State) (u i n : Nat) : (s.tileBump u i n).pending = s.pending := by
  unfold State.tileBump; simp
@[simp] theorem State.tileBump_freeCount (s : State) (u i n : Nat) : (s.tileBump u i n).freeCount = s.freeCount := by
  unfold State.tileBump; simp
@[simp] theorem State.tileBump_hostLatch (s : State) (u i n : Nat) : (s.tileBump u i n).hostLatch = s.hostLatch := by
  unfold State.tileBump; simp
@[simp] theorem State.tileBump_smbLatch (s : State) (u i n : Nat) : (s.tileBump u i n).smbLatch = s.smbLatch := by
  unfold State.tileBump; simp
@[simp] theorem State.tileBump_readData (s : State) (u i n : Nat) : (s.tileBump u i n).readData = s.readData := by
  unfold State.tileBump; simp
@[simp] theorem State.tileBump_smbData (s : State) (u i n : Nat) : (s.tileBump u i n).smbData = s.smbData := by
  unfold State.tileBump; simp
@[simp] theorem State.tileBump_clk (s : State) (u i n : Nat) : (s.tileBump u i n).clk = s.clk := by
  unfold State.tileBump; simp
@[simp] theorem State.tileBump_pins (s : State) (u i n : Nat) : (s.tileBump u i n).pins = s.pins := by
  unfold State.tileBump; simp
@[simp] theorem State.tileBump_hawk (s : State) (u i n : Nat) : (s.tileBump u i n).hawk = s.hawk := by
  unfold State.tileBump; simp
@[simp] theorem State.tileBump_tiles (s : State) (u i n : Nat) : (s.tileBump u i n).tiles = s.tiles := by
  unfold State.tileBump; simp
@[simp] theorem State.tileBump_courses (s : State) (u i n : Nat) : (s.tileBump u i n).courses = s.courses := by
  unfold State.tileBump; simp
@[simp] theorem State.tileBump_mem (s : State) (u i n : Nat) : (s.tileBump u i n).mem = s.mem := by
  unfold State.tileBump; simp
@[simp] theorem State.tileBump_pageMeta (s : State) (u i n : Nat) : (s.tileBump u i n).pageMeta = s.pageMeta := by
  unfold State.tileBump; simp
@[simp] theorem State.tileBump_scs (s : State) (u i n : Nat) : (s.tileBump u i n).scs = s.scs := by
  unfold State.tileBump; simp
@[simp] theorem State.tileBump_slices (s : State) (u i n : Nat) : (s.tileBump u i n).slices = s.slices := by
  unfold State.tileBump; simp
@[simp] theorem State.tileBump_storeDies (s : State) (u i n : Nat) : (s.tileBump u i n).storeDies = s.storeDies := by
  unfold State.tileBump; simp
@[simp] theorem State.tileBump_cdies (s : State) (u i n : Nat) : (s.tileBump u i n).cdies = s.cdies := by
  unfold State.tileBump; simp
@[simp] theorem State.tileBump_regions (s : State) (u i n : Nat) : (s.tileBump u i n).regions = s.regions := by
  unfold State.tileBump; simp
@[simp] theorem State.tileBump_fab (s : State) (u i n : Nat) : (s.tileBump u i n).fab = s.fab := by
  unfold State.tileBump; simp
@[simp] theorem State.tileBump_net (s : State) (u i n : Nat) : (s.tileBump u i n).net = s.net := by
  unfold State.tileBump; simp
@[simp] theorem State.tileBump_engine (s : State) (u i n : Nat) : (s.tileBump u i n).engine = s.engine := by
  unfold State.tileBump; simp
@[simp] theorem State.tileBump_host (s : State) (u i n : Nat) : (s.tileBump u i n).host = s.host := by
  unfold State.tileBump; simp
@[simp] theorem State.tileBump_ctl (s : State) (u i n : Nat) : (s.tileBump u i n).ctl = s.ctl := by
  unfold State.tileBump; simp
@[simp] theorem State.tileBump_snaps (s : State) (u i n : Nat) : (s.tileBump u i n).snaps = s.snaps := by
  unfold State.tileBump; simp
@[simp] theorem State.tileBump_withy (s : State) (u i n : Nat) : (s.tileBump u i n).withy = s.withy := by
  unfold State.tileBump; simp
@[simp] theorem State.tileBump_light (s : State) (u i n : Nat) : (s.tileBump u i n).light = s.light := by
  unfold State.tileBump; simp
@[simp] theorem State.tileBump_sec (s : State) (u i n : Nat) : (s.tileBump u i n).sec = s.sec := by
  unfold State.tileBump; simp

@[simp] theorem State.siteBump_pending (s : State) (u i n : Nat) : (s.siteBump u i n).pending = s.pending := by
  unfold State.siteBump; simp
@[simp] theorem State.siteBump_freeCount (s : State) (u i n : Nat) : (s.siteBump u i n).freeCount = s.freeCount := by
  unfold State.siteBump; simp
@[simp] theorem State.siteBump_hostLatch (s : State) (u i n : Nat) : (s.siteBump u i n).hostLatch = s.hostLatch := by
  unfold State.siteBump; simp
@[simp] theorem State.siteBump_smbLatch (s : State) (u i n : Nat) : (s.siteBump u i n).smbLatch = s.smbLatch := by
  unfold State.siteBump; simp
@[simp] theorem State.siteBump_readData (s : State) (u i n : Nat) : (s.siteBump u i n).readData = s.readData := by
  unfold State.siteBump; simp
@[simp] theorem State.siteBump_smbData (s : State) (u i n : Nat) : (s.siteBump u i n).smbData = s.smbData := by
  unfold State.siteBump; simp
@[simp] theorem State.siteBump_clk (s : State) (u i n : Nat) : (s.siteBump u i n).clk = s.clk := by
  unfold State.siteBump; simp
@[simp] theorem State.siteBump_pins (s : State) (u i n : Nat) : (s.siteBump u i n).pins = s.pins := by
  unfold State.siteBump; simp
@[simp] theorem State.siteBump_hawk (s : State) (u i n : Nat) : (s.siteBump u i n).hawk = s.hawk := by
  unfold State.siteBump; simp
@[simp] theorem State.siteBump_tiles (s : State) (u i n : Nat) : (s.siteBump u i n).tiles = s.tiles := by
  unfold State.siteBump; simp
@[simp] theorem State.siteBump_courses (s : State) (u i n : Nat) : (s.siteBump u i n).courses = s.courses := by
  unfold State.siteBump; simp
@[simp] theorem State.siteBump_mem (s : State) (u i n : Nat) : (s.siteBump u i n).mem = s.mem := by
  unfold State.siteBump; simp
@[simp] theorem State.siteBump_pageMeta (s : State) (u i n : Nat) : (s.siteBump u i n).pageMeta = s.pageMeta := by
  unfold State.siteBump; simp
@[simp] theorem State.siteBump_scs (s : State) (u i n : Nat) : (s.siteBump u i n).scs = s.scs := by
  unfold State.siteBump; simp
@[simp] theorem State.siteBump_slices (s : State) (u i n : Nat) : (s.siteBump u i n).slices = s.slices := by
  unfold State.siteBump; simp
@[simp] theorem State.siteBump_storeDies (s : State) (u i n : Nat) : (s.siteBump u i n).storeDies = s.storeDies := by
  unfold State.siteBump; simp
@[simp] theorem State.siteBump_cdies (s : State) (u i n : Nat) : (s.siteBump u i n).cdies = s.cdies := by
  unfold State.siteBump; simp
@[simp] theorem State.siteBump_regions (s : State) (u i n : Nat) : (s.siteBump u i n).regions = s.regions := by
  unfold State.siteBump; simp
@[simp] theorem State.siteBump_fab (s : State) (u i n : Nat) : (s.siteBump u i n).fab = s.fab := by
  unfold State.siteBump; simp
@[simp] theorem State.siteBump_net (s : State) (u i n : Nat) : (s.siteBump u i n).net = s.net := by
  unfold State.siteBump; simp
@[simp] theorem State.siteBump_engine (s : State) (u i n : Nat) : (s.siteBump u i n).engine = s.engine := by
  unfold State.siteBump; simp
@[simp] theorem State.siteBump_host (s : State) (u i n : Nat) : (s.siteBump u i n).host = s.host := by
  unfold State.siteBump; simp
@[simp] theorem State.siteBump_ctl (s : State) (u i n : Nat) : (s.siteBump u i n).ctl = s.ctl := by
  unfold State.siteBump; simp
@[simp] theorem State.siteBump_snaps (s : State) (u i n : Nat) : (s.siteBump u i n).snaps = s.snaps := by
  unfold State.siteBump; simp
@[simp] theorem State.siteBump_withy (s : State) (u i n : Nat) : (s.siteBump u i n).withy = s.withy := by
  unfold State.siteBump; simp
@[simp] theorem State.siteBump_light (s : State) (u i n : Nat) : (s.siteBump u i n).light = s.light := by
  unfold State.siteBump; simp
@[simp] theorem State.siteBump_sec (s : State) (u i n : Nat) : (s.siteBump u i n).sec = s.sec := by
  unfold State.siteBump; simp

@[simp] theorem State.execCycles_pending (s : State) (u n : Nat) : (s.execCycles u n).pending = s.pending := by
  unfold State.execCycles; simp
@[simp] theorem State.execCycles_freeCount (s : State) (u n : Nat) : (s.execCycles u n).freeCount = s.freeCount := by
  unfold State.execCycles; simp
@[simp] theorem State.execCycles_hostLatch (s : State) (u n : Nat) : (s.execCycles u n).hostLatch = s.hostLatch := by
  unfold State.execCycles; simp
@[simp] theorem State.execCycles_smbLatch (s : State) (u n : Nat) : (s.execCycles u n).smbLatch = s.smbLatch := by
  unfold State.execCycles; simp
@[simp] theorem State.execCycles_readData (s : State) (u n : Nat) : (s.execCycles u n).readData = s.readData := by
  unfold State.execCycles; simp
@[simp] theorem State.execCycles_smbData (s : State) (u n : Nat) : (s.execCycles u n).smbData = s.smbData := by
  unfold State.execCycles; simp
@[simp] theorem State.execCycles_clk (s : State) (u n : Nat) : (s.execCycles u n).clk = s.clk := by
  unfold State.execCycles; simp
@[simp] theorem State.execCycles_pins (s : State) (u n : Nat) : (s.execCycles u n).pins = s.pins := by
  unfold State.execCycles; simp
@[simp] theorem State.execCycles_hawk (s : State) (u n : Nat) : (s.execCycles u n).hawk = s.hawk := by
  unfold State.execCycles; simp
@[simp] theorem State.execCycles_courses (s : State) (u n : Nat) : (s.execCycles u n).courses = s.courses := by
  unfold State.execCycles; simp
@[simp] theorem State.execCycles_mem (s : State) (u n : Nat) : (s.execCycles u n).mem = s.mem := by
  unfold State.execCycles; simp
@[simp] theorem State.execCycles_pageMeta (s : State) (u n : Nat) : (s.execCycles u n).pageMeta = s.pageMeta := by
  unfold State.execCycles; simp
@[simp] theorem State.execCycles_scs (s : State) (u n : Nat) : (s.execCycles u n).scs = s.scs := by
  unfold State.execCycles; simp
@[simp] theorem State.execCycles_slices (s : State) (u n : Nat) : (s.execCycles u n).slices = s.slices := by
  unfold State.execCycles; simp
@[simp] theorem State.execCycles_storeDies (s : State) (u n : Nat) : (s.execCycles u n).storeDies = s.storeDies := by
  unfold State.execCycles; simp
@[simp] theorem State.execCycles_cdies (s : State) (u n : Nat) : (s.execCycles u n).cdies = s.cdies := by
  unfold State.execCycles; simp
@[simp] theorem State.execCycles_regions (s : State) (u n : Nat) : (s.execCycles u n).regions = s.regions := by
  unfold State.execCycles; simp
@[simp] theorem State.execCycles_fab (s : State) (u n : Nat) : (s.execCycles u n).fab = s.fab := by
  unfold State.execCycles; simp
@[simp] theorem State.execCycles_net (s : State) (u n : Nat) : (s.execCycles u n).net = s.net := by
  unfold State.execCycles; simp
@[simp] theorem State.execCycles_engine (s : State) (u n : Nat) : (s.execCycles u n).engine = s.engine := by
  unfold State.execCycles; simp
@[simp] theorem State.execCycles_host (s : State) (u n : Nat) : (s.execCycles u n).host = s.host := by
  unfold State.execCycles; simp
@[simp] theorem State.execCycles_ctl (s : State) (u n : Nat) : (s.execCycles u n).ctl = s.ctl := by
  unfold State.execCycles; simp
@[simp] theorem State.execCycles_snaps (s : State) (u n : Nat) : (s.execCycles u n).snaps = s.snaps := by
  unfold State.execCycles; simp
@[simp] theorem State.execCycles_withy (s : State) (u n : Nat) : (s.execCycles u n).withy = s.withy := by
  unfold State.execCycles; simp
@[simp] theorem State.execCycles_light (s : State) (u n : Nat) : (s.execCycles u n).light = s.light := by
  unfold State.execCycles; simp
@[simp] theorem State.execCycles_sec (s : State) (u n : Nat) : (s.execCycles u n).sec = s.sec := by
  unfold State.execCycles; simp

@[simp] theorem State.tile_bump (s : State) (a n u : Nat) : (s.bump a n).tile u = s.tile u :=
  State.tile_of_tiles _ _ (State.bump_tiles s a n) u
@[simp] theorem State.tile_tileBump (s : State) (u i n v : Nat) : (s.tileBump u i n).tile v = s.tile v :=
  State.tile_of_tiles _ _ (State.tileBump_tiles s u i n) v
@[simp] theorem State.tile_siteBump (s : State) (u i n v : Nat) : (s.siteBump u i n).tile v = s.tile v :=
  State.tile_of_tiles _ _ (State.siteBump_tiles s u i n) v
@[simp] theorem State.tile_raise (s : State) (c u : Nat) (d : List Nat) (v : Nat) : (s.raise c u d).tile v = s.tile v :=
  State.tile_of_tiles _ _ (State.raise_tiles s c u d) v
@[simp] theorem State.tile_tileFault (s : State) (u st src a v : Nat) : (s.tileFault u st src a).tile v = s.tile v :=
  State.tile_of_tiles _ _ (State.tileFault_tiles s u st src a) v
@[simp] theorem State.tile_execCycles (s : State) (u n v : Nat) :
    (s.execCycles u n).tile v = if v = u then { s.tile u with cycles := (s.tile u).cycles + n } else s.tile v := by
  unfold State.execCycles; simp

end Sys2Proof.Machine
end

