-- ==== Sys2Proof/WellFormed.lean ====
section
/-!
DEFINITION. Which commands are well formed: those whose operands the spec's rule for the row allows.
-/
namespace Sys2Proof

/-- A slot header: the cycles stalled for a mover or signal slot are among those the bundle stalled (R67, R96). Port-A cycles
that the matrix engine's buffer hides stall no bundle (R155). -/
def SlotHdr.wf (h : SlotHdr) : Bool := decide (h.slotFull ≤ h.stall)

/-- A register's address: every register is 32 bits at a multiple of 4 (R15). -/
def regAligned (a : BitVec 26) : Bool := decide (a.toNat % 4 = 0)

/-- An ordered pair joins two ports (R185). -/
def pairOk (src dst : PortN) : Bool := decide (src ≠ dst)

/-- The bytes that an aperture shows (R325). -/
def apertureSize : Nat := 2 ^ 36

/-- Whether a command's operands are ones that its rule allows. -/
def Instr.wf : Instr → Bool
  | .powerUp feedA feedB => feedA || feedB
  | .bringupPhaseDone r => r.rngOk.length == 2 && r.maskedLanes.all fun l => decide (l.1 < 1024)
  | .registerWrite addr _ => regAligned addr
  | .loRegisterRead addr => regAligned addr
  | .meshLinkSuspect _ link _ =>
    -- the link is one of the grid's (R70)
    match link.dir with
    | .north => decide (link.site.val < 270)
    | .south => decide (18 ≤ link.site.val)
    | _ => true
  | .nop h p word => h.wf && (slotOpcode p (slotOp word)).isNone && h.neg == slotNeg word && h.pred == slotPred word
  | .endOp h _ => h.wf
  | .add h _ => h.wf
  | .sub h _ => h.wf
  | .mul h _ => h.wf
  | .mulhu h _ => h.wf
  | .and h _ => h.wf
  | .or h _ => h.wf
  | .xor h _ => h.wf
  | .shl h _ => h.wf
  | .shr h _ => h.wf
  | .sar h _ => h.wf
  | .min h _ => h.wf
  | .max h _ => h.wf
  | .minu h _ => h.wf
  | .maxu h _ => h.wf
  | .addi h _ => h.wf
  | .andi h _ => h.wf
  | .ori h _ => h.wf
  | .xori h _ => h.wf
  | .shli h _ => h.wf
  | .shri h _ => h.wf
  | .sari h _ => h.wf
  | .movi h _ => h.wf
  | .sli h _ => h.wf
  | .cmp h _ => h.wf
  | .cmpi h _ => h.wf
  | .plog h _ => h.wf
  | .br h _ => h.wf
  | .loop h _ => h.wf
  | .ld h _ => h.wf
  | .st h _ => h.wf
  | .rdsr h _ => h.wf
  | .wrsr h _ => h.wf
  | .waitUntil h _ => h.wf
  | .wait h _ => h.wf
  | .signal h _ => h.wf
  | .waitd h _ => h.wf
  | .waitdr h _ => h.wf
  | .rimBar h _ => h.wf
  | .rimSet h _ => h.wf
  | .rimWaitf h _ => h.wf
  | .vadd h _ => h.wf
  | .vsub h _ => h.wf
  | .vmul h _ => h.wf
  | .vfma h _ => h.wf
  | .vfms h _ => h.wf
  | .vfnma h _ => h.wf
  | .vmin h _ => h.wf
  | .vmax h _ => h.wf
  | .vabs h _ => h.wf
  | .vneg h _ => h.wf
  | .vand h _ => h.wf
  | .vor h _ => h.wf
  | .vxor h _ => h.wf
  | .vshl h _ => h.wf
  | .vshr h _ => h.wf
  | .vsar h _ => h.wf
  | .vcmp h _ => h.wf
  | .vblend h _ => h.wf
  | .vexp2 h _ => h.wf
  | .vlog2 h _ => h.wf
  | .vrsqrt h _ => h.wf
  | .vrcp h _ => h.wf
  | .vsin h _ => h.wf
  | .vcos h _ => h.wf
  | .vtanh h _ => h.wf
  | .vcvt h _ => h.wf
  | .vld h _ => h.wf
  | .vst h _ => h.wf
  | .vlds h _ => h.wf
  | .vsts h _ => h.wf
  | .vbcast h _ => h.wf
  | .vtos h _ => h.wf
  | .mma h _ => h.wf
  | .azero h _ => h.wf
  | .ald h _ => h.wf
  | .ast h _ => h.wf
  | .ard h _ => h.wf
  | .awr h _ => h.wf
  | .load h _ => h.wf
  | .store h _ => h.wf
  | .fadd32 h _ => h.wf
  | .fadd64 h _ => h.wf
  | .faddf32 h _ => h.wf
  | .faddbf2 h _ => h.wf
  | .swap64 h _ => h.wf
  | .cas64 h _ => h.wf
  | .min64 h _ => h.wf
  | .max64 h _ => h.wf
  | .and64 h _ => h.wf
  | .or64 h _ => h.wf
  | .xor64 h _ => h.wf
  | .plait h _ => h.wf
  | .rowrd h _ => h.wf
  | .rowwr h _ => h.wf
  | .linkControlFlit src dst _ _ credits => pairOk src dst && credits.length == 4
  | .replayTimeout src dst => pairOk src dst
  | .laneSuspect src dst _ _ => pairOk src dst
  | .flitLaunch _ _ link own => link.all (fun f => f.input == 0) && own.all fun f => f.input != 0
  | .pairRetrain src dst => pairOk src dst
  | .pairWidth src dst => pairOk src dst
  | .laneSpared src dst _ => pairOk src dst
  | .ringRepair src dst _ => pairOk src dst
  | .laneTestDone src dst _ errorsPerMillion => pairOk src dst && decide (errorsPerMillion ≤ 1000000)
  | .relocked acquired => decide (acquired ≤ 19008)
  | .replyAck _ _ _ _ seqs => decide (1 ≤ seqs.length ∧ seqs.length ≤ 58)
  | .apertureRead _ offset len => decide (1 ≤ len ∧ len ≤ 4096 ∧ offset + len ≤ apertureSize)
  | .apertureWrite _ offset bytes => decide (1 ≤ bytes.length ∧ bytes.length ≤ 4096 ∧ offset + bytes.length ≤ apertureSize)
  | .withyLinkControl _ _ _ _ credits _ => credits.length == 4
  | .stakeMasterStart | .proceed | .restoreGateTimeout | .smbusRead .. | .frameTick | .lapInstant | .courseStart ..
  | .masterSwitched | .masterFailed | .stakeLegMeasure .. | .refLost .. | .refRestored .. | .slewDone
  | .droopStretch .. | .railRampStart | .railRampSettled | .memstopSecondWave | .memstopRegionRestart ..
  | .stakeEcho .. | .dieClockLost .. | .vlinkSpared .. | .vlinkHalfWidth .. | .meshRerouted .. | .lapEnd ..
  | .waitResume .. | .rowMoveGrant .. | .rowMoveDone .. | .moverReply .. | .storeRelease .. | .lookasideFill ..
  | .imageLoaded .. | .courseEntryFetched .. | .imageRefetchDone .. | .lapBoundExceeded .. | .courseComplete ..
  | .sliceSpared .. | .sliceEvacuated .. | .sdReset .. | .sdResetCleared .. | .sdReloaded .. | .flitReceive ..
  | .syncMirrorConfirm .. | .spokeLaunch .. | .spokeFollowup .. | .spokeOperationComplete .. | .plaitResultAcked ..
  | .plaitPartial .. | .rimArrival .. | .rimCompletion .. | .rimFlagUpdate .. | .hubReset .. | .hubStateCopied ..
  | .hubRestored .. | .laserPowerControl .. | .gridFeedforward .. | .gridMeasurement .. | .handoverPhaseLocked ..
  | .handoverStep .. | .handoverPhaseLoss .. | .handoverLockTimeout .. | .laserFailed .. | .laserLanesReturned ..
  | .ringLoopUpdate .. | .ringUnlocked .. | .ringAcquire .. | .identityWindow .. | .calMeasurement .. | .refvFault ..
  | .refvRestored | .lsrTargetWrite .. | .save | .calImageCapture .. | .restore | .darkRequest | .darkEntered
  | .relockRequest | .planeRelocked .. | .loadReq .. | .storeReq .. | .fadd32Req .. | .fadd64Req .. | .faddf32Req ..
  | .faddbf2Req .. | .swap64Req .. | .cas64Req .. | .min64Req .. | .max64Req .. | .and64Req .. | .or64Req ..
  | .xor64Req .. | .plaitContributionReq .. | .signalReq .. | .counterSetReq .. | .waitReq .. | .spokeStoreReq ..
  | .regionEntryReq .. | .targetCacheFill .. | .requestWindowExpired .. | .ledgerEntryExpired ..
  | .ledgerQuarantineEnd .. | .rgnStageAppend .. | .rgnStageClear | .regionFold | .pageFetchDone .. | .commitDone ..
  | .skimVisit .. | .gapMove .. | .channelSpared .. | .pwrfailFlush .. | .pwrfailFlushDone .. | .pwrfailRelease ..
  | .scPowerUp .. | .verifyDone .. | .scReset .. | .scDiscardReset .. | .scResetDone .. | .cxlLinkUp ..
  | .cxlLinkDown .. | .cxlPerst .. | .ringsDisabledNoLink | .aperBaseWrite .. | .hostWindowRequest ..
  | .windowFlushRead .. | .doorbellSnoop .. | .doorbellPoll .. | .sqDbFallbackWrite .. | .descriptorFetched ..
  | .nopDesc .. | .launch .. | .copy .. | .fill .. | .copyQuantumBegin .. | .copyQuantumClose .. | .remote ..
  | .plaitDesc .. | .signalAdd .. | .signalSet .. | .rimFlagSetDesc .. | .waitCounterDesc .. | .waitRimBarrierDesc ..
  | .waitRimFlagDesc .. | .waitDescTimeout .. | .snapshot .. | .snapshotLatch .. | .snapshotGatherDone ..
  | .attest .. | .attestCapture .. | .fence .. | .completionRecordWrite .. | .cqIrqDelay .. | .eventRecordWrite ..
  | .ringEnable .. | .ringDisable .. | .ringStopped .. | .withyFibreEnable .. | .withyRetrain .. | .withyUp ..
  | .withyCodewordReceive .. | .withyColourSuspect .. | .withyReplayTimeout .. | .withyColourSpared .. | .withyAlignmentLost ..
  | .withyDown .. | .withyOutboundFlit .. | .withyTransitFlit .. | .withyInboundRequest .. | .withyAssemblyTimeout ..
  | .withyProxyReply .. | .withyInboundReply .. | .routeDrained .. | .wtyRtIdxWrite .. | .wtyRtHiWrite ..
  | .timeExchange .. | .timeParentLost | .nodeAlignLost | .plaitJoin .. | .plaitHomeStatus .. | .rimNodeArrival ..
  | .rimRootRelease .. | .dieIsolated .. | .isolationFenceTimeout .. | .dieRejoin .. | .dieRejoined ..
  | .hlthDieReset .. | .dieThermalShutdown .. | .shadowCopyAcked .. | .heartbeat .. | .heartbeatsMissed ..
  | .controlResign | .controlTakeover .. | .standbyJoin | .standbyReady | .preferredWrite .. | .controlHandback ..
  | .feedLost .. | .feedRestored .. | .regulatorFailed .. | .hawkCheckGo | .hawkCheckDone | .hawkCancel
  | .hawkDiscard | .profileWrite .. | .profilePlanesAdded | .sealTest .. | .advance .. | .debugUnlock | .sealedClear
  | .presenceChange .. | .presenceHoldComplete .. | .secCmdExpired | .transitionResumed .. | .rngFault ..
  | .engineReply .. | .signalAcknowledged .. | .thermTrip .. | .powerDown | .standbyLost | .handbackFetchStop => true

end Sys2Proof
end

