-- ==== Sys2Proof/Tests/Slice0.lean ====
section
/-!
SUPPORT. Tests: the well-formedness smoke, a small state for the hypotheses of each statement, and single steps whose results
are computed by hand from the rules.
-/
open Sys2Proof Sys2Proof.Machine
namespace Sys2Proof.Tests
set_option Elab.async false

/-! ## States -/

/-- A state with fields of registers set. -/
def on (l : List (Fld × Nat)) (s : State) : State := l.foldl (fun s e => s.setF e.1 e.2) s

/-- A package in service at the tick of frame 8, with both feeds. -/
def base : State :=
  on [(Reg.glbReady, 1), (Reg.glbPhase, 10), (Reg.fabric, 2)]
    { State.reset with
      pins := { State.reset.pins with feedA := true, feedB := true, pwrfailN := true }
      clk := { State.reset.clk with running := true, now := 524288, tick := 524288, frame := 8 } }

/-- The same before READY. -/
def early (phase : Nat) : State := on [(Reg.glbReady, 0), (Reg.glbPhase, phase)] base

/-- The same without a running clock, or at another instant. -/
def at_ (now : Nat) (s : State) : State := { s with clk := { s.clk with now := now } }

def img : BankImg := ⟨1000, false, 0, 10, [⟨0, 16384, true, true, true⟩], 7, []⟩

/-- Tile 5 of die 0 runs a lap of a ten-bundle image; s1 = 3, s2 = 5, s3 holds a transfer word of two lines at 0x40. -/
def lapTile : Tile :=
  { Tile.zero with bank0 := some img, sregs := [(1, 3), (2, 5), (3, 0x200040), (4, 0xFFFF000000000040), (6, 0x90000000000)] }

def lapOf (t : Tile) : State := (on [(Reg.tilePhase 0 5, 2), (Reg.dieState 0, 1)] base).setTile 5 t

def lap : State := lapOf lapTile

/-- A slot of tile 5 that begins a bundle. -/
def hd : SlotHdr := ⟨⟨0, 5⟩, true, 0, 0, 0, 0, 0, .none, 0, false, 0⟩

/-- Operand bits of formats SR, VA and XM: three registers and the low bits. -/
def ops (d a b low : Nat) : BitVec 22 := BitVec.ofNat 22 (d * 2 ^ 17 + a * 2 ^ 12 + b * 2 ^ 7 + low)

def req0 : Req :=
  { srcNode := 0xFFFF, srcUnit := 5, inc := 0, seq := 9, opc := 2, retry := false, remote := false, nflits := 1, key := 0,
    ga := 0xFFFF000000000000, replyPort := 0, lines := 1, rack := none, operand := 0, compare := 0, deadline := 600000, zeros := 0,
    data := [7] }

def rep0 : Reply :=
  { srcNode := 0xFFFF, srcUnit := 5, inc := 0, seq := 9, opc := 2, status := 0, saturated := false, ledgerHit := false, detail := 0,
    value := 0, data := [] }

/-! ## Well-formedness: a refused command for each check -/

def badHd : SlotHdr := { hd with slotFull := 1 }

theorem test_wf_slot : (Instr.add badHd 0).wf = false ∧ (Instr.add hd 0).wf = true := by decide
theorem test_wf_feeds : (Instr.powerUp false false).wf = false ∧ (Instr.powerUp false true).wf = true := by decide
theorem test_wf_register : (Instr.registerWrite 2 0).wf = false ∧ (Instr.loRegisterRead 1).wf = false ∧
    (Instr.loRegisterRead 4).wf = true := by decide
theorem test_wf_report :
    (Instr.bringupPhaseDone ⟨[], [], [], [], false, false, true, [true], [], [], [], 1⟩).wf = false ∧
    (Instr.bringupPhaseDone ⟨[], [], [], [], false, false, true, [true, true], [], [], [(1024, 0)], 1⟩).wf = false ∧
    (Instr.bringupPhaseDone ⟨[], [], [], [], false, false, true, [true, true], [], [], [(1023, 0)], 1⟩).wf = true := by decide
theorem test_wf_mesh : (Instr.meshLinkSuspect 0 ⟨270, .north⟩ []).wf = false ∧ (Instr.meshLinkSuspect 0 ⟨17, .south⟩ []).wf = false ∧
    (Instr.meshLinkSuspect 0 ⟨269, .north⟩ []).wf = true := by decide
theorem test_wf_pair : (Instr.pairRetrain 3 3).wf = false ∧ (Instr.pairRetrain 3 4).wf = true ∧ (Instr.replayTimeout 1 1).wf = false ∧
    (Instr.laneSuspect 2 2 0 8).wf = false ∧ (Instr.pairWidth 2 2).wf = false ∧ (Instr.laneSpared 2 2 0).wf = false ∧
    (Instr.ringRepair 2 2 0).wf = false := by decide
theorem test_wf_credits : (Instr.linkControlFlit 0 1 0 none [1]).wf = false ∧ (Instr.linkControlFlit 0 1 0 none [1, 0, 0, 0]).wf = true ∧
    (Instr.withyLinkControl 0 0 0 none [] 0).wf = false := by decide
theorem test_wf_errors : (Instr.laneTestDone 0 1 0 1000001).wf = false := by decide
theorem test_wf_nop : (Instr.nop hd .s 0x05C00000).wf = true ∧ (Instr.nop hd .s 0x00400000).wf = false ∧
    (Instr.nop hd .s 0x80000000).wf = false ∧ (Instr.nop hd .s 0x10000000).wf = false := by decide
theorem test_wf_acquired : (Instr.relocked 19009).wf = false ∧ (Instr.relocked 19008).wf = true := by decide
theorem test_wf_ack : (Instr.replyAck 0 0 0 0 []).wf = false ∧ (Instr.replyAck 0 0 0 0 [1]).wf = true := by decide
theorem test_wf_aperture : (Instr.apertureRead 0 0 0).wf = false ∧ (Instr.apertureRead 0 (2 ^ 36 - 4) 8).wf = false ∧
    (Instr.apertureWrite 0 0 []).wf = false ∧ (Instr.apertureRead 0 (2 ^ 36 - 4) 4).wf = true := by decide

/-! ## Witnesses: slots -/

theorem witness_guards : lap.reaches hd = true ∧ lap.reaches { hd with neg := true } = true ∧
    (lap.opened { hd with neg := true }).guard { hd with neg := true } = false ∧ (lap.opened hd).guard hd = true ∧
    lap.acts hd 0 = true ∧ lap.acts hd 1 = true ∧ lap.acts hd 2 = true ∧ lap.acts hd 3 = true := by decide

theorem witness_illegal : lap.reaches hd = true ∧ (lap.opened hd).guard hd = true ∧
    ((lap.opened hd).tile 5).freeMover ≠ 0 ∧ (1 : W32).toNat % 2 ^ 28 ≠ 0 ∧ bits 1 0 7 ≠ 0 ∧ bits (ops 0 16 0 0) 16 1 ≠ 0 ∧
    bits (ops 3 16 0 0) 16 3 = 7 ∧ bits 1 0 11 ≠ 0 ∧ bits (ops 1 0 0 0) 12 10 ≠ 0 ∧ bits (ops 1 0 0 0) 17 5 ≠ 0 ∧ bits (ops 0 0 2 0) 8 4 ≠ 0 ∧
    bits (ops 0 1 0 0) 12 6 ≠ 0 ∧ bits (ops 1 0 0 0) 17 1 ≠ 0 ∧ bits 0x70 4 3 = 7 ∧ bits (ops 0 0 1 0) 7 5 ≠ 0 ∧ bits 0 4 3 < 4 ∧
    bits 0x10 4 3 ≠ 0 ∧ 5 < bits 0xC 1 3 ∧ 2 < bits (ops 1 16 0 0) 16 3 ∧ bits 1 0 8 ≠ 0 ∧ bits (ops 0 1 0 0) 12 3 ≠ 0 := by decide

theorem witness_bundles : lap.reaches hd = true ∧ hd.fresh = true ∧
    (lapOf { lapTile with next := 10 }).alive = true ∧ (lapOf { lapTile with next := 10 }).slotOpen hd = true ∧ hd.ecc ≠ .bundle ∧
    (lapOf { lapTile with next := 10 }).curImg 5 = some img ∧ img.bundles ≤ ((lapOf { lapTile with next := 10 }).tile 5).next ∧
    ((lapOf { lapTile with next := 10 }).tile 5).freeMover ≠ 0 ∧ ((lapOf { lapTile with next := 10 }).tile 5).freeSig ≠ 0 := by decide

theorem witness_scalar : lap.acts hd 0 = true ∧ bits (ops 7 1 2 0) 0 7 = 0 ∧ bits (ops 7 1 2 0) 16 1 = 0 := by decide
theorem witness_predicates : lap.acts hd 0 = true ∧ bits 0 0 6 = 0 ∧ bits 0 16 3 ≠ 7 ∧ bits 0 0 11 = 0 ∧ bits 0 12 10 = 0 ∧
    bits (ops 0 1 0 0) 17 5 = 0 ∧ (0 : W32).toNat % 2 ^ 28 = 0 := by decide
theorem witness_special : lap.acts hd 0 = true ∧ bits 8 8 4 = 0 ∧ bits 8 0 8 = 8 ∧ specialListed 200 = false := by decide
theorem witness_scratchpad : lap.acts hd 0 = true ∧ lap.acts hd 1 = true := by decide

/-- Tile 5 in a group that may use channel 3, of which its hub takes part with ports 0 and 1. -/
def rimLap : State :=
  on [(Reg.grpRimGrant 0 0, 1), (Reg.rimValid (lap.hubOf 5) 3, 1), (Reg.rimMask (lap.hubOf 5) 3, 3), (Reg.rimFlag (lap.hubOf 5) 3, 4)] lap

theorem witness_rim : rimLap.acts hd 0 = true ∧ bits (ops 1 16 0 0) 0 6 = 0 ∧ bits (ops 1 16 0 0) 16 6 = 3 ∧
    (rimLap.issued hd).rimGranted 5 = true ∧ (rimLap.issued hd).rimRefusal 5 3 = 0 ∧ (rimLap.tile 5).freeSig ≠ 0 ∧
    (3 : W32).toNat ≤ (rimLap.issued hd).getF (Reg.rimFlag ((rimLap.issued hd).hubOf 5) 3) ∧
    (rimLap.issued hd).getF (Reg.rimFlag ((rimLap.issued hd).hubOf 5) 3) < 5 := by decide

theorem witness_tile_waits : lap.acts hd 0 = true ∧ bits (ops 0 0 2 0) 16 6 = 0 ∧ bits (ops 0 0 2 0) 0 6 = 0 ∧
    bits (ops 1 0 0 0) 12 5 = 0 ∧ ((lapOf { lapTile with wait := some (.untilTime 5) }).tile 5).wait = some (.untilTime 5) ∧
    (5 : W64).toNat ≤ (lapOf lapTile).clk.now ∧
    ((lapOf { lapTile with wait := some (.done 2 1) }).tile 5).wait = some (.done 2 1) ∧ (lapTile.d 2).toNat < 1 := by decide

theorem witness_wait_signal : lap.acts hd 0 = true ∧ (5 : W64).toNat < 2 ^ 32 ∧ lap.isHere ((5 : W64).toNat / 2 ^ 16) = lap.isHere 0 ∧
    lap.getF Reg.wtyNode = 65535 ∧ (on [(Reg.wtyNode, 0)] lap).isHere 0 = true ∧ (lap.tile 5).freeSig ≠ 0 ∧
    (({ lapTile with sigs := List.replicate 64 ⟨1, false, 0, 0, 0, 0⟩ } : Tile).freeSig = 0) ∧
    ({ lapTile with sigs := [⟨9, false, 0, 0, 0, 0⟩] } : Tile).sigs.find? (fun x => x.seq == (9 : BitVec 24).toNat) =
      some ⟨9, false, 0, 0, 0, 0⟩ := by decide

theorem witness_vectors : lap.acts hd 1 = true ∧ 4 ≤ bits 0x40 4 3 ∧ bits 0x40 4 3 ≤ 6 ∧ bits 0x40 1 3 = 0 ∧ bits 0 4 3 < 4 ∧ bits 0 0 1 = 0 ∧
    bits 0x60 4 3 ≠ 7 ∧ bits 0x40 7 5 = 0 ∧ bits (ops 0 0 0 4) 1 3 ≠ 7 ∧ bits (ops 0 0 0 4) 4 8 < 2048 / vWidth 2 := by decide

theorem witness_conversions : lap.acts hd 1 = true ∧ vcvtLegal 0x10 = true ∧
    vcvtAllowed 0 0 = false ∧ vcvtAllowed 0 1 = true := by decide

theorem witness_accumulators : lap.acts hd 2 = true ∧ bits 0 0 16 = 0 ∧ bits 0 16 3 ≤ 2 ∧ pdZero 0 = true ∧ pdFmt 0 = 0 ∧
    (lapTile.tag 0 ≠ .fp64) ∧ ({ lapTile with tags := [(0, .fp64)] } : Tile).tag 0 = .fp64 ∧
    (∃ f ∈ List.range 16, mmaLegal (BitVec.ofNat 64 (f * 2 ^ 36 + 2 ^ 20)) (BitVec.ofNat 64 (f * 2 ^ 36 + 2 ^ 20)) true (lapTile.tag 0) = true) ∧
    (∃ f ∈ List.range 16, astAllowed .fp32 f = true ∧ f ≠ AccTag.fp32.code) ∧ (∃ f ∈ List.range 16, astAllowed .fp32 f = false) := by decide


/-! ## Witnesses: the mover, loaders and courses -/

def mreq : MReq :=
  { seq := 9, opc := 2, queue := 0, dc := 2, key := 0, ga := 0xFFFF000000000000, spad := 0x40, lines := 1, operand := 0, rel := true,
    failed := false, state := .held, retries := 0, deadline := 0 }

def openEntry : Region := ⟨0xF, 0, false, 0⟩

/-- s1 a transfer word of two lines, s2 a local line, s3 a host window, s4 another node's line, s5 a misaligned one, s6 no lines. -/
def xTile : Tile :=
  { Tile.zero with bank0 := some img, look := [(0, openEntry)], sregs :=
      [(1, 0x200040), (2, 0xFFFF000000000040), (3, 0xFFFF00F600000000), (4, 0x0005000000000040), (5, 0x0005000000000048), (7, 16384)] }

theorem witness_mover_requests : (lapOf xTile).acts hd 3 = true ∧ (xTile).freeMover ≠ 0 ∧ bits (ops 0 0 2 4) 0 1 = 0 ∧
    bits (ops 0 0 2 4) 2 5 = 1 ∧ bits (ops 0 0 2 4) 1 1 = 0 ∧
    ((lapOf xTile).issued hd).sourceCheck 2 ((((lapOf xTile).issued hd).pre 5).s 2) ((((lapOf xTile).issued hd).pre 5).s 1) = 0 ∧
    (∃ e, (((lapOf xTile).issued hd).tile 5).look.find? (fun e => e.1 == 0) = some e ∧ lookOk (e.2.word 8) 2 = true) := by
  refine ⟨by decide, by decide, by decide, by decide, by decide, by decide, (0, openEntry), by decide, by decide⟩

theorem witness_mover_entry : (lapOf { xTile with look := [] }).acts hd 3 = true ∧
    (lapOf { xTile with look := [] }).isHere ((0xFFFF000000000040 : W64).toNat / 2 ^ 48) = true ∧ laGoverned 0x40 = true ∧
    (((lapOf { xTile with look := [] }).issued hd).tile 5).look.find? (fun e => e.1 == 0) = none := by decide

theorem witness_mover_held : (lapOf { xTile with mover := [{ mreq with seq := 5 }] }).acts hd 3 = true ∧
    bits (ops 0 0 4 6) 1 1 = 1 ∧ bits (ops 0 0 4 6) 0 1 = 0 ∧
    (lapOf { xTile with mover := [{ mreq with seq := 5 }] }).isHere ((0x0005000000000040 : W64).toNat / 2 ^ 48) = false ∧
    ((lapOf xTile).issued hd).sourceCheck 2 0x0005000000000040 0x200040 = 0 ∧
    ((([{ mreq with seq := 5 }] : List MReq).takeWhile fun x => x.seq != 0).any
      fun x => x.queue == bits (ops 0 0 4 6) 19 3 && x.opc != 1) = true := by decide

theorem witness_mover_full : (({ xTile with mover := List.replicate 512 mreq } : Tile)).freeMover = 0 := by decide +kernel

theorem witness_mover_refused : bits (ops 0 0 5 4) 0 2 = 0 ∧ (0x200040 : W64).toNat / 2 ^ 20 % 128 = 2 ∧
    (0x200040 : W64).toNat / 2 ^ 27 = 0 ∧ (0x0005000000000048 : W64).toNat / 2 ^ 48 ≠ 0xFFFF ∧
    (0x0005000000000048 : W64).toNat / 2 ^ 48 ≠ ((lapOf xTile).issued hd).getF Reg.wtyNode ∧
    (0x0005000000000048 : W64).toNat % 64 ≠ 0 := by decide

def heldTile (failed : Bool) : Tile := { xTile with mover := [{ mreq with failed := failed }] }
def behindTile : Tile := { xTile with mover := [{ mreq with seq := 5 }, mreq] }
def sentTile (opc : Nat) : Tile := { xTile with mover := [{ mreq with opc := opc, state := .sent }] }

theorem witness_store_release : (lapOf (heldTile false)).alive = true ∧
    ((lapOf (heldTile false)).tile 5).mover.find? (fun x => x.seq == 9 && x.state == .held) = some mreq ∧
    ((lapOf (heldTile false)).tile 5).behind mreq = false ∧ ((lapOf (heldTile true)).tile 5).behind { mreq with failed := true } = false ∧
    ((lapOf behindTile).tile 5).behind mreq = true := by decide

theorem witness_mover_reply : (rep0.inc.toNat = (lapOf (sentTile 2)).incOf 5) ∧ rep0.status = 0 ∧
    (∃ m, (sentTile 2).mover.find? (fun m => m.seq == rep0.seq.toNat && m.state == .sent && m.opc == rep0.opc.toNat) = some m ∧
      m.opc = 2 ∧ m.retries = 0) ∧
    (∃ m, (sentTile 5).mover.find? (fun m => m.seq == rep0.seq.toNat && m.state == .sent && m.opc == 5) = some m) := by
  refine ⟨by decide, by decide, ⟨_, rfl, rfl, rfl⟩, ⟨_, rfl⟩⟩

theorem witness_lookaside : ∃ m ∈ ({ xTile with look := [], mover := [{ mreq with state := .entry }] } : Tile).mover,
    m.state = .entry ∧ granuleOf (gaLa m.ga) = (0 : GranuleN).val ∧ rgnValid ((lapOf xTile).region 0 |>.word 8) = false := by
  exact ⟨_, .head _, by decide, by decide, by decide⟩

def row0 : RowMove := ⟨false, 3, 2, 0x200, false, none, none, 0⟩
def rowTile (write granted hot : Bool) : Tile :=
  { xTile with rows := [{ row0 with write := write, granted := granted }], bank0 := some { img with hot := hot } }

theorem witness_row_moves : (lapOf xTile).acts hd 3 = true ∧ bits (ops 0 0 1 4) 12 3 = 0 ∧ bits (ops 0 0 1 4) 0 2 = 0 ∧
    (((lapOf xTile).issued hd).pre 5).s 1 = 0x200040 ∧ 16384 ≤ (0x200040 : W64).toNat ∧
    ((((lapOf xTile).issued hd).pre 5).s 7).toNat = 16384 ∧ ((((lapOf xTile).issued hd).pre 5).s 9).toNat < 16384 := by decide

theorem witness_row_grants : (lapOf (rowTile false false true)).alive = true ∧
    (lapOf (rowTile false false true)).sliceOpen 0 5 = true ∧ (lapOf (rowTile false false true)).isHot 5 = true ∧
    (lapOf (rowTile false false false)).isHot 5 = false ∧ governorAdmits [] 5 7 = true ∧
    governorAdmits [(1, 5), (2, 5)] 5 7 = false ∧ (lapOf (rowTile false false true)).getF (Reg.sliceState 0 5) ≠ 3 ∧
    (on [(Reg.sliceState 0 5, 3)] (lapOf (rowTile false false true))).getF (Reg.sliceState 0 5) = 3 ∧
    (rowTile false false true).rows.find? (fun r => !r.granted) = some row0 ∧
    (rowTile false true false).nextRow = some { row0 with granted := true } ∧
    (rowTile true true false).nextRow = some { row0 with write := true, granted := true } ∧
    (∀ i, i < 8 → (lapOf (rowTile false true false)).lineMark (0xF000000000 + 5 * 0x800000 + 3 * 0x200 + 64 * i) = 0) := by decide

/-- Two HOT tiles at one slice position apart: the one whose move is held from an earlier cycle goes first. -/
def heldPair : State :=
  ((on [(Reg.tilePhase 0 6, 2)] (lapOf (rowTile false false true))).setTile 6 { rowTile false false true with rows := [{ row0 with since := some 4 }] })

theorem witness_row_held : heldPair.alive = true ∧ heldPair.isHot 5 = true ∧ heldPair.sliceOpen 0 5 = true ∧
    heldPair.getF (Reg.sliceState 0 5) ≠ 3 ∧ (heldPair.tile 5).rows.find? (fun r => !r.granted) = some row0 ∧
    governorAdmits (heldPair.cdie 0).grants 5 7 = true ∧ heldPair.heldBefore 5 7 row0.since = true ∧
    heldPair.heldBefore 6 7 (some 4) = false ∧
    (lapOf (rowTile false false true)).heldBefore 5 7 row0.since = false := by decide +kernel

/-- An entry with RPT 1, LAST and key slot 2, in the bytes of R79; and what it spells. -/
def entryLine : List Byte := bytesOfNat 8 0x100 ++ bytesOfNat 8 77 ++ [1, 0, 1, 2] ++ List.replicate 12 0 ++ List.replicate 32 0
def entry0 : CourseEntry := ⟨0x100, 77, 2, false, 0, 0⟩
def member0 : Member := ⟨0, 3, 4, 0x1000, 0, 1, some entry0, none, 0, true, .idle, false, 0, 0, none⟩
def memberTile (m : Member) : Tile := { lapTile with member := some m, issueEnd := true }
/-- Tile 5 with a fetch whose one request has brought a status and these bytes. -/
def fetched (what : LFetch) (status : Nat) (bs : List Byte) (t : Tile) : Tile :=
  { t with loader := [⟨9, what, 0, 0x1000, bs.length / 64, 0, 600000, some (status, (linesOf (bs.length / 64) bs).map some)⟩] }

theorem test_entry_bytes : entryOfBytes entryLine = ⟨0x100, 77, 1, true, 2, 0⟩ ∧ (entryOfBytes (entryLine.set 18 3)).zeros ≠ 0 := by decide

/-- The entry's fetch: of a list at an even entry, so that the entry is the line's first half. -/
def entryLap (status : Nat) (bs : List Byte) : State :=
  lapOf (fetched .entry status bs (memberTile { member0 with nextEntry := 0, fetch := .entry, current := some entry0 }))

theorem witness_loader_entries : (entryLap 0 entryLine).alive = true ∧ ((entryLap 0 entryLine).tile 5).loaded .entry = some (0, entryLine) ∧
    ({ member0 with nextEntry := 0, fetch := .entry } : Member).entryOf entryLine = ⟨0x100, 77, 1, true, 2, 0⟩ ∧
    ({ member0 with nextEntry := 0 } : Member).stopping = none ∧ (entryLap 0 entryLine).phase 5 = 2 ∧
    ((entryLap 0 (entryLine.set 16 0)).tile 5).loaded .entry = some (0, entryLine.set 16 0) ∧
    (({ member0 with nextEntry := 0, fetch := .entry } : Member).entryOf (entryLine.set 16 0)).rpt = 0 ∧
    ((entryLap 0x11 entryLine).tile 5).loaded .entry = some (0x11, []) := by decide +kernel

/-- The bytes of an image of one bundle (R124). -/
def body0 : List Byte := bytesOfNat 16 5
def imageBytes0 (magic : Nat) (digest : BitVec 256) : List Byte :=
  bytesOfNat 4 magic ++ [1, 0, 0, 0] ++ bytesOfNat 4 1000 ++ [1, 0, 0, 0] ++ List.replicate 16 0 ++
    ([0, 0] ++ bytesOfNat 2 16384 ++ [7, 0, 0, 0]) ++ List.replicate 56 0 ++ bytesOfNat 32 digest.toNat ++ List.replicate 128 0 ++
    body0 ++ List.replicate 48 0
def image0 : LapImage := imageOfBytes (imageBytes0 0x504C4650 (digestOf body0))
def imageLap (status : Nat) (bs : List Byte) : State :=
  on [(Reg.pkgLevel, 1), (Reg.lapBudget, 2000)] (lapOf (fetched .image status bs (memberTile { member0 with fetch := .image })))

theorem witness_loader_images : ((imageLap 0 (imageBytes0 1 0)).tile 5).loaded .image = some (0, imageBytes0 1 0) ∧ member0.loaded = some entry0 ∧
    (imageLap 0 (imageBytes0 1 0)).fitCheck (imageOfBytes (imageBytes0 1 0)) ≠ 0 ∧ (imageLap 0 (imageBytes0 1 0)).phase 5 = 2 ∧
    ((imageLap 0x31 (imageBytes0 1 0)).tile 5).loaded .image = some (0x31, []) := by decide +kernel

theorem witness_image_fits : (on [(Reg.pkgLevel, 1), (Reg.lapBudget, 2000)] (lapOf lapTile)).fitCheck image0 = 0 := by decide +kernel

def refetchLap (status : Nat) : State :=
  lapOf (fetched .refetch status (imageBytes0 1 0) { lapTile with bank0 := some { img with bundles := 1, digest := digestOf body0 }, wait := some .refetch })

theorem witness_refetch : ((refetchLap 0).tile 5).wait = some .refetch ∧
    (refetchLap 0).curImg 5 = some { img with bundles := 1, digest := digestOf body0 } ∧
    ((refetchLap 0).tile 5).loaded .refetch = some (0, imageBytes0 1 0) ∧ ((refetchLap 0x31).tile 5).loaded .refetch = some (0x31, []) ∧
    bodyDigest (imageBytes0 1 0) 1 = digestOf body0 := by decide +kernel

def course0 : Course := ⟨0, 2, 7, 0x1000, 0, 8, true, false, 0, [5], [], [], [], 0⟩

/-- A claimed course of one ready member, at the lap instant. -/
def readyLap : State :=
  let s := on [(Reg.tilePhase 0 5, 1)] (lapOf { lapTile with member := some member0 })
  at_ (524288 + s.getF Reg.lapOffset) { s with courses := [course0] }

theorem witness_course_start : readyLap.alive = true ∧ readyLap.courses.find? (fun c => c.claimed && c.group == 0 && !c.running) = some course0 ∧
    course0.members.Nodup ∧ (∀ x ∈ course0.members, x < 4096) ∧
    (∀ x ∈ course0.members, readyLap.phase x = 1) ∧ member0.ready = true ∧ member0.loaded = some entry0 ∧ member0.current = none ∧
    readyLap.frameReached course0.startFrame = true ∧ readyLap.getF Reg.fabric = 2 ∧ readyLap.lateMembers course0 = [] ∧ readyLap.clk.running = true ∧ readyLap.clk.lapDue = false ∧
    readyLap.clk.now = readyLap.clk.tick + readyLap.getF Reg.lapOffset := by decide

theorem witness_lap_end : (lapOf (memberTile { member0 with current := some entry0 })).phase 5 = 2 ∧ entry0.last = false ∧
    member0.stopping = none ∧ (memberTile member0).issueEnd = true ∧ (memberTile member0).wait = none ∧ (memberTile member0).mover = [] ∧
    (memberTile member0).rows = [] ∧ (memberTile member0).sigs = [] ∧ member0.runsLeft = 0 ∧
    ((entryOfBytes entryLine).last = true) ∧ (∀ x ∈ (lapOf (memberTile { member0 with current := some (entryOfBytes entryLine) })).courses,
      x.claimed = true ∧ x.running = true) := by decide

theorem witness_lap_bound : img.bound < Max.max (lapTile.cycles) 1001 ∧ lapTile.boundSeen = false ∧
    (lapOf lapTile).cnt (Reg.tileCnt 0 5 6) < 2 ^ 48 - 1 ∧ (lapOf { lapTile with boundSeen := true }).alive = true := by decide

def started0 : Started := ⟨7, 0, 524288, 8, 0, 0, 0, 0, 0, none, [], 0, 0, false, false, false⟩

/-- A claimed course whose member has left. -/
def courseOver : State :=
  let s := { base with courses := [course0] }
  s.modSq 2 fun q => { q with started := [started0] }

theorem witness_course_complete : courseOver.alive = true ∧ courseOver.courses.find? (fun c => c.claimed && c.group == 0) = some course0 ∧
    (∀ u ∈ course0.members, (courseOver.tile u).member = none) ∧ course0.notBefore ≤ courseOver.clk.now ∧
    (∀ x ∈ courseOver.courses.erase course0, x.claimed = true ∧ x.running = true) ∧ course0.ring < 256 ∧ courseOver.started 2 7 = some started0 ∧
    started0.finished = false ∧ descFlag started0.line 2 = false := by decide +kernel

/-! ## Witnesses: the fabric, the store dies and the hubs -/

def setHub (p : Nat) (h : Hub) (s : State) : State := { s with fab := { s.fab with hubs := Tbl.put (fun _ => Hub.zero) s.fab.hubs p h } }
def setPair (x : Pair) (s : State) : State := { s with fab := { s.fab with pairs := Tbl.put (fun _ => Pair.zero) s.fab.pairs 1 x } }

/-- Hubs 0, 1, 16 and 28, their dies and stack controller 0 are in service, and the pair from port 0 to port 1 is trained. -/
def served : State :=
  setPair { Pair.zero with trained := true }
    (on [(Reg.hubState 0, 1), (Reg.hubState 1, 1), (Reg.hubState 16, 1), (Reg.hubState 28, 1), (Reg.sdState 0, 1), (Reg.sdState 1, 1),
      (Reg.dieState 16, 1), (Reg.dieState 28, 1), (Reg.scState 0, 1),
      (Reg.pairLanes 0 1, 255), (Reg.pairLanes 1 0, 255), (Reg.pairWidthF 0 1, 8), (Reg.pairWidthF 1 0, 8)] lap)

/-- A KIND 1 flit from port 0 to port 1, with its CRC. -/
def flit0 : Flit := fput (BitVec.ofNat 2048 (1 + 2 ^ 5)) 2016 32 (crcOf (BitVec.ofNat 2048 (1 + 2 ^ 5)))

def ready0 : ReadyFlit := ⟨2, 0, flit0⟩

set_option maxRecDepth 20000 in
theorem witness_flits_launch : served.alive = true ∧ served.launchHop 0 1 = some 1 ∧ served.launchFree 0 1 = true ∧
    (served.pair 0 1).pick (([ready0] ++ served.readyCopies 0 1).filter fun f => launchable 0 1 f.flit) = some ready0 ∧
    (let s := setPair { Pair.zero with trained := true, credits := [0, 40, 40, 2], replay := [(0, 0)] } served
     s.launchFree 0 1 = true ∧ (s.pair 0 1).pick (([ready0] ++ s.readyCopies 0 1).filter fun f => launchable 0 1 f.flit) = none ∧
      ready0 ∈ (([ready0] ++ s.readyCopies 0 1).filter fun f => launchable 0 1 f.flit) ∧ s.hasCredit 0 1 0 = false ∧
      s.hubUp 0 = true ∧ s.hubUp 1 = true ∧ (s.pair 0 1).credits.length = 4 ∧ (s.pair 0 1).owed.length = 4 ∧
      (s.pair 0 1).replay ≠ [] ∧ (s.pair 0 1).ackAt + 256 ≤ s.clk.now ∧ (at_ 255 s).clk.now < (s.pair 0 1).ackAt + 256) := by decide +kernel

/-- The pair (0, 1) with lane 3 masked, and the rings of its PL8 lane at a state; PL8's laser of colour 1 is lit. -/
def sparing (st : Nat) : State :=
  on ([(Reg.pl8For 0, 15), (Reg.lsrServing 257, 1)] ++
      [ringNo 0 8 0 0, ringNo 1 8 1 0].flatMap fun r => [(Reg.heatColour r, 1), (Reg.heatState r, st)])
    (setPair { Pair.zero with trained := true, masked := 8 } served)

theorem witness_pairs : (served.getF (Reg.pairSuspect 0 1)).testBit 3 = false ∧
    (setPair { Pair.zero with trained := true, errors := List.replicate 8 (3, 524000) } served).recentErrors 0 1 3 = 8 ∧
    served.recentErrors 0 1 3 < 8 ∧ (served.pair 0 1).trained = true ∧ (served.pair 1 0).trained = false ∧ served.carries = true ∧
    (on [(Reg.hubState 0, 0)] served).getF (Reg.hubState 0) = 0 ∧ 3 ≤ served.getF Reg.glbPhase := by decide +kernel

theorem witness_lane_spared : ((sparing 2).pair 0 1).trained = true ∧ (sparing 2).pl8Free 0 1 3 = true ∧
    (let l := ((sparing 2).lightLane 0 1).refreshLasers
     l.getF (Reg.lsrServing (256 + pairColour 0 1)) ≠ 0 ∧ (∀ r ∈ l.laneRings 0 1 8, l.getF (Reg.heatState r) = 2) ∧
      (l.laneRings 0 1 8).length = 2 ∧ l.pl8Free 0 1 3 = true) ∧
    (let l := ((sparing 1).lightLane 0 1).refreshLasers
     (sparing 1).pl8Free 0 1 3 = true ∧ ∃ r ∈ l.laneRings 0 1 8, l.getF (Reg.heatState r) ≠ 2) := by decide +kernel

/-- A flit whose CRC does not hold. -/
def badFlit : Flit := fput flit0 2016 32 1

set_option maxRecDepth 20000 in
theorem witness_mesh_hops : (meshPort 4 .east).isSome = true ∧ hopTakes flit0 = true ∧ hopTakes badFlit = false ∧
    ((List.replicate 8 badFlit ++ [flit0]).filter fun f => !hopTakes f).length = 8 ∧ (served.cdie 0).errors = [] := by decide +kernel

theorem witness_vlinks : served.alive = true ∧ Tbl.look (fun _ => 0) (served.vlink 0).spares 32 < 2 ∧ served.getF (Reg.vlinkWidth 0) ≠ 2 ∧
    (16 : Fin 33).val < (on [(Reg.vlinkGroups 0, 32)] served).getF (Reg.vlinkGroups 0) ∧ served.getF (Reg.meshRoute 0) = 0 ∧
    (on [(Reg.vlinkWidth 0, 2)] served).getF (Reg.vlinkWidth 0) = 2 ∧ (on [(Reg.vlinkWidth 0, 2)] served).getF (Reg.vlinkWidth 1) ≠ 2 ∧
    (on [(Reg.vlinkWidth 1, 2)] served).getF (Reg.vlinkWidth 1) = 2 := by decide +kernel

theorem witness_store_dies : (served.getF (Reg.sdState 0) = 1) ∧ served.getF (Reg.sliceState 0 5) = 0 ∧ (served.slice 0 5).copyTo = none ∧
    (served.slice 0 5).failed.length + [(1 : Fin 4608).val, 3000].length ≤ 64 ∧
    64 < ((List.range 65).map fun i => i + 2304).length ∧ halfFails ((List.range 65).map fun i => i + 2304) 0 ≤ 64 ∧
    (let s := { served with slices := Tbl.put (fun _ => Slice.zero) [] 5 ⟨[], some 288, 0⟩ }
     (s.slice 0 5).copyTo = some 288 ∧ s.getF (Reg.sliceState 0 5) ≠ 2) ∧
    served.answers (Reg.cd 0) = true ∧
    (let s := on [(Reg.sdState 0, 0)] { served with storeDies := Tbl.put (fun _ => StoreDie.zero) [] 0 ⟨0, 0, true, []⟩ }
     s.getF (Reg.sdState 0) = 0 ∧ (s.sdie 0).clearing = true ∧ s.getF (Reg.dieState 0) ≠ 2 ∧ s.getF (Reg.dieState 0) ≠ 4) ∧
    (on [(Reg.sdState 0, 2), (Reg.sdState (mirrorDie 0), 1)] served).getF (Reg.sdState (mirrorDie 0)) ≠ 0 ∧
    (let s := on [(Reg.pairWidthF 8 0, 8), (Reg.pairWidthF 8 1, 8), (Reg.pairWidthF 9 0, 8), (Reg.pairWidthF 9 1, 8)] served
     ∀ p ∈ [2 * mirrorDie 0, 2 * mirrorDie 0 + 1], ∀ q ∈ [0, 1], (s.nextHop p q).isSome = true) := by decide +kernel

def sig0 : Req := { req0 with ga := 7, opc := 0x18, operand := 3, lines := 0, data := [] }
def ledgerEntry0 : LedgerEntry := ⟨0xFFFF, 5, 0, 9, 5, 0, false, false, 3, 500000, false, 0, false, none, false, 0, false⟩
def waiter0 : Waiter := ⟨0xFFFF, 5, 0, 4, 7, 2⟩
def waiting : State := setHub 0 { Hub.zero with waiters := [waiter0], unmirrored := [⟨7, 3, none⟩] } (on [(Reg.wtyNode, 0)] served)

theorem witness_signals : served.alive = true ∧ reqMalformed sig0 0x18 = false ∧ reqMalformed { sig0 with opc := 0x19 } 0x19 = false ∧
    wordOk sig0.ga = true ∧ waiting.servesSync 0 sig0 = true ∧ waiter0 ∈ (waiting.hub 0).waiters ∧
    waiting.getF (Reg.hubState (0 ^^^ 1)) = 1 ∧ (on [(Reg.hubState 1, 0)] waiting).getF (Reg.hubState 1) ≠ 1 := by decide +kernel

theorem witness_signal_admitted : Admitted waiting 0x1000 sig0 := by unfold Admitted InTime; decide +kernel

theorem witness_signal_again : (let s := { waiting with fab := { waiting.fab with ledgers := [(0x1000, ⟨[{ ledgerEntry0 with opc := 0x18 }], 0⟩)] } }
     (afterRack s 0x1000 sig0).findEntry 0x1000 sig0 = some { ledgerEntry0 with opc := 0x18 } ∧
      (∀ u ∈ (s.hub 0).unmirrored, ∀ x, u.reply = some x → x.seq ≠ sig0.seq)) ∧
    (let a : Reply := { rep0 with srcNode := sig0.srcNode, opc := 0x18 }
     a.srcUnit = sig0.srcUnit ∧ a.seq = sig0.seq ∧ a.inc = sig0.inc) := by decide +kernel

theorem witness_waits : reqMalformed { sig0 with opc := 0x1A } 0x1A = false ∧ sig0.operand.toNat % 2 ^ 48 = 3 ∧ waiting.syncVal 7 < 3 ∧
    waiting.syncVal 7 ≠ 2 ^ 48 - 1 ∧ ({ sig0 with operand := 0 } : Req).operand.toNat % 2 ^ 48 ≤ waiting.syncVal 7 ∧
    waiting.turnHeld 0x1000 { sig0 with opc := 0x1A } = false ∧ waiting.actingHub ((7 : BitVec 16).toNat / 4096) = 0 ∧
    (waiting.hub 0).unmirrored.find? (fun y => y.counter == (7 : BitVec 16).toNat) = some ⟨7, 3, none⟩ := by decide +kernel

/-- A line of slice 0 of die 0 whose granule grants everything and is cached at its hub. -/
def memReq (opc : Nat) : Req :=
  { req0 with opc := BitVec.ofNat 16 opc, ga := 0xFFFF00F000000000, lines := 1, nflits := flitsFor 1 }
def sliceOps : State :=
  { served with
    regions := [(0x1E0000, openEntry)]
    fab := { served.fab with rgnCache := [(0x1000, [0x1E0000])] } }

theorem witness_slices : sliceOps.dieServes 0 = some 0 ∧ sliceOps.getF (Reg.sdState 0) ≠ 3 ∧ sliceOps.getF (Reg.sliceState 0 0) ≠ 3 ∧
    sliceOps.sliceOpen 0 0 = true ∧ (sliceOps.setValid 0xF000000000 true).lineValid 0xF000000000 = true ∧ gaLa (0xFFFF00F000000000 : W64) = 0xF000000000 := by decide +kernel

/-- The same flit as a first flit of two. -/
def flitOf2 : Flit := let f := fput flit0 (96 + 24) 8 2; fput f 2016 32 (crcOf f)

set_option maxRecDepth 20000 in
theorem witness_flits_arrive : served.hears 0 1 = true ∧ heardPort 1 1 = 0 ∧
    ([flit0, flitOf2].all fun f => crcOf f == flitCrc f && flitKind f == 1 && flitDest f == 1 && flitSrc f == 0 &&
      flitLinkSeq f == (served.pair 0 1).expect && flitOpc f != 0x21 && flitTc f == 0) = true ∧
    flitInc flit0 = served.incOf (flitUnit flit0) ∧ flitInc (fput flit0 56 8 9) ≠ served.incOf (flitUnit flit0) ∧
    completeMessage ((served.hub 1).accepted ++ [flit0]) flit0 = some (flit0, []) ∧
    completeMessage ((served.hub 1).accepted ++ [flitOf2]) flitOf2 = none ∧ crcOf badFlit ≠ flitCrc badFlit ∧
    (∃ c ∈ [(⟨true, true, [], []⟩ : CwRead)], c.failed = true) ∧ flitDest (fput flit0 0 5 2) ≠ 1 := by decide +kernel

theorem witness_store_passes : Passes sliceOps 2 (memReq 2) := by
  unfold Passes Admitted InTime
  decide +kernel

theorem witness_load_passes : Passes sliceOps 1 { memReq 1 with data := [], nflits := 1 } := by
  unfold Passes Admitted InTime
  decide +kernel

/-- A line of stack 0 that its coalescer holds whole. -/
def atomReq : Req :=
  { req0 with opc := 5, ga := 0xFFFF000000000040, lines := 0, nflits := 1, data := [], operand := 3 }
def stackOps : State :=
  { served with
    mem := { served.mem with valid := [(1, true)] }
    scs := [(0, { Sc.zero with cached := [0], fetching := [(1, 0)] })]
    regions := [(0, openEntry)]
    fab := { served.fab with rgnCache := [(0x1100, [0])] } }

theorem witness_atomics : stackOps.getF (Reg.scState 0) = 1 ∧ stackOps.getF (Reg.dieState 16) ≠ 5 ∧ stackOps.getF (Reg.vlinkWidth 16) ≠ 2 ∧
    (stackOps.sc 0).isCached 0 = true ∧ (stackOps.sc 0).holds 0 1 1 = true ∧ stackOps.canCoalesce 0 0 = true ∧
    stackOps.lineValid 0x40 = true ∧ stackOps.lineMark 0x40 = 0 := by decide +kernel
theorem witness_atomic_passes : Passes stackOps 5 atomReq := by
  unfold Passes Admitted InTime
  decide +kernel

theorem witness_regions : (8 : GranuleN).val % 8 = (0 : PortN).val / 2 ∧ served.getF (Reg.sdState 0) = 1 ∧ served.lookupHub 0 = true ∧
    lineBad .clean (entryOffset 0 8) 0 = false ∧ lineBad ⟨0, [0], []⟩ (entryOffset 0 8) 0 = true ∧ 8 ∉ (served.sdie 0).badEntries ∧
    ((4 : GranuleN).val % 8 ≠ 0 ∧ ((4 : GranuleN).val % 8 + 4) % 8 = 0 ∧ served.getF (Reg.sdState 4) ≠ 1) ∧
    (on [(Reg.sdState 0, 2)] served).getF (Reg.sdState 0) ≠ 1 ∧ served.entryDie 8 = some 0 ∧ base.entryDie 8 = none ∧
    served.fab.rgnWait = [] ∧
    (({ served with storeDies := Tbl.put (fun _ => StoreDie.zero) [] 0 ⟨0, 0, false, [8]⟩ } : State).sdie 0).badEntries = [8] ∧
    served.answers Reg.hawkBase = true ∧ served.getF Reg.hawkState ≠ 1 ∧ served.hawk.rgnStage.length < 4096 ∧
    (on [(Reg.hawkState, 1)] served).getF Reg.hawkState = 1 ∧
    4096 ≤ ({ served.hawk with rgnStage := List.replicate 4096 ⟨0, 0⟩ }).rgnStage.length ∧
    ({ served with regions := [(5, { openEntry with pending := true, atFrame := 8 })] }.region 5).pending = true ∧
    ((served.clk.frame : Int) - 8) % 2 ^ 16 < 2 ^ 15 := by decide +kernel

def lateTile (n : Nat) : Tile :=
  { xTile with mover := [{ mreq with state := .sent, retries := n, ga := 0, deadline := 524287 }] }

theorem witness_ledgers : (let s := { base with fab := { base.fab with ledgers := [(0x1100, ⟨[ledgerEntry0], 500000⟩)] } }
     (∃ e ∈ (s.ledger 0x1100).entries, e.isTag 0xFFFF 5 0 9 = true ∧ e.expires ≤ s.clk.now) ∧
      (∀ e ∈ (s.ledger 0x1100).entries, e.isTag 0xFFFF 5 0 9 = true → e.acked = false) ∧
      0 < (s.ledger 0x1100).quarantineEnd ∧ (s.ledger 0x1100).quarantineEnd ≤ s.clk.now) := by decide +kernel

theorem witness_reply_windows : (let s := lapOf (lateTile 1)
     let w := s.window (aimOf mreq.opc 0)
     let t0 := 524287 - (4 * w + 16000)
     4 * w + 16000 ≤ 524287 ∧ t0 + 2 * w ≤ s.clk.now ∧ t0 + 4 * w ≤ s.clk.now ∧ 524287 < s.clk.now ∧
      (let m : MReq := { mreq with state := .sent, retries := 1, ga := 0, deadline := 524287 }
       let target := s.moverReq 5 m m.deadline
       (∀ x ∈ s.targetRegions target, x ∉ s.clk.stopped) ∧ s.pausedSince target t0 = 0 ∧ s.unreachable target = false ∧
        ∃ x ∈ s.targetRegions target, x ∈ ({ s.clk with stopped := [0x101C] }).stopped)) ∧
    (let s := lapOf (lateTile 0)
     let m : MReq := { mreq with state := .sent, ga := 0, deadline := 524287 }
     (s.send (s.moverReq 5 m 524287)).unreachable (s.moverReq 5 m 524287) = true) := by
  decide +kernel

def spoke0 : SpokeOp := ⟨3, 2, 2, 5, 9, 0, 2, 0, 524000, 0, [7, 8], none, 0, 0, []⟩
def spoking (o : SpokeOp) : State := setHub 0 { Hub.zero with spokes := [o] } (on [(Reg.spkValid 1 2, 1), (Reg.spokePatience 0, 100)] served)
def spokeReq0 : Req := { req0 with opc := 0x20, replyPort := 0 }

theorem witness_spokes : (let s := spoking spoke0
     (s.hub 0).spoke 3 = some spoke0 ∧ spoke0.sent < spoke0.total ∧ s.hubServes 0 = true ∧ portsOf spoke0.targets = [1] ∧
      ((portsOf spoke0.targets).filter fun q => !s.spokeReady 0 spoke0.tc q) = [] ∧
      ((portsOf spoke0.targets).filter fun q => !(setPair Pair.zero s).spokeReady 0 spoke0.tc q) = [1] ∧
      spoke0.since + s.getF (Reg.spokePatience 0) ≤ s.clk.now ∧
      (∀ q ∈ portsOf spoke0.targets, 0x1000 + q ∉ s.clk.stopped)) ∧
    (let o := { spoke0 with sent := 2, acks := [(1, 0, 0), (1, 1, 0)] }
     ((spoking o).hub 0).spoke 3 = some o ∧ o.total ≤ o.sent ∧
      ∀ q ∈ portsOf o.targets, ∀ i, i < o.total → ∃ a ∈ o.acks, a.1 = q ∧ a.2.1 = i) := by decide +kernel

theorem witness_spoke_arrivals : (let s := spoking spoke0
     s.hubServes 1 = true ∧ s.spokeOf spokeReq0 = some (0, 3) ∧ reqMalformed spokeReq0 0x20 = false ∧ s.on (Reg.spkValid 1 2) = true ∧
      s.on (Reg.spkValid 1 4) = false ∧ (5, 9, 0) ∉ (s.hub 1).arrivals ∧ s.spokeAcked 0 3 1 0 = false ∧
      (spoking { spoke0 with acks := [(1, 0, 0)] }).spokeAcked 0 3 1 0 = true) := by decide +kernel

def plait0 : Plait := ⟨0, 0, 1, 2, 0, 0x1000, 0x2000, 7, none, 1, 6, 2, 7, [none], 1, 1, false, 0, 0, 0, 0, 0, []⟩
def plaitOps (x : Plait) : State :=
  { served with fab := { served.fab with plaits := [(4, some x)], route := [(4, some 0)] } }
def contribution (c : Nat) : Req := { req0 with opc := 0x10, operand := BitVec.ofNat 64 (4 + c * 2 ^ 16) }

theorem witness_plaits : (let s := plaitOps plait0
     s.hubServes 0 = true ∧ s.route 5 = none ∧ reqMalformed (contribution 1) 0x10 = false ∧ s.route 4 = some 0 ∧ s.actingHub 0 = 0 ∧
      Tbl.look (fun _ => none) s.fab.forwarders 4 = none ∧ (contribution 1).rack = none ∧ s.plait 4 = some plait0 ∧
      plait0.completed = false ∧ s.plaitExpired { plait0 with patience := 9 } = false ∧ (contribution 1).key = plait0.key ∧
      plait0.bitmap.testBit 1 = false ∧ plait0.bitmap.testBit 0 = true ∧ plait0.count + 1 = plait0.expect ∧
      ({ plait0 with expect := 3 } : Plait).count + 1 < 3 ∧ (contribution 1).lines = plait0.lines ∧
      plait0.patience ≠ 0 ∧ plait0.patience ≤ (s.clk.frame + 2 ^ 48 - plait0.frame % 2 ^ 48) % 2 ^ 48 ∧ s.plaitExpired plait0 = true ∧
      s.engine = [] ∧ (∀ p < 32, ∀ o ∈ (s.hub p).spokes, o.group ≠ some 4)) := by decide +kernel
theorem witness_plait_admitted : Admitted (plaitOps plait0) (plaitHolder 0) (contribution 1) := by
  unfold Admitted InTime
  decide +kernel

def rimOps (x : RimCh) : State :=
  setHub 0 { Hub.zero with rim := [(3, x)] } (on [(Reg.rimValid 0 3, 1), (Reg.rimMask 0 3, 1)] served)

theorem witness_rim_channels : (let s := rimOps { RimCh.zero with inbox := [(5, 9, false)], compIn := [(0, false)], waiting := [(5, 9)], flagWait := [(5, 9, 4)] }
     s.hubUp 0 = true ∧ s.rimHere 0 3 = true ∧ s.on (Reg.rimGen 0 3) = false ∧
      (s.chan 0 3).inbox.find? (fun a => a.2.2 == false) = some (5, 9, false) ∧ s.getF (Reg.rimArrived 0 3) < 511 ∧
      ((0 : Nat), s.on (Reg.rimGen 0 3)) ∈ (s.chan 0 3).compIn ∧
      (∀ q ∈ portsOf (s.getF (Reg.rimMask 0 3)), setOf q = setOf 0 ∨ setOf q ∈ (s.chan 0 3).comps) ∧
      (∃ q ∈ portsOf ((on [(Reg.rimMask 0 3, 1 + 2 ^ 9)] s).getF (Reg.rimMask 0 3)), ¬ (setOf q = setOf 0 ∨ setOf q ∈ (s.chan 0 3).comps)) ∧
      (let t := setHub 1 { Hub.zero with sets := [⟨5, 9, 3, 4, [0]⟩] } s
       ∃ q o, q < 32 ∧ o ∈ (t.hub q).sets ∧ o.ch = 3 ∧ o.value = 4 ∧ 0 ∈ o.remaining)) := by
  refine ⟨?_, ?_, ?_, ?_, ?_, ?_, ?_, ?_, 1, ⟨5, 9, 3, 4, [0]⟩, ?_⟩ <;> decide +kernel

/-- A flag set of node 6 on channel 3, which port 28 takes part in. -/
def nodeTag0 : NodeTag := ⟨6, 0x1210, 0, 9, 600000⟩
def rimNodes : State := on [(Reg.wtyNode, 5), (Reg.rimNodesValid 3, 1), (Reg.rimValid 28 3, 1), (Reg.rimMask 28 3, 2 ^ 28)] served

theorem witness_rim_nodes : rimNodes.hubUp 28 = true ∧ rimNodes.rimHere 28 3 = true ∧ rimNodes.on (Reg.rimNodesValid 3) = true ∧
    rimNodes.isHere nodeTag0.node.toNat = false ∧ Admitted rimNodes 0x1200 (rimNodes.nodeReq 3 nodeTag0) := by
  unfold Admitted InTime
  decide +kernel

theorem witness_hub_resets : served.answers (Reg.hub 0) = true ∧ served.getF (Reg.hubState 0) = 1 ∧ served.getF (Reg.hubState (0 ^^^ 1)) = 1 ∧
    served.on (Reg.ownByMirror 0) = false ∧ (served.hub 0).copied = false ∧
    (on [(Reg.hubState 0, 0)] served).getF (Reg.hubState 0) = 0 ∧ 3 ≤ served.getF Reg.glbPhase ∧
    (let s := setHub 0 { Hub.zero with copied := true } (on [(Reg.hubState 0, 2)] served)
     s.getF (Reg.hubState 0) = 2 ∧ (s.hub 0).copied = true ∧ s.clk.now = s.clk.tick) := by decide +kernel

/-! ## Witnesses: stacks, bring-up and registers -/

def commit0 : Commit := ⟨3, 0, List.replicate 64 (7, true, 0), [], 0, [5]⟩
def setSc (x : Sc) (s : State) : State := { s with scs := [(0, x)] }

theorem witness_stack_pages : (let s := setSc { Sc.zero with fetching := [(3, 0)], commits := [commit0], groups := [(5, ⟨0, 0, 300⟩), (6, ⟨0, 9, 256⟩)] } served
     (s.sc 0).fetching.find? (fun f => f.1 == 3) = some (3, 0) ∧ s.chanFailed 0 3 = false ∧ (s.sc 0).commits.find? (fun m => m.page == 3) = some commit0 ∧
      slotShown (.repeated 1 5 (.good 0)) = .good 0 ∧ slotShown .uncorrectable = .uncorrectable ∧ commit0.lines.length = 64 ∧ 256 ≤ ((s.sc 0).group 5).writes ∧ ((s.sc 0).group 5).gap = 0 ∧ 256 ≤ ((s.sc 0).group 6).writes ∧
      ((s.sc 0).group 6).gap ≠ 0 ∧ s.getF (Reg.scState 0) = 1) := by decide +kernel

theorem witness_flush : (on [(Reg.scState 0, 2)] served).getF (Reg.scState 0) = 2 ∧ ((on [(Reg.scState 0, 2)] served).sc 0).dirty = [] ∧
    ((setSc { Sc.zero with flushAt := some 5 } (on [(Reg.scState 0, 2)] served)).sc 0).flushAt = some 5 ∧
    (on [(Reg.scState 0, 2)] served).alive = true := by decide +kernel
theorem witness_channels (q : Nat) : (on [(Reg.scState 0, 2)] base).chanFailed 0 q = false := by
  have h : ∀ c, c < 128 → (on [(Reg.scState 0, 2)] base).getF (Reg.chanState 0 c) = 0 := by decide +kernel
  simp [State.chanFailed, h (pageChan q) (by unfold pageChan; omega)]

theorem witness_channel_signals : served.signalFails 0 3 5 < 8 ∧ served.getF (Reg.chanState 0 3) = 0 ∧ served.getF (Reg.chanSpares 0 3) < 2 ∧
    2 ≤ (on [(Reg.chanSpares 0 3, 2)] served).getF (Reg.chanSpares 0 3) ∧
    (setSc { Sc.zero with crcFails := List.replicate 8 (3, 5, 524000) } served).signalFails 0 3 5 = 8 := by decide +kernel

theorem witness_visits : served.visitKey 0 0 = passKey 0 Sc.zero.visits ∧ served.visitKey 0 0 = passKey 0 Sc.zero.verified ∧
    (0 : Nat) < slotCount ∧ slotCount ≤ ({ Sc.zero with verified := slotCount } : Sc).verified ∧
    (let s := setSc { Sc.zero with quota := 1, dirty := [⟨0, 0, 0, false⟩] } served
     0 < (s.sc 0).quota ∧ (s.sc 0).isDirty 0 = true ∧ s.visitKey 0 0 = passKey 0 (s.sc 0).visits ∧ s.getF (Reg.scState 0) = 1) ∧
    (on [(Reg.scVerifyActive 0, 1)] served).on (Reg.scVerifyActive 0) = true := by decide +kernel

theorem witness_stack_recovery :
    (let s := on [(Reg.scState 0, 0), (Reg.dieState 16, 0)] served
     s.getF (Reg.scState 0) = 0 ∧ s.getF (Reg.dieState 16) ≠ 1 ∧ s.on (Reg.identHeldOut 16) = false) ∧
    served.answers (Reg.sc 0) = true ∧ served.on (Reg.identHeldOut 16) = false ∧ served.on (Reg.scDiscard 0) = false ∧
    ((Sc.zero.resets).filter (fun t => decide (served.clk.now < t + 1000000000))).length < 2 ∧
    2 ≤ (([5, 6] : List Nat).filter (fun t => decide (served.clk.now < t + 1000000000))).length ∧
    (let s := on [(Reg.scDiscard 0, 1)] served
     s.on (Reg.scDiscard 0) = true ∧ s.answers (Reg.sc 0) = true ∧ (s.sc 0).resets = []) ∧
    (let s := on [(Reg.scState 0, 0), (Reg.scCtrlReset 0, 1)] served
     s.getF (Reg.scState 0) = 0 ∧ s.on (Reg.scCtrlReset 0) = true ∧ s.pins.pwrfailN = true ∧ (s.sc 0).cause ≠ 3 ∧
      ((setSc { Sc.zero with cached := [3], cause := 3 } s).sc 0).isCached 3 = true) ∧ State.reset.pins.pwrfailN = false := by decide +kernel

def report0 : PhaseReport := ⟨[], [], [], [], false, false, true, [true, true], [], [], [], 1⟩

theorem witness_power_up : State.reset.pins.feedA = false ∧ State.reset.pins.feedB = false ∧ (base.pins.feedA || base.pins.feedB) = true := by decide

theorem witness_bringup :
    (let s := { early 1 with clk := { base.clk with running := false } }
     s.alive = true ∧ s.clk.running = false ∧ s.getF Reg.glbPhase = 1) ∧
    (early 0).alive = true ∧ (early 0).getF Reg.glbPhase = 0 ∧ (early 0).identBad report0 32 = false ∧ report0.mastersFailed = false ∧
    (early 1).clk.running = true ∧ (early 2).getF Reg.glbPhase = 2 ∧ (early 3).getF Reg.glbPhase = 3 ∧
    (∃ d : DieN, (early 3).getF (Reg.dieState d) ≠ 5 ∧ d ∉ report0.failedDies) ∧
    (¬ ∃ d : DieN, (early 3).getF (Reg.dieState d) ≠ 5 ∧ d ∉ (List.finRange 8)) ∧ (early 4).getF Reg.glbPhase = 4 ∧
    (early 5).getF Reg.glbPhase = 5 ∧ (on [(Reg.restoreOpen, 0)] (early 5)).on Reg.restoreOpen = false ∧
    (on [(Reg.restoreOpen, 1)] (early 5)).on Reg.restoreOpen = true ∧ (early 6).getF Reg.glbPhase = 6 ∧ (early 7).getF Reg.glbPhase = 7 ∧
    10 ≤ base.getF Reg.glbPhase ∧
    (let s := on [(Reg.glbGateWaiting, 1)] (at_ 1000000000 base)
     s.on Reg.glbGateWaiting = true ∧ s.clk.gateAt + 1000000000 ≤ s.clk.now) := by decide +kernel

theorem witness_stacks_settled : (∀ k : StackN, (on ((List.range 12).map fun k => (Reg.scState k, 1)) (early 9)).getF (Reg.scState k) = 1) ∧
    (early 9).getF Reg.glbPhase = 9 := by decide +kernel

/-- Phase 8 with the hubs 0 and 28 in service. -/
def pairing : State := on [(Reg.hubState 0, 1), (Reg.hubState 28, 1)] (early 8)

set_option maxRecDepth 20000 in
theorem witness_io_pairs : pairing.getF Reg.glbPhase = 8 ∧ report0.noPair = false ∧ (pairing.phasePairs report0).ioPaired = true ∧
    ({ report0 with noPair := true } : PhaseReport).noPair = true := by decide +kernel

theorem witness_register_writes : base.answers 0x100000 = true ∧ base.answers 0x20000 = true ∧ (0x20003 : Nat) % 4 ≠ 0 ∧ BitsOnly 0x20000 ∧
    BitsOnly 0x20018 ∧ (regDesc 0x20000).rwh = 0 ∧ (regDesc 0x20018).rwh ≠ 0 ∧ (regDesc 0x20018).rw = 0 ∧ (regDesc 0x20018).w1c = 0 ∧
    base.getF Reg.hawkState ≠ 1 ∧ (on [(Reg.hawkState, 1)] base).getF Reg.hawkState = 1 ∧ base.answers 0x14 = true ∧
    base.answers 0x18008 = true ∧ served.answers (Reg.hub 0 + 4) = true ∧ base.answers 0x3020004 = true := by
  unfold BitsOnly
  decide +kernel

theorem witness_register_reads : base.hostReaches = true ∧
    (on [(Reg.identHeldOut 28, 1), (Reg.identHeldOut 29, 1)] base).hostReaches = false ∧ base.readable 0x20000 = true ∧
    (early 2).readable 0x1000000 = false ∧ isHi (regHome 0x20004) = true ∧
    isHi (regHome 0x20000) = false ∧ isLo (regHome 0x20000) = true ∧ ([0x10, 0, 0, 0] : List Byte).length = 4 ∧
    base.smbServes 0x10 = true ∧ base.smbServes 0x20000 = false ∧ base.smbServes 8 = true ∧ isHi (regHome 0x10) = false := by decide +kernel

/-! ## Witnesses: time and light -/

theorem witness_frames : base.alive = true ∧ base.clk.running = true ∧ ({ base with clk := { base.clk with lapDue := true } }).clk.lapDue = true ∧
    base.on Reg.masterSpare = false ∧ Tbl.look (fun _ => 0) base.clk.legFrame 3 = 0 ∧ Tbl.find base.light.cal (calKey 8 3) = none ∧
    (let s := { base with
       clk := { base.clk with frame := 2000, legFrame := [(4, 1999)] }
       light := { base.light with cal := [(calKey 8 3, 5)] } }
     Tbl.look (fun _ => 0) s.clk.legFrame 3 + 1024 ≤ s.clk.frame + 1 ∧ Tbl.look (fun _ => 0) s.clk.legFrame 4 ≠ 0 ∧
      s.clk.frame + 1 < Tbl.look (fun _ => 0) s.clk.legFrame 4 + 1024 ∧ Tbl.find s.light.cal (calKey 8 3) = some 5 ∧
      ((6 : Int) - 5).natAbs ≤ 1 ∧ ¬ ((7 : Int) - 5).natAbs ≤ 1 ∧ (7 : Int).natAbs ≤ 32 ∧ 32 < (33 : Int).natAbs) ∧
    lap.getF (Reg.dieState 0) = 1 ∧ (on [(Reg.masterSpare, 1)] base).on Reg.masterSpare = true ∧ base.clk.dead = false := by decide +kernel

theorem witness_reference : (on [(Reg.refOk, 1)] base).on Reg.refOk = true ∧ (500000 : Nat) + 640 ≤ base.clk.now ∧ 200000 < (200001 : Int).natAbs ∧
    ¬ 200000 < (200000 : Int).natAbs ∧ (on [(Reg.holdover, 1)] base).on Reg.holdover = true ∧ base.clk.lastEdge ≤ 5 ∧
    (5 : Nat) + 1000000 ≤ (at_ 1000005 base).clk.now ∧ base.clk.now < 5 + 1000000 ∧
    (on [(Reg.slewActive, 1)] base).on Reg.slewActive = true ∧ 625 * base.clk.slewOffset.natAbs ≤ 2 * (base.clk.now - base.clk.slewStart) := by
  decide +kernel

def armed0 : Armed := ⟨9, 589824, [], 0, true⟩

theorem witness_frequency : (let s := { base with hawk := { base.hawk with armed := some armed0 } }
     s.hawk.armed = some armed0 ∧ armed0.raises = true ∧ s.clk.ramp = .idle ∧ armed0.tick - 200000 < s.nextTick) ∧
    ({ base.clk with ramp := .raising }).ramp = .raising ∧
    (on [(Reg.memstopActive, 1)] base).on Reg.memstopActive = true ∧ base.clk.memWave = false ∧
    regionUnit (.hub 3) ∈ ({ base.clk with stopped := [0x1003] }).stopped ∧
    (on [(Reg.dieState 0, 1)] base).echoes 0 0 = true ∧ base.echoSince 0 0 + 2000 ≤ base.clk.now ∧
    (at_ 1999 base).clk.now < (at_ 1999 base).echoSince 0 0 + 2000 ∧
    Tbl.look (fun _ => 0) ({ base.clk with drift := [(0, 15)] }).drift (0 * 64 + 0) = 15 ∧ ({ base.clk with ramp := .lowering }).ramp = .lowering := by
  decide +kernel

def setLaser (x : Laser) (s : State) : State := { s with light := { s.light with lasers := [(5, x)] } }
def litBase : State := on [(Reg.lsrServing 5, 1)] base

theorem witness_lasers : litBase.lit 5 false = true ∧ litBase.fabricLit 5 = true ∧
    (let s := setLaser { Laser.zero with handover := some ⟨true, 0, true, 0⟩, outage := true } litBase
     (s.laser 5).handover = some ⟨true, 0, true, 0⟩ ∧ s.getF (Reg.lsrStep 5) + 1 < 64 ∧
      64 ≤ (on [(Reg.lsrStep 5, 63)] s).getF (Reg.lsrStep 5) + 1 ∧ (s.laser 5).outage = true) ∧
    litBase.on (Reg.lsrFailed 5 false) = false ∧ (litBase.laser 5).handover = none ∧ litBase.laserOk 5 true = true := by decide +kernel

def setHeat (r : Nat) (x : HeatRing) (s : State) : State := { s with light := { s.light with rings := [(r, x)] } }
def heat0 : HeatRing := HeatRing.zero

theorem witness_grid : (∃ e, litBase.calJudge .grid 5 20 20 = .ok e) ∧ (∃ c, litBase.calJudge .grid 5 2000 0 = .error c) :=
  ⟨⟨_, rfl⟩, ⟨_, rfl⟩⟩

theorem witness_rings : (on [(Reg.heatState 7, 2)] base).getF (Reg.heatState 7) = 2 ∧
    (let s := at_ 2000000 (setHeat 7 { heat0 with beyond := some 5, within := some 5 } (on [(Reg.heatState 7, 1)] base))
     s.getF (Reg.heatState 7) = 1 ∧ s.carries = true ∧ s.sweepTurn 7 = true ∧ s.ringFed 7 = true ∧ (s.heat 7).within = some 5 ∧
      s.lockedFor 7 = true ∧ (at_ 1000004 s).lockedFor 7 = false ∧ (s.heat 7).beyond = some 5 ∧ 5 + 1000000 ≤ s.clk.now ∧ (s.heat 7).fails = 0 ∧
      ¬ ((on [(Reg.heatState 7, 4)] s).getF (Reg.heatState 7) = 1 ∨ (on [(Reg.heatState 7, 4)] s).getF (Reg.heatState 7) = 3)) ∧
    ((setHeat 7 { heat0 with fails := 1, ambiguous := 1 } base).heat 7).fails = 1 ∧
    ((setHeat 7 { heat0 with fails := 1, ambiguous := 1 } base).heat 7).ambiguous ≠ 0 ∧ (base.heat 7).fails = 0 ∧ (base.heat 7).ambiguous = 0 := by
  decide +kernel

/-- Lane 3 of the pair (0, 1) masked, its rings locked, and the spares of its modulator's bus parked or in use. -/
def repairing (spares : Nat) (x : Repair) : State :=
  { on (([ringNo 0 3 0 0, ringNo 1 3 1 0].flatMap fun r => [(Reg.heatColour r, 1), (Reg.heatState r, 2)]) ++
      [(Reg.heatState (ringNo 0 3 0 31), spares), (Reg.heatState (ringNo 0 3 0 32), spares)])
      (setPair { Pair.zero with masked := 8 } base) with light := { base.light with repairs := [x] } }

theorem witness_repairs : (let s := setPair { Pair.zero with masked := 8 } base
     (s.pair 0 1).masked.testBit 3 = true ∧ s.repair 0 1 3 = none ∧ laneId 0 1 3 ∉ s.fab.lost ∧ laneId 0 1 3 ∉ s.light.laserMasked) ∧
    ([2, 3, 4, 5].all fun n =>
      let s := repairing 0 ⟨0, 1, 3, n, []⟩
      s.repair 0 1 3 == some ⟨0, 1, 3, n, []⟩ && (s.laneRings 0 1 3).length == 2 &&
        (s.laneRings 0 1 3).all fun r => s.getF (Reg.heatState r) == 2) = true ∧
    (repairing 0 ⟨0, 1, 3, 3, []⟩).freeRing 0 3 0 = some (ringNo 0 3 0 31) ∧ (repairing 2 ⟨0, 1, 3, 3, []⟩).freeRing 0 3 0 = none := by
  decide +kernel

theorem witness_calibration : (let s := { base with light := { base.light with cal := [(calKey 0 5, 1000)] } }
     Tbl.find s.light.cal (calKey 0 5) = some 1000 ∧ s.inHardRange .monitor 5 1000 = true ∧ inStep .monitor 1000 1000 = true ∧
      inStep .monitor 1000 2000 = false ∧ s.inHardRange .monitor 5 2000 = true ∧ repeats .monitor 2000 2000 = true ∧
      repeats .monitor 2000 1000 = false ∧ s.inHardRange .monitor 5 2001 = false ∧ Tbl.find s.light.cal (calKey 0 6) = none) ∧
    (on [(Reg.refvOk, 1)] base).on Reg.refvOk = true ∧ (on [(Reg.refvOk, 0)] base).on Reg.refvOk = false ∧ tracesToRefv .monitor = true ∧
    tracesToRefv .grid = false ∧ base.light.saveFrame = none ∧ ({ base.light with saveFrame := some 7 }).saveFrame = some 7 ∧ 7 < base.clk.frame ∧
    (on [(Reg.restoreOpen, 0)] base).on Reg.restoreOpen = false ∧ (on [(Reg.restoreOpen, 1)] base).on Reg.restoreOpen = true ∧ base.imageFault ≠ 0 := by decide +kernel

theorem witness_dark : base.getF Reg.fabric = 2 ∧ (on [(Reg.fabric, 3)] base).getF Reg.fabric = 3 ∧ base.quiet = true ∧ base.clk.now = base.clk.tick ∧
    (on [(Reg.fabric, 0)] base).getF Reg.fabric = 0 ∧ base.on Reg.glbReady = true ∧ (on [(Reg.fabric, 1)] base).getF Reg.fabric = 1 ∧
    (3 : PlaneN).val ∈ ({ waiting := [3], profile := 0 } : Relight).waiting := by decide +kernel

/-! ## Witnesses: the host interface -/

def linked : State := on [(Reg.portLink 0, 1), (Reg.portCache 0, 1)] served

theorem witness_ports : (4 ≤ base.getF Reg.glbPhase ∧ base.on (Reg.identHeldOut 28) = false ∧ base.linkUp 0 = false ∧
      Tbl.look (fun _ => false) base.pins.perst 0 = false ∧ base.getF (Reg.dieState 28) = 0) ∧ linked.linkUp 0 = true ∧
    linked.linkUp (1 - 0) = false ∧ linked.host.noLinkSince = none ∧ (0 : Nat) + 100000000 ≤ (at_ 100000000 base).clk.now ∧
    base.host.disabledRings = none := by decide +kernel

theorem witness_apertures : linked.linkUp 0 = true ∧ (on [(Reg.aperMoving 0, 1)] linked).on (Reg.aperMoving 0) = true ∧ linked.on (Reg.aperMoving 0) = false ∧
    linked.aperWriting 0 = false ∧ linked.heldAt 0 = [] ∧ linked.on (Reg.aperEnable 0) = false ∧
    (on [(Reg.aperEnable 0, 1)] linked).on (Reg.aperEnable 0) = true ∧ laReserved 0x40 = false ∧
    (on [(Reg.aperEnable 0, 1)] linked).getF (Reg.aperBlock 0) = 0 ∧ linked.answers (Reg.aperBlock 0).addr = true ∧ linked.aperBusy 0 = false ∧
    ({ linked with engine := [⟨0x1200, 1, .aperRead 0 1 0 64, req0, 0, true⟩] }).aperBusy 0 = true := by decide +kernel

def winReq (opc : Nat) : Req := { req0 with opc := BitVec.ofNat 16 opc, ga := 0xFFFF010000000000, data := if opc = 2 then [7] else [] }
def windowed : State := on [(Reg.winValid 0, 1), (Reg.winLog2 0, 20)] linked

theorem witness_windows : laIsWindow (gaLa (winReq 1).ga) = true ∧ laWin (gaLa (winReq 1).ga) = 0 ∧ windowed.isHere (gaNode (winReq 1).ga) = true ∧
    reqMalformed (winReq 1) 1 = false ∧ reqBadAddress (winReq 1) = 0 ∧ (winReq 1).remote = false ∧ windowed.on (Reg.winValid 0) = true ∧
    windowed.getF (Reg.winKey 0) = (winReq 1).key.toNat ∧ 0 + 64 * (winReq 1).lines ≤ 2 ^ windowed.getF (Reg.winLog2 0) ∧
    windowed.hostPort.isSome = true ∧ (∀ u ∈ [5, 0x1003], (0x1000 ≤ u ∧ u < 0x1020) ↔ u = 0x1003) ∧ (winReq 2).data.length ≤ 64 ∧
    reqMalformed { winReq 2 with nflits := flitsFor 1 } 2 = false := by decide +kernel
theorem witness_window_admitted : Admitted windowed (0x1200 + windowed.controller) (winReq 1) := by
  unfold Admitted InTime
  decide +kernel

/-! ## Witnesses: rings and descriptors -/

def ringed : State :=
  on [(Reg.sqState 0, 1), (Reg.sqInflight 0, 8), (Reg.sqLog2 0, 4), (Reg.cqValid 0, 1), (Reg.cqLog2 0, 4), (Reg.sqQuantum 0, 1),
    (Reg.evrValid, 1), (Reg.evrLog2, 6)] linked
def withSq (q : Sq) (s : State) : State := { s with host := { s.host with sq := [(0, q)] } }
def withCq (q : Cq) (s : State) : State := { s with host := { s.host with cq := [(0, q)] } }
def rec0 : Rec := ⟨0, 7, 0, 0, 0, 0, 524288, 0, false⟩

theorem witness_doorbells : ringed.getF (Reg.sqState 0) = 1 ∧ ringed.hostCache = true ∧ ringed.hostPort.isSome = true ∧
    (ringed.sq 0).tail ≠ (3 : W32).toNat ∧ ringed.answers (Reg.sq 0) = true ∧
    ringed.sqSize 0 < ahead 17 ((ringed.sq 0).next - (ringed.sq 0).queue.length) ∧ ringed.on (Reg.cqValid 0) = true ∧ ringed.on Reg.evrValid = true ∧
    ringed.ctl.startsStopped = false ∧ (ringed.sq 0).queue.length < 16 ∧
    ahead ((withSq { Sq.zero with tail := 3 } ringed).sq 0).tail ((withSq { Sq.zero with tail := 3 } ringed).sq 0).next ≠ 0 := by decide +kernel

theorem witness_ring_states : (let s := on [(Reg.sqState 0, 0)] ringed
     s.getF (Reg.sqState 0) = 0 ∧ s.on (Reg.cqValid (s.getF (Reg.sqCq 0))) = true ∧
      (on [(Reg.cqValid 0, 0)] s).on (Reg.cqValid (s.getF (Reg.sqCq 0))) = false) ∧
    (let s := on [(Reg.sqState 0, 2)] ringed
     s.getF (Reg.sqState 0) = 2 ∧ (s.sq 0).started = [] ∧ (s.sq 0).queue = []) := by decide +kernel

theorem witness_records : (let s := withCq ⟨0, [rec0], 1, 0⟩ ringed
     (s.cq 0).waiting = rec0 :: [] ∧ ahead (s.getF (Reg.cqWritten 0)) (s.cq 0).head < s.cqSize 0 ∧ 0 < (s.cq 0).since ∧
      (s.cq 0).firstAt + 1000 * s.getF (Reg.cqDelay 0) ≤ s.clk.now) ∧
    (let s := { ringed with ev := { ringed.ev with staged := [(28, [⟨0x1001, 5, 0xFFFF, 0, []⟩])] } }
     2 ≤ s.getF Reg.fabric ∧ s.evrNoRoom = false ∧ s.ev.lost = 0 ∧ s.stagedAt 28 = ⟨0x1001, 5, 0xFFFF, 0, []⟩ :: [] ∧
      s.cnt (Reg.ringCnt 8) + 1 < 2 ^ 48 - 1) := by decide +kernel

/-- A descriptor line from its fields: offset, width in bytes, value. -/
def descLine (l : List (Nat × Nat)) : Line := BitVec.ofNat 512 (l.foldl (fun a e => a + e.2 * 256 ^ e.1) 0)
def descOf (l : List (Nat × Nat)) : Desc := ⟨7, descLine l, 0, false⟩
def queued (d : Desc) : State := withSq { Sq.zero with queue := [d] } (on [(Reg.wtyNode, 0)] ringed)

def dNop : Desc := descOf []
def dLaunch : Desc := descOf [(0, 1), (12, 8), (16, 0x1000)]
def dCopy : Desc := descOf [(0, 2), (16, 0x10000), (24, 128)]
def dFill : Desc := descOf [(0, 3), (16, 128)]
def dRemote : Desc := descOf [(0, 4), (8, 5), (16, 0x1000)]
def dPlait : Desc := descOf [(0, 5), (8, 4), (12, 1), (14, 2), (22, 0xFFFF)]
def dSignal (mode : Nat) : Desc := descOf [(0, 6), (8, 3), (10, if mode = 2 then 0xFFFF else 0), (12, mode), (16, 4)]
def dWait (mode : Nat) : Desc := descOf [(0, 7), (8, 3), (12, mode), (16, 4)]
def dSnapshot (t : Nat) : Desc := descOf [(0, 8), (8, t), (24, 4096)]
def dAttest : Desc := descOf [(0, 9)]
def dFence : Desc := descOf [(0, 10)]

theorem witness_starts :
    ([(dNop, 0), (dLaunch, 1), (dCopy, 2), (dFill, 3), (dRemote, 4), (dPlait, 5), (dSignal 0, 6), (dSignal 1, 6), (dSignal 2, 6),
      (dWait 0, 7), (dWait 1, 7), (dWait 2, 7), (dSnapshot 0, 8), (dSnapshot 600000, 8), (dAttest, 9), (dFence, 10)].all fun (d, op) =>
        let s := queued d
        s.alive && s.canStart 0 == some d && descOpcode d.line == op && s.descFault 0 d == none && !(s.sq 0).started.any fun x => x.num == d.num) =
      true := by decide +kernel

theorem witness_descriptor_effects : (queued dCopy).getF (Reg.sqQuantum 0) ≠ 0 ∧ xferSrcHost dCopy.line = false ∧ xferSpoke dFill.line = false ∧
    xferDstHost dFill.line = false ∧ (∀ a < 128, laReserved (gaLa (BitVec.ofNat 64 a)) = false) ∧
    xferDst dFill.line = 0 ∧
    (on [(Reg.grpValid 0 0, 1), (Reg.mapValid 0 0, 1)] (queued dLaunch)).groupTiles (dfield dLaunch.line 8 2) ≠ [] ∧
    ((queued dRemote).isHere (gaNode (BitVec.ofNat 64 (dfield dRemote.line 16 8))) && laReserved 0x1000) = false ∧
    (queued dPlait).plaitArmed 4 = false ∧ ({ queued dPlait with fab := (plaitOps plait0).fab } : State).plaitArmed 4 = true ∧
    (queued (dWait 2)).rimHere (queued (dWait 2)).ringHub 3 = false ∧ (queued dPlait).awayHome 4 0 = none ∧
    (queued dPlait).plaitFits (dfield dPlait.line 10 1) (plaitBytes 0 1 1) = true ∧
    descMode (dSignal 1).line = 1 ∧ (queued (dWait 0)).isHere (dfield (dWait 0).line 10 2) = true ∧
    (queued (descOf [(0, 7), (10, 5)])).isHere 5 = false ∧
    (let s := on [(Reg.rimValid (queued dNop).ringHub 3, 1), (Reg.rimMask (queued dNop).ringHub 3, 2 ^ (queued dNop).ringHub)] (queued (dWait 2))
     s.rimHere s.ringHub 3 = true ∧ s.getF (Reg.rimFlag s.ringHub 3) < 4 ∧ 4 ≤ (on [(Reg.rimFlag s.ringHub 3, 4)] s).getF (Reg.rimFlag s.ringHub 3)) ∧
    dfield dFence.line 8 1 % 4 = 0 ∧ descFlag dNop.line 2 = false := by decide +kernel

def copying (quantum : Nat) (fail : Option (Nat × Nat × Nat)) (stopping : Bool) : Started :=
  ⟨7, dCopy.line, 0, 7, 0, 0, 0, quantum, 0, fail, [], 0, 0, false, stopping, false⟩
def busy (x : Started) : State := withSq { Sq.zero with started := [x] } ringed

theorem witness_quanta : (busy (copying 0 none false)).started 0 7 = some (copying 0 none false) ∧ descOpcode (copying 0 none false).line = 2 ∧
    (copying 0 none false).closedIn < ringed.clk.frame ∧ ringed.clk.now = ringed.clk.tick ∧
    (busy (copying 64 none false)).copying 0 7 = false ∧ xferLen dCopy.line = 128 ∧ (copying 128 none true).progress + 128 = 128 ∧
    (copying 64 (some (0, 0x11, 5)) false).fail = some (0, 0x11, 5) ∧
    (let x := { copying 0 none false with line := (descOf [(0, 7), (24, 1)]).line }
     descOpcode x.line = 7 ∧ dfield x.line 24 4 ≠ 0 ∧ x.startFrame + dfield x.line 24 4 ≤ ringed.clk.frame) := by decide +kernel

def bank0 (latched : Bool) : SnapBank := ⟨7, 1, 530000, latched, 8, [], []⟩

theorem witness_snapshots : (queued (dSnapshot 0)).freeBank = some 0 ∧ dfield (dSnapshot 0).line 8 8 < ringed.clk.now + 20000 ∧
    ringed.clk.now + 20000 ≤ dfield (dSnapshot 600000).line 8 8 ∧
    (let s := { busy { copying 0 none false with line := (dSnapshot 600000).line } with snaps := [(0, some (bank0 false))] }
     s.snap 0 = some (bank0 false) ∧ (bank0 false).at_ < s.nextTick ∧ s.clk.running = true) ∧
    (let s := { busy { copying 0 none false with line := (dSnapshot 600000).line } with snaps := [(0, some (bank0 true))] }
     s.snap 0 = some (bank0 true) ∧ s.hostPort.isSome = true ∧ (s.started 0 7).isSome = true ∧
      (s.gather (bank0 true)).1.length ≤ dfield (dSnapshot 600000).line 24 4) := by decide +kernel

def reporting : State :=
  { on [(Reg.keyPresent, 1)] (busy { copying 0 none false with line := (descOf [(0, 9), (48, 100000)]).line }) with
    sec := { ringed.sec with fuses := [(0, 1), (1, 1)], rngPass := [(0, true)] } }

theorem witness_attests : (queued dAttest).attestFault dAttest.line = some 0x11 ∧ reporting.attestFault (descOf [(0, 9), (48, 100000)]).line = none ∧
    reporting.saltReady = true ∧ reporting.on Reg.journalActive = false ∧ (7 : Nat) < reporting.clk.frame := by decide +kernel

def replied : State :=
  { busy { copying 0 none false with line := dRemote.line } with
    engine := [⟨0x1300, 9, .remote 7, req0, 0, true⟩], net := { ringed.net with replies := [{ rep0 with srcUnit := 0x1300 }] } }

theorem witness_replies : { rep0 with srcUnit := 0x1300 } ∈ replied.net.replies ∧ replied.isHere 0xFFFF = true ∧
    replied.engine.find? (fun e => e.unit == 0x1300 && e.seq == 9) = some ⟨0x1300, 9, .remote 7, req0, 0, true⟩ ∧ rep0.inc = req0.inc ∧
    (replied.started (0x1300 - 0x1300) 7).isSome = true := by decide +kernel

/-! ## Witnesses: Withy -/

def setFibre (x : WFib) (s : State) : State := { s with withy := { s.withy with fibres := [(2, x)] } }
def fib0 : WFib :=
  { WFib.zero with
    up := true, tx := List.range 16, rx := List.range 16, txHealthy := 2 ^ 18 - 1, replay := [(0, [])]
    errors := List.replicate 8 (3, 524000) }
def node5 : State :=
  setFibre fib0 (on [(Reg.wtyNode, 5), (Reg.fibEnable 0 2, 1), (Reg.fibState 0 2, 2), (Reg.fibHealthy 0 2, 2 ^ 18 - 2), (Reg.wtyAligned, 1),
    (Reg.fibPeerNode 0 2, 6)] linked)

theorem witness_fibres : node5.answers (Reg.wty 0) = true ∧ (on [(Reg.fibEnable 0 2, 0)] node5).on (Reg.fibEnable 0 2) = false ∧
    node5.getF Reg.wtyNode ≠ 0xFFFF ∧ node5.getF (Reg.fibState 0 2) ≠ 5 ∧ (on [(Reg.fibState 0 2, 1)] node5).getF (Reg.fibState 0 2) = 1 ∧
    (6 : BitVec 16).toNat ≠ node5.getF Reg.wtyNode ∧ (on ((List.range 18).map fun j => (Reg.lsrServing (288 + j), 1)) node5).withyOnGrid 0 = true ∧ positionsOf (2 ^ 18 - 1) ≠ [] ∧ positionsOf 1 = [] ∧
    (node5.fib 0 2).ackAt + (node5.fib 0 2).rtt + 1000 ≤ node5.clk.now ∧ 8 ≤ node5.colourErrors 0 2 3 ∧
    (node5.getF (Reg.fibHealthy 0 2)).testBit 3 = true ∧ (node5.fib 0 2).up = true ∧ (node5.fib 0 2).nakAt = none ∧ (node5.fib 0 2).replay ≠ [] ∧
    (node5.getF (Reg.fibHealthy 0 2)).testBit 1 = true ∧ (node5.fib 0 2).rx[0]? = some 0 ∧
    (node5.getF (Reg.fibHealthy 0 2)).testBit 0 = false ∧
    (coloursOf (node5.getF (Reg.fibHealthy 0 2))).find? (fun j => !decide (j ∈ (node5.fib 0 2).rx)) = some 16 ∧
    (let s := on [(Reg.fibHealthy 0 2, 2 ^ 16 - 2)] node5
     (coloursOf (s.getF (Reg.fibHealthy 0 2))).find? (fun j => !decide (j ∈ (s.fib 0 2).rx)) = none ∧ (s.fib 0 2).rx.length = 16 ∧
      8 ≤ (coloursOf (s.getF (Reg.fibHealthy 0 2))).length) ∧
    (let s := at_ 1000000 (setFibre WFib.zero (on [(Reg.fibState 0 2, 1)] node5))
     (s.fib 0 2).up = false ∧ (s.fib 0 2).down = false ∧ (s.fib 0 2).trainSince + 1000000 ≤ s.clk.now) := by decide +kernel

def withyFlit0 : WithyFlit := ⟨6, 5, 3, 9, 0, 1, 0, false, 0, 0, true, 0⟩
def routed : State :=
  { node5 with withy := { node5.withy with routes := [(6, (4#32, 0x80000006#32))], transit := [(0, withyFlit0)] } }

theorem witness_withy_flits : withyFlit0.destNode.toNat ≠ routed.getF Reg.wtyNode ∧ withyCont withyFlit0 = false ∧
    routed.usableFibres (routed.getF Reg.wtyActive) 6 = [2] ∧ routed.fibreTakes 2 0 = true ∧ routed.getF (Reg.fibState 0 2) = 2 ∧
    node5.usableFibres 0 6 = [] ∧ (routed.usableFibres 0 6).filter (fun k => k / 16 == 0) = [2] ∧ withyFlit0.reply = true ∧
    ({ withyFlit0 with hops := 3 } : WithyFlit).hops = 3 := by decide +kernel

/-- The data symbols that carry a codeword's stream, behind its two control symbols: PHASE in bit 0, CW_SEQ in bits [18:1],
SEQUENCED in bit 19 (R362). -/
def wordOf (control : Nat) (stream : List Byte) : List (BitVec 10) :=
  (wordRead false [] (BitVec.ofNat 20 control) (cwData stream)).symbols

/-- Two flits for node 6 and the first half of a third; the second time the CRC of the first does not hold. -/
def wordStream0 (ok : Bool) : List Byte :=
  let f := withyBytes withyFlit0
  (if ok then f else f.set 255 (f.getD 255 0 ^^^ 1)) ++ f ++ List.replicate 128 0

set_option maxRecDepth 20000 in
theorem witness_withy_words :
    (let got := fun w => (wordFlits (node5.fib 0 2).rest w).1.map withyOf
     wordSequenced (wordOf (2 ^ 19) (wordStream0 true)) = true ∧ wordSeq (wordOf (2 ^ 19) (wordStream0 true)) = (node5.fib 0 2).expect ∧
      wordSeq (wordOf (2 ^ 19 + 2) (wordStream0 true)) ≠ (node5.fib 0 2).expect ∧
      got (wordOf (2 ^ 19) (wordStream0 true)) = [withyFlit0, withyFlit0].map some ∧ none ∈ got (wordOf (2 ^ 19) (wordStream0 false))) := by
  decide +kernel

def inbound : Req := { req0 with srcNode := 6, deadline := 600000 }
def proxied0 : Proxied := ⟨0, 6, 5, 0, 9, 0, 2, 9, 600000⟩
def proxying : State :=
  { node5 with
    withy := { node5.withy with proxied := [proxied0] }
    engine := [⟨0x1210, 9, .proxy 6 5 0 9, req0, 0, true⟩] }

/-- A request of node 6 that one flit spells; as its first flit says, it has one, or two. -/
def asm0 (reply : Bool) (flits : Nat) : Assembly :=
  let payload := if reply then replyPayload { rep0 with srcNode := 5 } + (flits - 1) * 2 ^ 32
    else reqPayload { inbound with nflits := flits }
  ⟨0, if reply then 5 else 6, 5, 0, 9, reply, 0, [⟨5, 6, 5, 9, 0, 1, if reply then 1 else 0, false, 0, 0, reply, BitVec.ofNat 1920 payload⟩]⟩
def assembling (a : Assembly) : State := { node5 with withy := { node5.withy with asm := [a] } }

theorem witness_inbound : node5.isHere inbound.srcNode.toNat = false ∧ node5.assembledReq 0 inbound = some inbound ∧ inbound.rack = none ∧
    node5.proxiedFor 0 inbound = none ∧ proxyRefuses inbound = false ∧ proxyRefuses { inbound with ga := 0xFFFFF51000000000 } = true ∧
    Admitted node5 0x1200 { inbound with deadline := ((inbound.deadline : Int) - node5.wtyOffset).toNat } ∧
    Admitted node5 0x1200 { inbound with
      ga := 0xFFFFF51000000000, deadline := ((inbound.deadline : Int) - node5.wtyOffset).toNat } := by
  unfold Admitted InTime
  decide +kernel

theorem witness_assemblies : ((assembling (asm0 false 1)).assembledReq 0 inbound = some { inbound with nflits := 1 }) ∧
    (assembling (asm0 false 2)).assembledReq 0 inbound = none ∧
    ((assembling (asm0 true 1)).assembledReply 0 { rep0 with srcNode := 5 }).isSome = true ∧
    (assembling (asm0 true 2)).assembledReply 0 { rep0 with srcNode := 5 } = none ∧
    (∃ a ∈ (assembling (asm0 false 2)).withy.asm, a.die = 0 ∧ a.node = 6 ∧ a.unit = 5 ∧ a.inc = 0 ∧ a.seq = 9 ∧
      a.first + 64000 ≤ (assembling (asm0 false 2)).clk.now ∧ a.message = none) := by decide +kernel

theorem witness_proxies : proxying.withy.proxied.find? (fun p => p.die == 0 && p.localSeq == 9) = some proxied0 ∧
    proxying.engine.find? (fun e => e.unit == proxyUnit 0 && e.seq == 9) = some ⟨0x1210, 9, .proxy 6 5 0 9, req0, 0, true⟩ ∧
    (0x1210 : BitVec 16).toNat = proxyUnit 0 ∧ proxied0.node = 6 ∧ node5.isHere 5 = true ∧ node5.getF (Reg.hubState 0) ≠ 3 := by decide +kernel

theorem witness_time : (let s := on [(Reg.wtyDraining, 1)] node5
     s.on Reg.wtyDraining = true ∧ s.withy.flipFrame + 4 ≤ s.clk.frame) ∧ node5.answers node5.wtyBlock = true ∧
    (on [(Reg.wtyRtVersion, 1)] node5).getF Reg.wtyRtVersion ≠ (on [(Reg.wtyRtVersion, 1)] node5).getF Reg.wtyActive ∧
    node5.on Reg.wtyDraining = false ∧ node5.getF Reg.wtyRtVersion = node5.getF Reg.wtyActive ∧
    (on [(Reg.wtyTimeEnable, 1)] node5).on Reg.wtyTimeEnable = true ∧ node5.withy.exchangedAt + 65536 ≤ node5.clk.now ∧
    (on [(Reg.wtyParent, 5)] node5).getF Reg.wtyParent = node5.getF Reg.wtyNode ∧
    (on [(Reg.wtyParent, 6)] node5).fibresTo 6 ≠ [] ∧ (on [(Reg.wtyParent, 7)] node5).fibresTo 7 = [] ∧ node5.on Reg.wtyParentLost = false ∧
    ({ node5.withy with cutAt := some 0 } : Withy).cutAt = some 0 ∧ (0 : Nat) + 1000000 ≤ (at_ 1000000 node5).clk.now ∧
    (on [(Reg.wtyParentLost, 1)] node5).on Reg.wtyParentLost = true ∧ node5.on Reg.wtyAligned = true ∧
    (0 : Nat) + 400000000 ≤ (at_ 400000000 node5).clk.now := by decide +kernel

/-- A measured offset that agrees with the offset in force, and one that does not. -/
theorem witness_exchange : ∃ sent pin pout : Int, measuredOffset sent pin pout node5.clk.now = 0 ∧
    slewed node5.wtyOffset 0 (node5.clk.now - node5.withy.exchangedAt) = 0 := by
  refine ⟨524280, 524282, 524286, ?_, ?_⟩ <;> decide +kernel

theorem witness_joins : node5.isHere 6 = false ∧ node5.plait 4 = none ∧ (plaitOps plait0).plait 4 = some plait0 ∧ plait0.phase ≠ 4 ∧
    (({ node5 with fab := { node5.fab with forwarders := [(4, some ⟨6, 1, 0, 2, 0, 7, 0, 7, true⟩)] } }).forwarder 4).isSome = true ∧
    (let s := on [(Reg.rimNodesValid 3, 1), (Reg.rimRoot 3, 5), (Reg.rimNodes 3, 2)]
       { node5 with fab := { node5.fab with rimNet := [(3, ⟨true, false, [5], []⟩)] } }
     s.on (Reg.rimNodesValid 3) = true ∧ (s.rimNet 3).sent = true ∧ s.isHere (s.getF (Reg.rimRoot 3)) = true ∧
      s.getF (Reg.rimNodes 3) ≤ (addTo (s.rimNet 3).nodes 6).length ∧ (addTo (s.rimNet 3).nodes 6).length < (on [(Reg.rimNodes 3, 3)] s).getF (Reg.rimNodes 3) ∧
      (on [(Reg.rimRoot 3, 6)] s).isHere 6 = false) := by decide +kernel

theorem witness_node_arrivals : Admitted node5 0x1200 (node5.nodeReq 3 nodeTag0) := by
  unfold Admitted InTime
  decide +kernel

/-! ## Witnesses: isolation, control, the hawk and security -/

def setCDie (x : CDie) (s : State) : State := { s with cdies := [(0, x)] }

theorem witness_isolation : served.getF (Reg.dieState 0) = 1 ∧
    (let s := setCDie { CDie.zero with fencedAt := some 500000 } served
     (s.cdie 0).fencedAt = some 500000 ∧ (s.cdie 0).fenceDone = false ∧ 500000 + 16000 ≤ s.clk.now) ∧
    (let s := setCDie { CDie.zero with fencedAt := some 500000, fenceDone := true } (on [(Reg.dieState 0, 2), (Reg.autoRejoin, 1)] served)
     s.getF (Reg.dieState 0) = 2 ∧ s.on Reg.autoRejoin = true ∧ (s.cdie 0).fenceDone = true ∧ (s.cdie 0).shutdown = false) ∧
    (let s := on [(Reg.dieState 0, 3)] served
     s.getF (Reg.dieState 0) = 3 ∧ s.getF (Reg.sdState 0) = 1) ∧
    (on [(Reg.feedOk 0, 1)] base).on (Reg.feedOk 0) = true ∧ (on [(Reg.feedOk 0, 0)] base).on (Reg.feedOk 0) = false ∧
    base.on (Reg.pwrRegFailed 3) = false := by decide +kernel

def copy0 : Copy := ⟨[], [], none, none, []⟩
def pair0 : State := on [(Reg.dieState 28, 1), (Reg.dieState 29, 6), (Reg.hlthStandby, 2)] base

theorem witness_control : ({ pair0.ctl with sending := some copy0 }).sending = some copy0 ∧ pair0.getF Reg.hlthStandby ≠ 0 ∧ pair0.controller = 0 ∧
    pair0.standbyDie = 1 ∧ (∀ u ∈ pair0.clk.stopped, u ≠ 0x1200 ∧ u ≠ 0x1201) ∧ 16 ≤ ({ pair0.ctl with missed := 16 }).missed ∧
    (on [(Reg.lsrServing 288, 1), (Reg.lsrServing 307, 1)] pair0).shadowLit = true ∧ pair0.shadowLit = false ∧ (on [(Reg.clockLost 28, 1)] pair0).activeDead = true ∧ pair0.activeDead = false ∧
    pair0.getF (Reg.dieState (28 + 1)) = 6 ∧ ({ pair0.ctl with takeover := some 1 }).takeover = some 1 ∧
    (let s := on [(Reg.hlthStandby, 0), (Reg.dieState 29, 0)] pair0
     s.getF Reg.hlthStandby = 0 ∧ (∀ x ∈ [5, 6], s.getF (Reg.dieState (28 + s.standbyDie)) ≠ x) ∧ 4 ≤ s.getF Reg.glbPhase ∧
      s.getF Reg.glbPhase ≠ 15 ∧ s.on (Reg.identHeldOut (28 + 1)) = false) ∧
    (let s := on [(Reg.hlthStandby, 1)] { pair0 with clk := { pair0.clk with now := 100000000, frame := 1525 } }
     s.getF Reg.hlthStandby = 1 ∧ s.ctl.joinAt + 100000000 ≤ s.clk.now ∧ s.ctl.joinFrame + 1024 ≤ s.clk.frame) ∧
    (let s := on [(Reg.preferred, 1)] pair0
     s.handDue = true ∧ s.ctl.startsStopped = false ∧ s.clk.running = true ∧ s.ctl.handTick ≤ s.clk.tick) ∧
    pair0.getF (Reg.dieState (28 + 0)) ≠ 5 := by decide +kernel

def check0 : Check := ⟨524288, 12, 786432⟩

theorem witness_hawk : base.answers Reg.hawkBase = true ∧ base.getF Reg.hawkState ≠ 1 ∧ base.getF Reg.hawkState ≠ 2 ∧
    (on [(Reg.hawkState, 1)] base).getF Reg.hawkState = 1 ∧ ({ armed0 with tick := 600000 } : Armed).tick ≤ 600000 ∧ armed0.tick = 589824 ∧
    base.clk.now + 60000 ≤ armed0.tick ∧ armed0.tick < (at_ 589824 base).clk.now + 60000 ∧
    ({ base.hawk with check := some check0 }).check = some check0 ∧
    (∀ r ∈ base.hawkRules check0, r.2.1 = false) ∧ (∃ s : State, ∃ c, ∃ r, (s.hawkRules c).find? (fun r => r.2.1) = some r) := by
  refine ⟨by decide +kernel, by decide +kernel, by decide +kernel, by decide +kernel, by decide +kernel, by decide +kernel, by decide +kernel,
    by decide +kernel, by decide +kernel, by decide +kernel, base, ⟨524288, 8, 524288⟩, ?_⟩
  exact Option.isSome_iff_exists.mp (by decide +kernel)

def sealed : State :=
  { on [(Reg.sealIntact, 1), (Reg.rngOk, 1)] base with sec := { base.sec with fuses := [(0, 1), (1, 1)] } }

theorem witness_security : sealed.ioOut 0 = false ∧ 2 < sealed.getF Reg.glbPhase ∧ sealed.on Reg.sealIntact = true ∧
    sealed.answers Reg.secBase = true ∧ sealed.getF Reg.secCmdState = 0 ∧ sealed.on Reg.journalActive = false ∧
    allowedStep (lifecycleOf sealed.fuseCount) 2 = true ∧ sealed.fuseCount ≠ 15 ∧ sealed.on Reg.rngOk = true ∧
    (on [(Reg.sealIntact, 0), (Reg.sealBrokenSeen, 1)] sealed).on Reg.sealIntact = false ∧
    (on [(Reg.sealIntact, 0), (Reg.sealBrokenSeen, 1)] sealed).on Reg.sealBrokenSeen = true ∧
    (let s := at_ 30000000000 { on [(Reg.secCmdState, 2)] sealed with sec := { sealed.sec with released := true, code := 1, target := 2 } }
     s.getF Reg.secCmdState = 2 ∧ s.sec.released = true ∧ s.sec.openAt + 30000000000 ≤ s.clk.now ∧ s.sec.holdAt + 2000000000 ≤ s.clk.now ∧
      s.sec.holdAt + 2000000000 ≤ s.sec.openAt + 30000000000 ∧
      s.sec.code = 1 ∧ 1 ≤ s.sec.target ∧ s.sec.target ≤ 3) ∧
    (let s := { sealed with sec := { sealed.sec with copies := [(0, ⟨none, [], [], some (2, 1), none⟩)] } }
     s.store.journal = some (2, 1) ∧ s.on Reg.glbReady = true) := by decide +kernel

/-! ## Witnesses: steps and frames -/

theorem witness_step : ({ base with pending := [.frameTick] } : State).pending = .frameTick :: [] ∧ base.pending = [] := by decide +kernel

theorem witness_stilled : Stilled State.reset ∧ ∃ t, step State.reset = .next t :=
  ⟨⟨by decide +kernel, by intro a b; exact List.not_mem_nil⟩, _, rfl⟩

theorem witness_frames_of_slots : lap.acts hd 0 = true ∧ (∃ k, exec (.add hd (ops 7 1 2 0)) lap = .next k) ∧ Instr.add hd 0 ∈ sCommands hd 0 ∧
    Instr.vadd hd 0 ∈ vCommands hd 0 ∧ Instr.mma hd 0 ∈ mCommands hd 0 ∧ Instr.plait hd 0 ∈ xCommands hd 0 := by
  refine ⟨by decide +kernel, ⟨_, rfl⟩, by decide +kernel, by decide +kernel, by decide +kernel, by decide +kernel⟩

theorem witness_memory_frame : mayStore (.add hd 0) = false ∧ controlSide (.thermTrip 3 true) = true ∧
    (∃ t, exec (.thermTrip 3 true) base = .next t) := ⟨rfl, rfl, _, rfl⟩

theorem witness_region_entries : (∀ e ∈ ({ base with regions := [(5, { openEntry with pending := true, atFrame := 8 })] } : State).regions,
      e.1 = (5 : GranuleN).val → e.2 = ({ base with regions := [(5, { openEntry with pending := true, atFrame := 8 })] } : State).region 5) ∧
    base.clk.frame ≤ 9 ∧ 9 < base.clk.frame + 2 ^ 14 ∧ ((base.clk.frame : Int) - 8) % 2 ^ 16 < 2 ^ 14 := by decide +kernel

theorem witness_control_gap : base.controlGap = false ∧ (on [(Reg.dieState 28, 4)] base).controlGap = true := by decide +kernel

/-! ## Single steps and known values -/

/-- The state that a step answers. -/
def after (c : Instr) (s : State) : State := match exec c s with | .next t => t | _ => s
/-- Scalar register 7 of tile 5 after one slot. -/
def s7 (c : Instr) : W64 := ((after c lap).tile 5).s 7

/- s1 = 3, s2 = 5 (hand calculation from R107). -/
theorem test_add : s7 (.add hd (ops 7 1 2 0)) = 8 := by decide +kernel
theorem test_sub_wraps : s7 (.sub hd (ops 7 1 2 0)) = 0xFFFFFFFFFFFFFFFE := by decide +kernel
theorem test_mulhu : s7 (.mulhu hd (ops 7 4 2 0)) = 4 := by decide +kernel
theorem test_sar_sign : s7 (.sar hd (ops 7 4 1 0)) = 0xFFFFE00000000008 := by decide +kernel
theorem test_addi_negative : s7 (.addi hd (BitVec.ofNat 22 (7 * 2 ^ 17 + 1 * 2 ^ 12 + 0xFFF))) = 2 := by decide +kernel
theorem test_movi_negative : s7 (.movi hd (BitVec.ofNat 22 (7 * 2 ^ 17 + 0x1FFFF))) = 0xFFFFFFFFFFFFFFFF := by decide +kernel
theorem test_store_load : (let t := after (.st hd (BitVec.ofNat 22 (1 * 2 ^ 17 + 2 * 2 ^ 12 + 1))) lap
    t.rdByte (spadBase 5 + 8) = 3 ∧ t.rdByte (spadBase 5 + 9) = 0 ∧ Memory.wf t.mem.bytes = true) := by decide +kernel

/- The check value of the CRC-32 of IEEE 802.3 over the digits 1 to 9. -/
theorem test_crc : crc32 [0x31, 0x32, 0x33, 0x34, 0x35, 0x36, 0x37, 0x38, 0x39] = 0xCBF43926#32 := by decide +kernel
/- The first bytes of SHAKE256 of the empty string. -/
theorem test_shake : (shake256 []).take 4 = [0x46, 0xB9, 0xDD, 0x2B] := by decide +kernel

/- The bundle b07 of 04: S = 0x0096_B600, X = 0x0040_0598, the other two slots NOP; its 16 body bytes as listed there. -/
theorem test_bundle_b07 :
    (let b : BitVec 128 := BitVec.ofNat 128 (natOfBytes [0x00, 0xB6, 0x96, 0x00, 0, 0, 0, 0, 0, 0, 0, 0, 0x98, 0x05, 0x40, 0x00])
     bundleSlot b .s = 0x0096B600 ∧ bundleSlot b .x = 0x00400598 ∧
      decodeBundle hd b = [.add hd (ops 11 11 12 0), .nop { hd with fresh := false } .v 0, .nop { hd with fresh := false } .m 0,
        .load { hd with fresh := false } (ops 0 0 11 (6 * 4))]) := by decide +kernel

/- Opcode 0x3F is in no table of 04; 0x02 of the S slot is ADD, and 0 is NOP (R107). -/
theorem test_opcodes : opReserved .s 0x3F = true ∧ opReserved .x 0x3F = true ∧ opReserved .s 0x02 = false ∧ opReserved .s 0 = false := by
  decide +kernel

/- The check value of CRC-32C over the digits 1 to 9. -/
theorem test_crc32c : crc32c [0x31, 0x32, 0x33, 0x34, 0x35, 0x36, 0x37, 0x38, 0x39] = 0xE3069283#32 := by decide +kernel

/- At W = 8, symbol 0 is on the first lane and symbol 543 on the last, and each lane carries 544 / 8 = 68 symbols (R190). -/
theorem test_codeword_lanes : cwLane 8 0 = 0 ∧ cwLane 8 543 = 7 ∧ (dealt 8 (List.replicate 544 0) 3).length = 68 := by decide +kernel

/- From the router of site 0 to the tile of site 20, in row 1 and column 2: along the row, then along the column (R70). -/
theorem test_mesh_way : meshWay [] 40 0 (.tile 20) = [(0, .east), (1, .east), (2, .north), (20, .tile)] := by decide +kernel

/- 1 + 2 = 3 and 1 + 2^-24 rounds to 1 in binary32; the largest binary32 plus itself is infinity. -/
theorem test_fadd32 : faddBits fmt32 0x3F800000 0x40000000 = 0x40400000 ∧ faddBits fmt32 0x3F800000 0x33800000 = 0x3F800000 ∧
    faddBits fmt32 0x7F7FFFFF 0x7F7FFFFF = 0x7F800000 := by decide +kernel

/- The tick of frame 9 lies one frame of 65,536 st after that of frame 8 (R46). -/
theorem test_frame_tick : (after .frameTick base).clk.frame = 9 ∧ (after .frameTick base).clk.tick = 589824 := by decide +kernel

/- The atomic of R150 on a line of zeros: the old value 0 goes back, 3 is stored. -/
theorem test_fadd64_request : (let t := after (.fadd64Req atomReq) stackOps
    t.rdByte 0x40 = 3 ∧ t.rdByte 0x48 = 0 ∧ (t.net.replies.map fun a => a.value) = [0]) := by decide +kernel

/- A SIGNAL of 3 on a counter at 0 that one waiter waits on for 2 (R205). -/
theorem test_signal : (let t := after (.signalReq 0 sig0) waiting
    t.syncVal 7 = 3 ∧ (t.hub 0).waiters = [] ∧ t.net.replies.length = 1) := by decide +kernel

theorem test_smbus_bad_length : (after (.smbusRead [0x10] true) base).smbData = [] := by decide +kernel
theorem test_power_up : (after (.powerUp true false) State.reset).alive = true ∧ (after (.powerUp true false) State.reset).getF Reg.glbPhase = 0 := by
  decide +kernel

/-- The window holds an image of this part, with targets of 10 mW, whose digest is not yet written. -/
def imaged : State :=
  { base with
    regs := [(Reg.restoreOpen.addr, Reg.restoreOpen.mask), (imageBase, 0x49434650#32), (imageBase + 4, 1#32), (imageBase + 8, 40960#32)] ++
      ((List.range 33).map fun i => (imageBase + 32 + 4 * i, regReset (Reg.dieIdent i))) ++
      (List.range 324).map fun l => (imageBase + 38272 + 4 * l, 160#32) }

theorem imaged_head : imaged.imageBytes 0 12 = [0x50, 0x46, 0x43, 0x49, 1, 0, 0, 0] ++ bytesOfNat 4 40960 := by decide +kernel
theorem imaged_dies : ∀ i < 33,
    natOfBytes (imaged.imageBytes (32 + 4 * i) 4) &&& 0xBFFFFFFF = (imaged.getR (Reg.dieIdent i)).toNat &&& 0xBFFFFFFF := by decide +kernel
theorem imaged_keys : imaged.regs.all (fun e => decide (e.1 < imageBase + 39568)) = true := by decide +kernel
theorem imaged_resets : ∀ k < 348, regReset (imageBase + 4 * (9892 + k)) = 0 := by decide +kernel
theorem imaged_lasers : ∀ l < 324, 80 ≤ natOfBytes (imaged.imageBytes (38272 + 4 * l) 1) ∧
    natOfBytes (imaged.imageBytes (38272 + 4 * l) 1) ≤ 240 := by decide +kernel

/- Past the lasers the image reads 0. -/
theorem imaged_word (k : Nat) (l : 9892 ≤ k) (h : k < 10240) : imaged.getR (imageBase + k * 4) = 0 := by
  have r := imaged_resets (k - 9892) (by omega)
  rw [show imageBase + 4 * (9892 + (k - 9892)) = imageBase + k * 4 by omega] at r
  rw [State.getR, Tbl.look_unlisted, r]
  intro e he
  have := of_decide_eq_true (List.all_eq_true.1 imaged_keys e he)
  omega

theorem imaged_int (off i : Nat) (l : 39568 ≤ off) (h : off + 2 * i + 2 ≤ 40960) : imaged.imageInt off i = 0 := by
  simp only [State.imageInt, State.imageBytes, List.range, List.range.loop, List.map_cons, List.map_nil]
  rw [imaged_word _ (by omega) (by omega), imaged_word _ (by omega) (by omega)]
  simp [natOfBytes]

theorem imaged_inRange : imaged.imageInRange = true := by
  simp only [State.imageInRange, imagePlaces, imageTrims, State.inHardRange, List.all_eq_true, Bool.and_eq_true, List.mem_range,
    List.forall_mem_cons, List.not_mem_nil, false_imp_iff, implies_true, and_true, decide_eq_true_eq]
  refine ⟨⟨imaged_lasers, fun l h => ?_⟩, fun i h => ?_, fun i h => ?_, fun i h => ?_, fun i h => ?_⟩
  · exact decide_eq_true (by rw [imaged_int _ _ (by decide) (by omega)]; decide)
  · have z : ∀ j < 4, imaged.imageInt 39824 (i / 4 * 4 + j) = 0 := fun j hj => imaged_int _ _ (by omega) (by omega)
    rw [List.map_congr_left (g := fun _ => 0) fun j hj => z j (List.mem_range.1 hj), imaged_int _ _ (by omega) (by omega)]
    decide
  all_goals rw [imaged_int _ _ (by omega) (by omega)]; decide

theorem imaged_open : imaged.on Reg.restoreOpen = true ∧ imaged.alive = true := by decide +kernel

theorem witness_restore : ∃ s : State, s.on Reg.restoreOpen = true ∧ s.imageFault = 0 ∧ s.alive = true :=
  ⟨imaged.withDigest (shake256 (imaged.imageBytes 256 40704)),
    (State.withDigest_on imaged _ _ (by decide)).trans imaged_open.1,
    State.imageFault_withDigest imaged imaged_head imaged_dies (by decide) imaged_inRange,
    (State.withDigest_alive imaged _).trans imaged_open.2⟩

end Sys2Proof.Tests
end

section
/-!
SUPPORT. The issue of a slot command, said once: what the registers of its bundle are, when it stalls, and that it runs one slot.
-/
namespace Sys2Proof.Machine

/-! ## The begin of the bundle (R99, R100) -/

theorem State.alive_of_reaches {s : State} {h : SlotHdr} (hr : s.reaches h = true) : s.alive = true := by
  simp only [State.reaches, Bool.and_eq_true] at hr
  exact hr.1.1

/-- The first slot of a bundle issues only where fetch did not end (R108). -/
theorem State.issueEnd_opened_of_reaches {s : State} {h : SlotHdr} (hr : s.reaches h = true) (hf : h.fresh = true) :
    ((s.opened h).tile h.tile.unit).issueEnd = false := by
  simp only [State.reaches, hf, Bool.true_and, Bool.and_eq_true, Bool.not_eq_true', Bool.or_eq_false_iff] at hr
  exact hr.2.2

@[simp] theorem State.issueEnd_fetchEnd (s : State) (u : Nat) : ((s.fetchEnd u).tile u).issueEnd = true := by
  simp [State.fetchEnd]

/-- Fetch ends, or the next bundle issues with the registers as they stand for its slots to read (R100, R108). -/
theorem State.beginBundle_cases (s : State) (u : Nat) (h : SlotHdr) :
    s.beginBundle u h = s.fetchEnd u ∨
    s.beginBundle u h =
      ((((s.modTile u fun t => { t with bundle := t.next, next := t.next + 1,
                                        pre := ⟨t.sregs, t.preds, t.vregs, t.scales, t.done, t.rnd, []⟩ }).execCycles u
        (1 + h.stall)).tileBump u 4 h.slotFull).siteBump u 3 h.bank).tileBump u 8 h.corrected :=
  ite_eq_or_eq _ _ _

/-- A bundle that begins within its image reads the registers as they stood (R100). -/
theorem State.pre_beginBundle (s : State) (u : Nat) (h : SlotHdr) (he : ((s.beginBundle u h).tile u).issueEnd = false) :
    let t := s.tile u
    (s.beginBundle u h).pre u = ⟨t.sregs, t.preds, t.vregs, t.scales, t.done, t.rnd, []⟩ := by
  rcases State.beginBundle_cases s u h with hend | hbegun
  · simp [hend] at he
  · simp [hbegun, State.pre]

/-- A later slot of a bundle reads the registers that its first slot read (R100). -/
theorem State.pre_opened_of_not_fresh (s : State) (h : SlotHdr) (hf : h.fresh = false) :
    (s.opened h).pre h.tile.unit = s.pre h.tile.unit := by
  simp [State.opened, hf, State.pre]

/-- A slot that issues stalls exactly when its guard holds and its place is taken (R67, R99). -/
theorem State.stalls_of_reaches {s : State} {h : SlotHdr} (hr : s.reaches h = true) (full : Tile → Bool) :
    s.stalls h full = ((s.opened h).guard h && full (s.tile h.tile.unit)) := by
  cases hf : h.fresh
  case false => rw [State.stalls, State.guard, State.pre_opened_of_not_fresh s h hf, hf]; rfl
  case true =>
    have he := State.issueEnd_opened_of_reaches hr hf
    simp only [State.opened, hf, if_true] at he
    simp [State.stalls, State.guard, State.opened, hf, State.pre_beginBundle s _ h he, Pre.p, Tile.p]

/-! ## A slot command runs one slot -/

/-- What a slot command can do where the package runs: stall as a whole, or run one slot. -/
def RunsSlot (h : SlotHdr) (s : State) (o : Out) : Prop :=
  (∃ full, s.stalls h full = true ∧ o = .next s) ∨ ∃ pos legal act, o = .next (s.slot h pos legal act)

/-- A slot command whose guard is false does nothing beyond the begin of its bundle: it has no place to stall for. -/
theorem RunsSlot.eq_opened {s : State} {h : SlotHdr} {o : Out} (ho : RunsSlot h s o) (hr : s.reaches h = true)
    (hg : (s.opened h).guard h = false) : o = .next (s.opened h) := by
  rcases ho with ⟨full, hstall, _⟩ | ⟨pos, legal, act, rfl⟩
  · simp [State.stalls_of_reaches hr, hg] at hstall
  · rw [State.slot_guard_false h pos legal act s hr hg]

theorem State.live_slot {s : State} {h : SlotHdr} (ha : s.alive = true) (pos : Nat) (legal : State → Nat → Bool)
    (act : State → Nat → State) : (s.live fun s => .next (s.slot h pos legal act)) = .next (s.slot h pos legal act) :=
  State.live_of_alive s _ ha

theorem RunsSlot.of_live_slot {s : State} {h : SlotHdr} (ha : s.alive = true) (pos : Nat) (legal : State → Nat → Bool)
    (act : State → Nat → State) : RunsSlot h s (s.live fun s => .next (s.slot h pos legal act)) :=
  .inr ⟨pos, legal, act, State.live_slot ha _ _ _⟩

/-- A slot that needs a place runs when it does not stall. -/
theorem RunsSlot.of_live_stall {s : State} {h : SlotHdr} (ha : s.alive = true) (full : Tile → Bool) (pos : Nat)
    (legal : State → Nat → Bool) (act : State → Nat → State) :
    RunsSlot h s (s.live fun s => if s.stalls h full then .next s else .next (s.slot h pos legal act)) := by
  rw [State.live_of_alive s _ ha]
  split
  case isTrue hs => exact .inl ⟨full, hs, rfl⟩
  case isFalse => exact .inr ⟨pos, legal, act, rfl⟩

theorem RunsSlot.of_live_opXM {s : State} {h : SlotHdr} (ha : s.alive = true) (w : BitVec 22) (opc : Nat) :
    RunsSlot h s (s.live fun s => .next (s.opXM h w opc)) := by
  simp only [State.opXM, apply_ite Host.Outcome.next]
  exact .of_live_stall ha _ _ _ _

theorem RunsSlot.of_live_opXR {s : State} {h : SlotHdr} (ha : s.alive = true) (w : BitVec 22) (write : Bool) :
    RunsSlot h s (s.live fun s => .next (s.opXR h w write)) := by
  simp only [State.opXR, apply_ite Host.Outcome.next]
  exact .of_live_stall ha _ _ _ _

/-- SIGNAL and RIM_SET alone of the S slot need a place. -/
theorem runsSlot_sCommands {s : State} {h : SlotHdr} (ha : s.alive = true) (w : BitVec 22) :
    ∀ c ∈ sCommands h w, RunsSlot h s (exec c s) := by
  have hsignal : RunsSlot h s (exec (.signal h w) s) := .of_live_stall ha _ _ _ _
  have hrimSet : RunsSlot h s (exec (.rimSet h w) s) := .of_live_stall ha _ _ _ _
  simp only [sCommands, List.forall_mem_cons, List.not_mem_nil, IsEmpty.forall_iff, implies_true, and_true, true_and,
    hsignal, hrimSet]
  and_intros <;> exact .of_live_slot ha _ _ _

/-- The transcendentals, nineteenth to twenty-fifth in the list, are one lane operation. -/
theorem runsSlot_vCommands {s : State} {h : SlotHdr} (ha : s.alive = true) (w : BitVec 22) :
    ∀ c ∈ vCommands h w, RunsSlot h s (exec c s) := by
  have htrans (op : Nat) : RunsSlot h s (s.live fun s => .next (s.opTrans h w op)) := by
    simp only [State.opTrans, State.opVR]
    exact .of_live_slot ha _ _ _
  simp only [vCommands, List.forall_mem_cons]
  refine ⟨?_, ?_, ?_, ?_, ?_, ?_, ?_, ?_, ?_, ?_, ?_, ?_, ?_, ?_, ?_, ?_, ?_, ?_,
    htrans _, htrans _, htrans _, htrans _, htrans _, htrans _, htrans _, ?_, ?_, ?_, ?_, ?_, ?_, ?_, List.forall_mem_nil _⟩
  all_goals exact .of_live_slot ha _ _ _

theorem runsSlot_mCommands {s : State} {h : SlotHdr} (ha : s.alive = true) (w : BitVec 22) :
    ∀ c ∈ mCommands h w, RunsSlot h s (exec c s) := by
  simp only [mCommands, List.forall_mem_cons, List.not_mem_nil, IsEmpty.forall_iff, implies_true, and_true]
  and_intros <;> exact .of_live_slot ha _ _ _

/-- Every X slot but the row moves has format XM. -/
theorem runsSlot_xCommands {s : State} {h : SlotHdr} (ha : s.alive = true) (w : BitVec 22) :
    ∀ c ∈ xCommands h w, RunsSlot h s (exec c s) := by
  have hrowrd : RunsSlot h s (exec (.rowrd h w) s) := .of_live_opXR ha w _
  have hrowwr : RunsSlot h s (exec (.rowwr h w) s) := .of_live_opXR ha w _
  simp only [xCommands, List.forall_mem_cons, List.not_mem_nil, IsEmpty.forall_iff, implies_true, and_true,
    hrowrd, hrowwr]
  and_intros <;> exact .of_live_opXM ha w _

theorem runsSlot_slotCommands {s : State} {h : SlotHdr} (ha : s.alive = true) (w : BitVec 22) :
    ∀ c ∈ slotCommands h w, RunsSlot h s (exec c s) := by
  simp only [slotCommands, List.forall_mem_append]
  exact ⟨⟨⟨runsSlot_sCommands ha w, runsSlot_vCommands ha w⟩, runsSlot_mCommands ha w⟩, runsSlot_xCommands ha w⟩

/-! ## NOP and END (R83, R99, R101) -/

theorem exec_nop {s : State} (ha : s.alive = true) (h : SlotHdr) (p : SlotPos) (word : W32) :
    exec (.nop h p word) s =
      .next (s.slot h (SlotPos.num p) (fun _ _ => decide (word.toNat % 2 ^ 28 = 0)) fun s _ => s) :=
  State.live_slot ha _ _ _

theorem exec_endOp {s : State} (ha : s.alive = true) (h : SlotHdr) (w : BitVec 22) :
    exec (.endOp h w) s =
      .next (s.slot h 0 (fun _ _ => decide (w = 0)) fun s u => s.modTile u fun t => { t with issueEnd := true }) :=
  State.live_slot ha _ _ _

theorem exec_nop_zero {s : State} {h : SlotHdr} {p : SlotPos} (hacts : s.acts h (SlotPos.num p) = true) :
    exec (.nop h p 0) s = .next (s.issued h) := by
  have hr : s.reaches h = true := by
    simp only [State.acts, Bool.and_eq_true] at hacts
    exact hacts.1.1
  rw [exec_nop (State.alive_of_reaches hr), State.slot_acts h _ _ _ s hacts (by simp)]

theorem exec_nop_illegal {s : State} {h : SlotHdr} (hr : s.reaches h = true) (hg : (s.opened h).guard h = true) (p : SlotPos)
    (word : W32) (hw : word.toNat % 2 ^ 28 ≠ 0) :
    exec (.nop h p word) s =
      .next ((s.opened h).illegal h.tile.unit (SlotPos.num p) ((s.opened h).tile h.tile.unit).bundle 0) := by
  rw [exec_nop (State.alive_of_reaches hr), State.slot_illegal h _ _ _ s hr hg (decide_eq_false hw)]

theorem exec_endOp_illegal {s : State} {h : SlotHdr} (hr : s.reaches h = true) (hg : (s.opened h).guard h = true)
    (w : BitVec 22) (hw : w ≠ 0) :
    exec (.endOp h w) s = .next ((s.opened h).illegal h.tile.unit 0 ((s.opened h).tile h.tile.unit).bundle 0) := by
  rw [exec_endOp (State.alive_of_reaches hr), State.slot_illegal h _ _ _ s hr hg (decide_eq_false hw)]

/-! ## The statement -/

/-- Settles O1: every slot command runs one slot, or stalls for a place that only a slot whose guard holds asks for. -/
theorem guardsDecideWhetherASlotActs : Obligations.GuardsDecideWhetherASlotActs := by
  intro h w s hr
  have ha := State.alive_of_reaches hr
  refine ⟨congrFun₂ Bool.bne_eq_xor _ _, rfl, fun _ => rfl, fun hg => ⟨fun c hc => ?_, fun p word => ?_⟩,
    fun _ => exec_nop_zero, fun hg => ⟨fun p word hw => exec_nop_illegal hr hg p word ?_, exec_endOp_illegal hr hg w⟩⟩
  · exact (runsSlot_slotCommands ha w c hc).eq_opened hr hg
  · rw [exec_nop ha, State.slot_guard_false h _ _ _ s hr hg]
  · intro h28
    exact hw (by omega)

end Sys2Proof.Machine
end

section
/-!
SUPPORT. The lanes of the vector unit: how registers split into lanes, and what a slot of format VR writes, lane by lane, and
leaves as it was.
-/
namespace Sys2Proof.Machine

/-! ## Splitting and joining lanes (R109, R129) -/

theorem vWidth_mul_vCount (ty : Nat) : vWidth ty * vCount ty = 2048 := by
  unfold vCount vWidth
  split <;> rfl

theorem lanes_eq_map_range (w n x : Nat) : lanes w n x = (List.range n).map fun i => x / 2 ^ (w * i) % 2 ^ w := by
  induction n generalizing x with
  | zero => rfl
  | succ n ih =>
    simp [lanes, ih, List.range_succ_eq_map, Nat.div_div_eq_div_mul, ← pow_add, Nat.mul_succ, Nat.add_comm w]

theorem joinLanes_lt (w : Nat) (l : List Nat) : joinLanes w l < 2 ^ (w * l.length) := by
  induction l with
  | nil => simp [joinLanes]
  | cons x l ih =>
    have hx : x % 2 ^ w < 2 ^ w := Nat.mod_lt _ (Nat.two_pow_pos w)
    calc x % 2 ^ w + 2 ^ w * joinLanes w l
        < 2 ^ w * (joinLanes w l + 1) := by rw [Nat.mul_succ]; omega
      _ ≤ 2 ^ w * 2 ^ (w * l.length) := Nat.mul_le_mul_left _ ih
      _ = 2 ^ (w * (l.length + 1)) := by rw [← pow_add, Nat.mul_succ, Nat.add_comm]

theorem toNat_ofNat_joinLanes (w m : Nat) (l : List Nat) (hm : w * l.length = m) :
    (BitVec.ofNat m (joinLanes w l)).toNat = joinLanes w l := by
  subst hm
  rw [BitVec.toNat_ofNat, Nat.mod_eq_of_lt (joinLanes_lt w l)]

/-- A lane of joined elements is the low bits of its element. -/
theorem joinLanes_div_mod (w : Nat) (l : List Nat) (i : Nat) (hi : i < l.length) :
    joinLanes w l / 2 ^ (w * i) % 2 ^ w = l[i] % 2 ^ w := by
  induction l generalizing i with
  | nil => simp at hi
  | cons x l ih =>
    cases i with
    | zero => simp [joinLanes]
    | succ i =>
      have hx : (x % 2 ^ w + 2 ^ w * joinLanes w l) / 2 ^ w = joinLanes w l := by
        rw [Nat.add_mul_div_left _ _ (Nat.two_pow_pos w), Nat.div_eq_of_lt (Nat.mod_lt _ (Nat.two_pow_pos w)), Nat.zero_add]
      rw [joinLanes, Nat.mul_succ, Nat.add_comm (w * i), pow_add, ← Nat.div_div_eq_div_mul, hx]
      exact ih i (by simpa using hi)

/-- The lanes that a lane function computes from those of its three registers, each with its flags. -/
def laneResults (ty : Nat) (f : Nat → Nat → Nat → Nat × Nat) (a b c : VReg) (i : Nat) : Nat × Nat :=
  f (vlane (vWidth ty) a i) (vlane (vWidth ty) b i) (vlane (vWidth ty) c i)

theorem vecLanes_eq (ty : Nat) (f : Nat → Nat → Nat → Nat × Nat) (a b c : VReg) :
    vecLanes ty f a b c =
      (BitVec.ofNat 2048 (joinLanes (vWidth ty) ((List.range (vCount ty)).map fun i => (laneResults ty f a b c i).1)),
        (List.range (vCount ty)).foldl (fun acc i => acc ||| (laneResults ty f a b c i).2) 0) := by
  simp [vecLanes, lanes_eq_map_range, List.zip_map', List.zipWith_map, List.foldl_map, laneResults, vlane, Function.comp_def]

theorem vlane_vecLanes (ty : Nat) (f : Nat → Nat → Nat → Nat × Nat) (a b c : VReg) (i : Nat) (hi : i < vCount ty) :
    vlane (vWidth ty) (vecLanes ty f a b c).1 i = (laneResults ty f a b c i).1 % 2 ^ vWidth ty := by
  rw [vecLanes_eq, vlane, toNat_ofNat_joinLanes _ _ _ (by simp [vWidth_mul_vCount]),
    joinLanes_div_mod _ _ _ (by simpa using hi), List.getElem_map, List.getElem_range]

/-! ## A lane operation of format VR (R109, R110) -/

/-- What a slot of the vector unit with destination vd leaves as it was. -/
def KeepsButV (u vd : Nat) (t k : State) : Prop :=
  k.mem = t.mem ∧ (k.tile u).sregs = (t.tile u).sregs ∧ ∀ j, j ≠ vd → (k.tile u).v j = (t.tile u).v j

/-- State k is t with lanes of n bits written to vd and their flags, taken together, raised. -/
structure LanesWritten (n u vd : Nat) (g : Nat → Nat × Nat) (t k : State) : Prop where
  kept : KeepsButV u vd t k
  lane : ∀ i, i < 2048 / n → vlane n ((k.tile u).v vd) i = (g i).1 % 2 ^ n
  flags : (k.tile u).aflags =
    (t.tile u).aflags ||| BitVec.ofNat 64 ((List.range (2048 / n)).foldl (fun a i => a ||| (g i).2) 0)

/-- Whether saturation is in force for a slot of format VR: its SAT bit or RND.SAT (R145). -/
def satInForce (w : BitVec 22) (p : Pre) : Bool := decide (bits w 0 1 = 1) || rndSat p.rnd

/-- What a slot of format VR computes from the registers of before its bundle: the new vd, and the flags. -/
def vrOutput (w : BitVec 22) (f : RndCtl → Bool → Nat → Nat → Nat → Nat × Nat) (p : Pre) : VReg × Nat :=
  vecLanes (bits w 4 3) (f (vecCtl p.rnd) (satInForce w p)) (p.v (bits w 12 5)) (p.v (bits w 7 5)) (p.v (bits w 17 5))

/-- The same lane by lane, each with its flags. -/
def vrResults (w : BitVec 22) (f : RndCtl → Bool → Nat → Nat → Nat → Nat × Nat) (p : Pre) (i : Nat) : Nat × Nat :=
  laneResults (bits w 4 3) (f (vecCtl p.rnd) (satInForce w p)) (p.v (bits w 12 5)) (p.v (bits w 7 5)) (p.v (bits w 17 5)) i

theorem vrOutput_flags (w : BitVec 22) (f : RndCtl → Bool → Nat → Nat → Nat → Nat × Nat) (p : Pre) :
    (vrOutput w f p).2 =
      (List.range (2048 / vWidth (bits w 4 3))).foldl (fun a i => a ||| (vrResults w f p i).2) 0 :=
  congrArg Prod.snd (vecLanes_eq _ _ _ _ _)

theorem vlane_vrOutput (w : BitVec 22) (f : RndCtl → Bool → Nat → Nat → Nat → Nat × Nat) (p : Pre) (i : Nat)
    (hi : i < 2048 / vWidth (bits w 4 3)) :
    vlane (vWidth (bits w 4 3)) (vrOutput w f p).1 i = (vrResults w f p i).1 % 2 ^ vWidth (bits w 4 3) :=
  vlane_vecLanes _ _ _ _ _ i hi

/-- The effect of a slot of format VR on its tile. -/
def Tile.writeLanes (t : Tile) (w : BitVec 22) (f : RndCtl → Bool → Nat → Nat → Nat → Nat × Nat) : Tile :=
  (t.setV (bits w 17 5) (vrOutput w f t.pre).1).raiseFlags (vrOutput w f t.pre).2

@[simp] theorem Tile.writeLanes_sregs (t : Tile) (w : BitVec 22) (f : RndCtl → Bool → Nat → Nat → Nat → Nat × Nat) :
    (t.writeLanes w f).sregs = t.sregs := (rfl)

@[simp] theorem Tile.writeLanes_aflags (t : Tile) (w : BitVec 22) (f : RndCtl → Bool → Nat → Nat → Nat → Nat × Nat) :
    (t.writeLanes w f).aflags = t.aflags ||| BitVec.ofNat 64 (vrOutput w f t.pre).2 := (rfl)

@[simp] theorem Tile.writeLanes_v (t : Tile) (w : BitVec 22) (f : RndCtl → Bool → Nat → Nat → Nat → Nat × Nat) (j : Nat) :
    (t.writeLanes w f).v j = if j = bits w 17 5 then (vrOutput w f t.pre).1 else t.v j :=
  Tbl.look_put _ _ _ _ _

theorem lanesWritten_writeLanes (s : State) (u : Nat) (w : BitVec 22) (f : RndCtl → Bool → Nat → Nat → Nat → Nat × Nat) :
    LanesWritten (vWidth (bits w 4 3)) u (bits w 17 5) (vrResults w f (s.pre u)) s
      (s.modTile u fun t => t.writeLanes w f) where
  kept := ⟨State.modTile_mem _ _ _, by simp, fun j hj => by simp [hj]⟩
  lane i hi := by simpa [State.pre] using vlane_vrOutput w f (s.pre u) i hi
  flags := by simp [vrOutput_flags, State.pre]

theorem State.opVR_acts {s : State} {h : SlotHdr} (hacts : s.acts h 1 = true) (w : BitVec 22) {legal : Bool}
    (hl : legal = true) (f : RndCtl → Bool → Nat → Nat → Nat → Nat × Nat) :
    s.opVR h w legal f = (s.issued h).modTile h.tile.unit fun t => t.writeLanes w f :=
  State.slot_acts h 1 _ _ s hacts hl

theorem State.alive_of_acts {s : State} {h : SlotHdr} {pos : Nat} (hacts : s.acts h pos = true) : s.alive = true := by
  simp only [State.acts, Bool.and_eq_true] at hacts
  obtain ⟨⟨hreaches, _⟩, _⟩ := hacts
  exact State.alive_of_reaches hreaches

/-- The rule of format VR: a legal slot that acts writes its lanes, and nothing else but flags. -/
theorem State.live_opVR {s : State} {h : SlotHdr} (hacts : s.acts h 1 = true) (w : BitVec 22) {legal : Bool}
    (hl : legal = true) (f : RndCtl → Bool → Nat → Nat → Nat → Nat × Nat) :
    ∃ k, (s.live fun s => .next (s.opVR h w legal f)) = .next k ∧
      LanesWritten (vWidth (bits w 4 3)) h.tile.unit (bits w 17 5) (vrResults w f ((s.issued h).pre h.tile.unit))
        (s.issued h) k := by
  rw [State.live_of_alive s _ (State.alive_of_acts hacts), State.opVR_acts hacts w hl]
  exact ⟨_, rfl, lanesWritten_writeLanes _ _ w f⟩

end Sys2Proof.Machine
end

section
/-!
PROOF. Integer vector lanes (R145): the delivery of an exact integer as a bit vector with its flags, and the operations on
integer lanes.
-/
namespace Sys2Proof.Machine

/-! ## Integer lanes as bit vectors (R126, R145) -/

theorem sval_toNat {n : Nat} (hn : 0 < n) (x : BitVec n) : sval n x.toNat = x.toInt := by
  have hpow : 2 ^ n = 2 * 2 ^ (n - 1) := by rw [← pow_succ', Nat.sub_add_cancel hn]
  rw [sval, BitVec.toInt_eq_toNat_cond, Nat.mod_eq_of_lt x.isLt]
  by_cases hx : 2 ^ (n - 1) ≤ x.toNat
  · rw [if_pos hx, if_neg (by omega), Nat.cast_pow, Nat.cast_ofNat]
  · rw [if_neg hx, if_pos (by omega)]

theorem sbits_eq_toNat_ofInt (n : Nat) (e : Int) : sbits n e = (BitVec.ofInt n e).toNat := by
  simp [sbits]

/-- The value delivered is the result held to the range where saturation is in force, and the low bits of the result where it
is not. -/
theorem deliverInt_fst (n : Nat) (sat : Bool) (e : Int) :
    (deliverInt n sat e).1 = sbits n (if sat = true then max (smin n) (min (smax n) e) else e) := by
  have hrange : smin n ≤ smax n := by
    have hpos : (0 : Int) < 2 ^ (n - 1) := by positivity
    unfold smin smax
    omega
  cases sat
  case false => exact (apply_ite Prod.fst _ _ _).trans (ite_self _)
  case true =>
    unfold deliverInt
    rw [if_pos rfl, if_pos rfl, apply_ite Prod.fst, ← apply_ite (sbits n)]
    congr 1
    split_ifs <;> omega

theorem ofNat_deliverInt (n : Nat) (sat : Bool) (e : Int) :
    BitVec.ofNat n (deliverInt n sat e).1 =
      BitVec.ofInt n (if sat = true then max (smin n) (min (smax n) e) else e) := by
  rw [deliverInt_fst, sbits_eq_toNat_ofInt, BitVec.ofNat_toNat, BitVec.setWidth_eq]

theorem flag_deliverInt (n : Nat) (sat : Bool) (e : Int) :
    (deliverInt n sat e).2 = if e < smin n ∨ smax n < e then (if sat = true then fSD else fOF) else 0 := by
  unfold deliverInt
  split_ifs <;> rfl

/-- Lanes that each raise the same flags, or none, raise them together when one of them does. -/
theorem foldl_or_ite (p : Nat → Prop) [DecidablePred p] (c : Nat) (l : List Nat) (a : Nat) :
    l.foldl (fun a i => a ||| if p i then c else 0) a = if ∃ i ∈ l, p i then a ||| c else a := by
  induction l generalizing a with
  | nil => simp
  | cons i l ih =>
    rw [List.foldl_cons, ih]
    by_cases hi : p i <;> by_cases hl : ∃ i ∈ l, p i <;> simp [hi, hl]

/-! ## Integer operations of format VR (R145) -/

/-- The lanes of vd hold the bit vectors f. -/
def LanesAre (n u vd : Nat) (k : State) (f : Nat → BitVec n) : Prop :=
  ∀ i, i < 2048 / n → BitVec.ofNat n (vlane n ((k.tile u).v vd) i) = f i

/-- The outcome delivers the exact integers f to the lanes of vd: saturated with SD, or wrapped with OF. -/
def DeliversLanes (n u vd : Nat) (sat : Bool) (t : State) (o : Out) (f : Nat → Int) : Prop :=
  ∃ k, o = .next k ∧ KeepsButV u vd t k ∧
    LanesAre n u vd k (fun i => BitVec.ofInt n (if sat = true then max (smin n) (min (smax n) (f i)) else f i)) ∧
    ((∀ i, i < 2048 / n → smin n ≤ f i ∧ f i ≤ smax n) → (k.tile u).aflags = (t.tile u).aflags) ∧
    ((∃ i, i < 2048 / n ∧ (f i < smin n ∨ smax n < f i)) →
      (k.tile u).aflags = (t.tile u).aflags ||| (if sat = true then 0x20 else 4))

/-- The outcome writes the lanes f to vd and sets no flag. -/
def WritesQuietly (n u vd : Nat) (t : State) (o : Out) (f : Nat → BitVec n) : Prop :=
  ∃ k, o = .next k ∧ KeepsButV u vd t k ∧ LanesAre n u vd k f ∧ (k.tile u).aflags = (t.tile u).aflags

theorem LanesWritten.lanesAre {n u vd : Nat} {g : Nat → Nat × Nat} {t k : State} (hk : LanesWritten n u vd g t k) :
    LanesAre n u vd k fun i => BitVec.ofNat n (g i).1 := by
  intro i hi
  apply BitVec.eq_of_toNat_eq
  simp [hk.lane i hi]

/-- Delivered lanes raise SD or OF when a lane's exact result is outside the range, and nothing when none is. -/
theorem foldl_flag_deliverInt (n m : Nat) (sat : Bool) (f : Nat → Int) :
    (List.range m).foldl (fun a i => a ||| (deliverInt n sat (f i)).2) 0 =
      if ∃ i, i < m ∧ (f i < smin n ∨ smax n < f i) then (if sat = true then fSD else fOF) else 0 := by
  simp only [flag_deliverInt, foldl_or_ite, Nat.zero_or, List.mem_range]

theorem LanesWritten.delivers {n u vd : Nat} {sat : Bool} {f : Nat → Int} {t k : State} {o : Out} (ho : o = .next k)
    (hk : LanesWritten n u vd (fun i => deliverInt n sat (f i)) t k) : DeliversLanes n u vd sat t o f := by
  have hflags := hk.flags
  rw [foldl_flag_deliverInt] at hflags
  refine ⟨k, ho, hk.kept, fun i hi => ?_, fun hin => ?_, fun hout => ?_⟩
  · exact (hk.lanesAre i hi).trans (ofNat_deliverInt n sat (f i))
  · have hnone : ¬ ∃ i, i < 2048 / n ∧ (f i < smin n ∨ smax n < f i) := by
      rintro ⟨i, hi, hout⟩
      have hi := hin i hi
      omega
    rw [hflags, if_neg hnone]
    exact BitVec.or_zero
  · rw [hflags, if_pos hout]
    cases sat <;> rfl

theorem LanesWritten.quiet {n u vd : Nat} {f : Nat → Nat} {t k : State} {o : Out} (ho : o = .next k)
    (hk : LanesWritten n u vd (fun i => (f i, 0)) t k) : WritesQuietly n u vd t o fun i => BitVec.ofNat n (f i) := by
  refine ⟨k, ho, hk.kept, hk.lanesAre, ?_⟩
  have hzero : (List.range (2048 / n)).foldl (fun a _ => a ||| 0) 0 = 0 := by simp
  rw [hk.flags, hzero]
  exact BitVec.or_zero

/-- Lane i of register r as the bundle's slots read it, as a bit vector. -/
def laneWord (n : Nat) (p : Pre) (r i : Nat) : BitVec n := BitVec.ofNat n (vlane n (p.v r) i)

theorem toNat_laneWord (n : Nat) (p : Pre) (r i : Nat) : (laneWord n p r i).toNat = vlane n (p.v r) i := by
  simp [laneWord, vlane]

theorem vWidth_pos (ty : Nat) : 0 < vWidth ty :=
  Nat.pos_of_ne_zero fun h0 => by simpa [h0] using vWidth_mul_vCount ty

theorem sval_vlane (ty : Nat) (p : Pre) (r i : Nat) :
    sval (vWidth ty) (vlane (vWidth ty) (p.v r) i) = (laneWord (vWidth ty) p r i).toInt :=
  toNat_laneWord _ p r i ▸ sval_toNat (vWidth_pos ty) _

theorem vrResults_intLane {w : BitVec 22} {n : Nat} (hn : vWidth (bits w 4 3) = n) (op : Int → Int → Int → Int) (p : Pre)
    (i : Nat) :
    vrResults w (fun _ sat => intLane (bits w 4 3) sat op) p i = deliverInt n (satInForce w p)
      (op (laneWord n p (bits w 12 5) i).toInt (laneWord n p (bits w 7 5) i).toInt (laneWord n p (bits w 17 5) i).toInt) := by
  subst hn
  simp only [vrResults, laneResults, intLane, sval_vlane]

/-- An integer operation on signed lanes delivers its exact results. -/
theorem State.delivers_opVR {s t : State} {h : SlotHdr} (hacts : s.acts h 1 = true) (ht : s.issued h = t) {w : BitVec 22}
    {n : Nat} (hn : vWidth (bits w 4 3) = n) {legal : Bool} (hl : legal = true)
    {f : RndCtl → Bool → Nat → Nat → Nat → Nat × Nat} (op : Int → Int → Int → Int)
    (hf : f = fun _ sat => intLane (bits w 4 3) sat op) :
    DeliversLanes n h.tile.unit (bits w 17 5) (satInForce w (t.pre h.tile.unit)) t
      (s.live fun s => .next (s.opVR h w legal f))
      (fun i => op (laneWord n (t.pre h.tile.unit) (bits w 12 5) i).toInt
        (laneWord n (t.pre h.tile.unit) (bits w 7 5) i).toInt
        (laneWord n (t.pre h.tile.unit) (bits w 17 5) i).toInt) := by
  obtain ⟨k, ho, hk⟩ := State.live_opVR hacts w hl f
  rw [ht, hf, funext (vrResults_intLane hn op _), hn] at hk
  exact LanesWritten.delivers ho hk

theorem vrResults_quiet {w : BitVec 22} {n : Nat} (hn : vWidth (bits w 4 3) = n) (op : BitVec n → BitVec n → BitVec n)
    {f : RndCtl → Bool → Nat → Nat → Nat → Nat × Nat}
    (hf : ∀ c sat (x y : BitVec n) z, f c sat x.toNat y.toNat z = ((op x y).toNat, 0)) (p : Pre) (i : Nat) :
    vrResults w f p i = ((op (laneWord n p (bits w 12 5) i) (laneWord n p (bits w 7 5) i)).toNat, 0) := by
  subst hn
  simp only [vrResults, laneResults, ← toNat_laneWord, hf]

/-- A lane function that sets no flag writes its lanes quietly. -/
theorem State.quiet_opVR {s t : State} {h : SlotHdr} (hacts : s.acts h 1 = true) (ht : s.issued h = t) {w : BitVec 22}
    {n : Nat} (hn : vWidth (bits w 4 3) = n) {legal : Bool} (hl : legal = true)
    {f : RndCtl → Bool → Nat → Nat → Nat → Nat × Nat} (op : BitVec n → BitVec n → BitVec n)
    (hf : ∀ c sat (x y : BitVec n) z, f c sat x.toNat y.toNat z = ((op x y).toNat, 0)) :
    WritesQuietly n h.tile.unit (bits w 17 5) t (s.live fun s => .next (s.opVR h w legal f))
      (fun i => op (laneWord n (t.pre h.tile.unit) (bits w 12 5) i) (laneWord n (t.pre h.tile.unit) (bits w 7 5) i)) := by
  obtain ⟨k, ho, hk⟩ := State.live_opVR hacts w hl f
  rw [ht, funext (vrResults_quiet hn op hf _), hn] at hk
  simpa only [BitVec.ofNat_toNat, BitVec.setWidth_eq] using LanesWritten.quiet ho hk

theorem arithLane_of_isInt {ty : Nat} (hint : vIsInt ty = true) (fop : RndCtl → FVal → FVal → FVal → FVal × Nat)
    (iop : Int → Int → Int → Int) : arithLane ty fop iop = fun _ sat => intLane ty sat iop := by
  funext c sat x y z
  exact if_pos hint

/-! ### Lane functions that set no flag -/

theorem toNat_shiftLeft_lane {n : Nat} (x y : BitVec n) :
    x.toNat * 2 ^ (y.toNat % n) % 2 ^ n = (x <<< (y.toNat % n)).toNat := by
  rw [BitVec.toNat_shiftLeft, Nat.shiftLeft_eq]

theorem toNat_ushiftRight_lane {n : Nat} (x y : BitVec n) : x.toNat / 2 ^ (y.toNat % n) = (x >>> (y.toNat % n)).toNat := by
  rw [BitVec.toNat_ushiftRight, Nat.shiftRight_eq_div_pow]

/-- Floor division of the signed lane shifts its sign in. -/
theorem sbits_fdiv_sval {n : Nat} (hn : 0 < n) (x : BitVec n) (m : Nat) :
    sbits n (Int.fdiv (sval n x.toNat) (2 ^ m : Int)) = (x.sshiftRight m).toNat := by
  rw [sval_toNat hn, sbits_eq_toNat_ofInt, BitVec.sshiftRight_eq, Int.fdiv_eq_ediv_of_nonneg _ (by positivity),
    Int.shiftRight_eq_div_pow, Nat.cast_pow, Nat.cast_ofNat]

theorem minMaxLane_of_isInt {ty n : Nat} (hint : vIsInt ty = true) (hn : vWidth ty = n) (c : RndCtl) (isMax : Bool)
    (x y : BitVec n) :
    minMaxLane ty c isMax x.toNat y.toNat =
      ((BitVec.ofInt n (if isMax then max x.toInt y.toInt else min x.toInt y.toInt)).toNat, 0) := by
  subst hn
  simp only [minMaxLane, if_pos hint, sval_toNat (vWidth_pos ty)]
  cases isMax
  case false =>
    rcases lt_or_ge y.toInt x.toInt with hlt | hge
    · simp [hlt, min_eq_right hlt.le]
    · simp [not_lt.mpr hge, min_eq_left hge]
  case true =>
    rcases lt_or_ge x.toInt y.toInt with hlt | hge
    · simp [hlt, max_eq_right hlt.le]
    · simp [not_lt.mpr hge, max_eq_left hge]

/-! ### The statement -/

theorem vrLegal_of_isInt {w : BitVec 22} (hint : vIsInt (bits w 4 3) = true) (h7 : bits w 4 3 ≠ 7) (hcc : bits w 1 3 = 0) :
    vrLegal w = true :=
  decide_eq_true ⟨h7, hcc, .inr (of_decide_eq_true hint)⟩

theorem vWidth_of_isInt {ty : Nat} (hint : vIsInt ty = true) :
    vWidth ty = if ty = 4 then 32 else if ty = 5 then 16 else 8 := by
  have h4 : 4 ≤ ty := of_decide_eq_true hint
  match ty, h4 with
  | 4, _ | 5, _ | _ + 6, _ => rfl

/-- Settles O9: the arithmetic operations deliver exact integers, the others are functions of bit vectors without flags. The
state in which the slot is issued stays a variable, as nothing depends on how its bundle began. -/
theorem integerVectorLanes : Obligations.IntegerVectorLanes := by
  intro h w s hacts h4 h6 hcc
  have hint : vIsInt (bits w 4 3) = true := decide_eq_true h4
  have hn := vWidth_of_isInt hint
  have hpos := hn ▸ vWidth_pos (bits w 4 3)
  have hl := vrLegal_of_isInt hint (by omega) hcc
  have hshift : shiftLegal w = true := by rw [shiftLegal, hl, hint]; rfl
  have hunary (hb : bits w 7 5 = 0) : (vrLegal w && decide (bits w 7 5 = 0)) = true := by rw [hl, decide_eq_true hb]; rfl
  generalize ht : s.issued h = t
  have harith {fop} (iop) := State.delivers_opVR hacts ht hn hl iop (arithLane_of_isInt hint fop iop)
  refine ⟨harith fun a b _ => a + b, harith fun a b _ => a - b, harith fun a b _ => a * b, harith fun a b d => a * b + d,
    harith fun a b d => a * b - d, harith fun a b d => d - a * b,
    fun hb => State.delivers_opVR hacts ht hn (hunary hb) (fun a _ _ => |a|) ?abs,
    fun hb => State.delivers_opVR hacts ht hn (hunary hb) (fun a _ _ => -a) ?neg,
    State.quiet_opVR hacts ht hn hshift (fun x y => x <<< (y.toNat % _)) ?shl,
    State.quiet_opVR hacts ht hn hshift (fun x y => x >>> (y.toNat % _)) ?shr,
    State.quiet_opVR hacts ht hn hshift (fun x y => x.sshiftRight (y.toNat % _)) ?sar,
    State.quiet_opVR hacts ht hn hl (fun x y => BitVec.ofInt _ (min x.toInt y.toInt)) ?min,
    State.quiet_opVR hacts ht hn hl (fun x y => BitVec.ofInt _ (max x.toInt y.toInt)) ?max⟩
  case abs => funext _ sat x y z; simp [hint, intLane]
  case neg => funext _ sat x y z; exact if_pos hint
  case shl => intro _ _ x y _; simp only [hn, toNat_shiftLeft_lane]
  case shr => intro _ _ x y _; simp only [hn, toNat_ushiftRight_lane]
  case sar => intro _ _ x y _; simp only [hn, sbits_fdiv_sval hpos]
  case min => intro c _ x y _; exact minMaxLane_of_isInt hint hn c false x y
  case max => intro c _ x y _; exact minMaxLane_of_isInt hint hn c true x y

end Sys2Proof.Machine
end

section
/-!
PROOF. The word of a region entry that is in force in a frame, and what a fold of the table leaves of it (R264, R267).
-/
namespace Sys2Proof.Machine

/-! ## The word in force (R264) -/

/-- The model measures how far frame n lies behind frame a in natural numbers; the spec subtracts modulo 2^16. -/
theorem frameDistance_lt_iff (n a : Nat) :
    (n % 2 ^ 16 + 2 ^ 16 - a % 2 ^ 16) % 2 ^ 16 < 2 ^ 15 ↔ ((n : Int) - (a : Int)) % 2 ^ 16 < 2 ^ 15 := by
  omega

theorem Region.word_eq (r : Region) (n : Nat) :
    r.word n = if r.pending = true ∧ ((n : Int) - (r.atFrame : Int)) % 2 ^ 16 < 2 ^ 15 then r.staged else r.active := by
  simp only [Region.word, frameDistance_lt_iff]

theorem Region.word_congr (r : Region) {n m : Nat} (h : n % 2 ^ 16 = m % 2 ^ 16) : r.word n = r.word m := by
  simp only [Region.word, h]

/-! ## Folds (R267) -/

/-- An entry that is not due stays as it is; one that is due becomes its staged word, no longer pending. -/
theorem Region.fold_cases (r : Region) (f : Nat) :
    r.fold f = r ∨ r.pending = true ∧ r.fold f = { r with active := r.staged, pending := false } := by
  unfold Region.fold
  split
  case isTrue hdue => exact .inr ⟨hdue.1, rfl⟩
  case isFalse => exact .inl rfl

/-- A fold early in the half circle of frames that is due keeps the word in force in the frames that follow: they lie in the
same half circle, where the staged word was in force already. -/
theorem Region.word_fold (r : Region) {f n : Nat} (hle : f ≤ n) (hlt : n < f + 2 ^ 14)
    (hdue : ((f : Int) - (r.atFrame : Int)) % 2 ^ 16 < 2 ^ 14) : (r.fold f).word n = r.word n := by
  rcases r.fold_cases f with hkept | ⟨hpending, hfolded⟩
  · rw [hkept]
  · have hn : ((n : Int) - (r.atFrame : Int)) % 2 ^ 16 < 2 ^ 15 := by omega
    rw [hfolded, r.word_eq n, if_pos ⟨hpending, hn⟩]
    simp [Region.word]

/-- One entry's turn in a fold of the region table. -/
def State.foldEntry (s : State) (e : Nat × Region) : State :=
  if e.2.fold s.clk.frame = e.2 then s else (s.setRegion e.1 (e.2.fold s.clk.frame)).wroteEntry e.1

theorem exec_regionFold {s : State} (ha : s.alive = true) :
    exec .regionFold s = .next (s.regions.foldl State.foldEntry s) :=
  State.live_of_alive s (fun s => .next (s.regions.foldl State.foldEntry s)) ha

/-- Writing an entry in both copies of its partition changes only what the store dies record. -/
theorem State.wroteEntry_clk_regions (s : State) (g : Nat) :
    (s.wroteEntry g).clk = s.clk ∧ (s.wroteEntry g).regions = s.regions := by
  refine List.foldlRecOn (motive := fun k : State => k.clk = s.clk ∧ k.regions = s.regions) _ _ ⟨rfl, rfl⟩ fun k hk d _ => ?_
  dsimp only
  split <;> exact hk

@[simp] theorem State.clk_foldEntry (s : State) (e : Nat × Region) : (s.foldEntry e).clk = s.clk := by
  unfold State.foldEntry
  split
  · rfl
  · exact (State.wroteEntry_clk_regions _ _).1

theorem State.region_foldEntry_cases (s : State) (e : Nat × Region) (g : Nat) :
    (s.foldEntry e).region g = s.region g ∨ e.1 = g ∧ (s.foldEntry e).region g = e.2.fold s.clk.frame := by
  unfold State.foldEntry
  split
  · exact .inl rfl
  · rw [State.region, (State.wroteEntry_clk_regions _ _).2, ← State.region, State.region_setRegion]
    split
    case isTrue hg => exact .inr ⟨hg.symm, rfl⟩
    case isFalse => exact .inl rfl

/-- A fold of the table leaves the entry of a granule as it was or folds it, where the table lists no other entry for it. -/
theorem State.region_foldEntries_cases (s : State) (g : Nat) (hone : ∀ e ∈ s.regions, e.1 = g → e.2 = s.region g) :
    (s.regions.foldl State.foldEntry s).region g = s.region g ∨
    (s.regions.foldl State.foldEntry s).region g = (s.region g).fold s.clk.frame := by
  refine (List.foldlRecOn (motive := fun k : State => k.clk = s.clk ∧
    (k.region g = s.region g ∨ k.region g = (s.region g).fold s.clk.frame)) _ _ ⟨rfl, .inl rfl⟩ fun k hk e he => ?_).2
  obtain ⟨hclk, hregion⟩ := hk
  refine ⟨(k.clk_foldEntry e).trans hclk, ?_⟩
  rcases k.region_foldEntry_cases e g with hkept | ⟨hg, hfolded⟩
  · rwa [hkept]
  · exact .inr (by rw [hfolded, hone e he hg, hclk])

/-! ## The statement -/

/-- Settles O58: the word in force depends on the frame modulo 2^16 alone, and a fold leaves it as it was because a folded entry
holds the word that was in force. -/
theorem regionEntriesChangeAtTheirTick : Obligations.RegionEntriesChangeAtTheirTick := by
  refine ⟨Region.word_eq, fun r _ _ h => r.word_congr h, fun s t g n ha ht hone hle hlt hdue => ?_⟩
  rw [exec_regionFold ha] at ht
  obtain rfl := Host.Outcome.next.inj ht
  rcases s.region_foldEntries_cases g.val hone with hkept | hfolded
  · rw [hkept]
  · rw [hfolded, Region.word_fold _ hle hlt hdue]

end Sys2Proof.Machine
end
